-- ==== Sys2Proof/Word.lean ====
section
/-! DEFINITION. The word types of the part: the bytes of the ports and of the head line, the 16-bit
words of the heads, and the set of thirteen sticky flags. Every quantity of the manual that is counted
or measured (masses, counts, numbers of pieces, feeders and bins) is a `Nat`. -/

namespace Sys2Proof

/-- A byte as it crosses a port or the head line (R202, R208). -/
abbrev Byte := BitVec 8

/-- A 16-bit word of a head: status word, identity word or settings data (R166, R208). -/
abbrev Half := BitVec 16

/-- A set of sticky flags: flag number n of R202 is bit n. -/
abbrev FlagSet := BitVec 13

end Sys2Proof
end

