-- ==== Sys2Proof/Syntax.lean ====
section
/-! DEFINITION. The commands of the part: one constructor of `Instr` for each row of
spec/opcode_table.json. A transfer carries the bytes its processor clocks in. A request row is the
EXECUTION of the oldest frame of a port's intake (R186): its operands cross the port inside that frame,
as R203 lays them out, and stand in the intake when the command comes; the command names the port. -/

namespace Sys2Proof

/-- The two ports (R182): the track processor's and the plan processor's. -/
inductive Port where
  | track
  | plan
deriving DecidableEq, Repr

/-- How a settings save ends (R198). -/
inductive SaveResult where
  | ok
  | failed
deriving DecidableEq, Repr

/-- The commands. Each docstring names the rule of its row. -/
inductive Instr where
  /-- SEND (R183): a SEND transfer; `bytes` are the bytes clocked in after the transfer code. -/
  | send (p : Port) (bytes : List Byte)
  /-- FETCH (R187): a FETCH transfer; `n` bytes are clocked after the transfer code. -/
  | fetch (p : Port) (n : Nat)
  /-- STATUS_TRANSFER (R182): a transfer whose code is neither SEND nor FETCH, with `n` bytes after it. -/
  | statusTransfer (p : Port) (code : Byte) (n : Nat)
  /-- BAD_FRAME (R184): the oldest frame of the intake is broken and its turn comes. -/
  | badFrame (p : Port)
  /-- UNKNOWN_REQUEST_KIND (R186): the oldest frame carries a kind code that no request uses. -/
  | unknownRequestKind (p : Port)
  /-- STATUS (R188). -/
  | status (p : Port)
  /-- READ_NOTICES (R193). -/
  | readNotices (p : Port)
  /-- CLEAR_FLAGS (R191). -/
  | clearFlags (p : Port)
  /-- SET_ATTENTION_MASK (R194). -/
  | setAttentionMask (p : Port)
  /-- SET_DEFAULT_REPORT (R189). -/
  | setDefaultReport (p : Port)
  /-- HEAD_ACCESS (R175). -/
  | headAccess (p : Port)
  /-- READ_SLOT (R177). -/
  | readSlot (p : Port)
  /-- READ_PIECE (R23). -/
  | readPiece (p : Port)
  /-- READ_FEEDERS (R79). -/
  | readFeeders (p : Port)
  /-- READ_BINS (R160). -/
  | readBins (p : Port)
  /-- READ_HEADS (R179). -/
  | readHeads (p : Port)
  /-- READ_CENSUS (R135). -/
  | readCensus (p : Port)
  /-- RUN_RESET (R196). -/
  | runReset (p : Port)
  /-- LINE_STATE (R1). -/
  | lineState (p : Port)
  /-- SHEET (R30). -/
  | sheet (p : Port)
  /-- RELEASE (R43). -/
  | release (p : Port)
  /-- FOLDED (R104). -/
  | folded (p : Port)
  /-- PULL_RESULT (R88). -/
  | pullResult (p : Port)
  /-- ENVELOPED (R105). -/
  | enveloped (p : Port)
  /-- WEIGHED (R106). -/
  | weighed (p : Port)
  /-- AT_GATE (R107). -/
  | atGate (p : Port)
  /-- EXITED (R111). -/
  | exited (p : Port)
  /-- PURGE (R114). -/
  | purge (p : Port)
  /-- RESYNC (R49). -/
  | resync (p : Port)
  /-- OPEN_RUN (R2). -/
  | openRun (p : Port)
  /-- CLOSE_RUN (R3). -/
  | closeRun (p : Port)
  /-- LOAD_PIECES (R10). -/
  | loadPieces (p : Port)
  /-- AMEND_PIECE (R15). -/
  | amendPiece (p : Port)
  /-- CANCEL_PIECE (R17). -/
  | cancelPiece (p : Port)
  /-- READ_OUTCOMES (R21). -/
  | readOutcomes (p : Port)
  /-- ACK_OUTCOMES (R22). -/
  | ackOutcomes (p : Port)
  /-- READ_TRAYS (R158). -/
  | readTrays (p : Port)
  /-- ACK_TRAYS (R159). -/
  | ackTrays (p : Port)
  /-- SET_STOCK (R55). -/
  | setStock (p : Port)
  /-- SET_ENVELOPE (R56). -/
  | setEnvelope (p : Port)
  /-- SET_FEEDER (R77). -/
  | setFeeder (p : Port)
  /-- SET_BANDS (R59). -/
  | setBands (p : Port)
  /-- SET_SORT (R119). -/
  | setSort (p : Port)
  /-- SET_KEY_RULE (R122). -/
  | setKeyRule (p : Port)
  /-- SET_LIMITS (R57). -/
  | setLimits (p : Port)
  /-- SET_HEAD_MAP (R164). -/
  | setHeadMap (p : Port)
  /-- SAVE_SETTINGS (R198). -/
  | saveSettings (p : Port)
  /-- SAVE_END (R198): the save that is in progress finishes writing. -/
  | saveEnd (r : SaveResult)
  /-- POWER_ON_RESET (R199): the RESET input or power-on. -/
  | powerOnReset
  /-- POWER_ON_LOAD_END (R201): the profile load ends. -/
  | powerOnLoadEnd
  /-- HEAD_REPLY (R166): a reply on the head line, taken whole. -/
  | headReply (bytes : List Byte)
  /-- REPLY_WINDOW_EXPIRY (R166): the 400 µs reply window expires with no reply begun. -/
  | replyWindowExpiry
deriving DecidableEq, Repr

end Sys2Proof
end

