-- ==== Sys2Proof/Decode.lean ====
section
/-! DEFINITION. The command a word spells by the bits of spec/opcode_table.json. No row of the table gives bits (a
command of this part is a transfer, the execution of a frame, or an event), so no word spells one. -/

namespace Sys2Proof

/-- The command of a word of the opcode table: none, as no row gives bits. -/
def decodeTableWord (_nbits _w : Nat) : Option Instr := none

end Sys2Proof
end

