-- ==== Sys2Proof/Machine/Profile.lean ====
section
/-! DEFINITION. The settings of the active profile (R197) as plain data, the pair of values the two ports
hold, and the numbered tables (feeders, bins, heads, stocks, slots). -/

namespace Sys2Proof.Machine

/-- A value for each of the two ports. -/
structure PerPort (α : Type) where
  track : α
  plan  : α
deriving DecidableEq, Repr, Inhabited

/-- The value of one port. -/
def PerPort.get {α : Type} (x : PerPort α) : Port → α
  | .track => x.track
  | .plan => x.plan

/-- The pair with one port's value changed. -/
def PerPort.modify {α : Type} (x : PerPort α) (p : Port) (f : α → α) : PerPort α :=
  match p with
  | .track => { x with track := f x.track }
  | .plan => { x with plan := f x.plan }

/-- Entry `i` of a numbered table, counted from 0. An `i` past the end reads the last entry; every rule
checks its numbers before it reads. -/
def nth {α : Type} {n : Nat} (v : Vector α (n + 1)) (i : Nat) : α := v[min i n]

/-- The table with entry `i` replaced. -/
def setNth {α : Type} {n : Nat} (v : Vector α (n + 1)) (i : Nat) (a : α) : Vector α (n + 1) :=
  v.set (min i n) a

/-- The four STATUS reports (R188). -/
inductive Report where
  | run | track | flags | bins
deriving DecidableEq, Repr, Inhabited

/-- The feeder policy of the limits (R45, R57). -/
inductive FeederPolicy where
  | hold | divert
deriving DecidableEq, Repr, Inhabited

/-- The mode of a key rule slot (R121). -/
inductive RuleMode where
  | wide | half | quarter
deriving DecidableEq, Repr, Inhabited

/-- The kind of head expected at an address (R163). -/
inductive HeadKind where
  | none
  | feeder (station : Nat)
  | reader | folder | scale | gate | sorter
deriving DecidableEq, Repr, Inhabited

/-- A stock record (R54): grammage in dg, width and length in tmm, caliper in µm. -/
structure Stock where
  configured : Bool
  grammage   : Nat
  width      : Nat
  length     : Nat
  caliper    : Nat
deriving DecidableEq, Repr, Inhabited

/-- The envelope record (R56). -/
structure Envelope where
  width     : Nat
  height    : Nat
  clearance : Nat
  throat    : Nat
  mass      : Nat
  caliper   : Nat
deriving DecidableEq, Repr, Inhabited

/-- The limits record (R57). -/
structure Limits where
  foldLimit         : Nat
  massCeiling       : Nat
  toleranceFloor    : Nat
  tolerancePermille : Nat
  scaleInLine       : Bool
  weighRequired     : Bool
  accumulatorLimit  : Nat
  resyncReach       : Nat
  orphanLimit       : Nat
  feederPolicy      : FeederPolicy
deriving DecidableEq, Repr, Inhabited

/-- The fields of a feeder that belong to the profile (R75). -/
structure FeederSetting where
  code    : Nat
  mass    : Nat
  caliper : Nat
  enabled : Bool
deriving DecidableEq, Repr, Inhabited

/-- The sort settings (R119). -/
structure SortSettings where
  fineLength     : Nat
  areaLength     : Nat
  fineMinimum    : Nat
  areaMinimum    : Nat
  trayPieceLimit : Nat
  trayMassLimit  : Nat
deriving DecidableEq, Repr, Inhabited

/-- A key rule slot (R121). A pattern position is a digit, or `none` for ANY. -/
structure KeyRule where
  enabled : Bool
  mode    : RuleMode
  pattern : List (Option Nat)
  bin     : Nat
deriving DecidableEq, Repr, Inhabited

/-- A profile (R197). -/
structure Profile where
  stocks        : Vector Stock 4
  envelope      : Envelope
  limits        : Limits
  bands         : List Nat
  feeders       : Vector FeederSetting 8
  sort          : SortSettings
  keyRules      : Vector KeyRule 8
  headMap       : Vector HeadKind 16
  pollEnable    : Bool
  defaultReport : PerPort Report
  attentionMask : PerPort FlagSet
deriving DecidableEq, Repr, Inhabited

/-- The setting of feeder `k`, 1 to 8. -/
def Profile.feeder (f : Profile) (k : Nat) : FeederSetting := nth f.feeders (k - 1)

/-- Key rule slot `k`, 1 to 8. -/
def Profile.keyRule (f : Profile) (k : Nat) : KeyRule := nth f.keyRules (k - 1)

/-- The numbers of the feeders, the key rule slots and the bins, and the head addresses, in order. -/
def feederNumbers : List Nat := [1, 2, 3, 4, 5, 6, 7, 8]
def slotNumbers : List Nat := [1, 2, 3, 4, 5, 6, 7, 8]
def binNumbers : List Nat := [1, 2, 3, 4, 5, 6]
def headAddresses : List Nat := [0, 1, 2, 3, 4, 5, 6, 7, 8, 9, 10, 11, 12, 13, 14, 15]

/-- A feeder carries a code when its insert code equals that code and is not 0 (R75). -/
def Profile.carries (f : Profile) (k code : Nat) : Bool :=
  (f.feeder k).code == code && code != 0

/-- The head address of feeder `k`: the lowest address mapped FEEDER(k), or none (R76). -/
def Profile.feederHead (f : Profile) (k : Nat) : Option Nat :=
  headAddresses.find? fun a => nth f.headMap a == .feeder k

/-- The sorter head: the lowest address mapped SORTER, or none (R140). -/
def Profile.sorterHead (f : Profile) : Option Nat :=
  headAddresses.find? fun a => nth f.headMap a == .sorter

/-- The slot that bin `b` is dedicated to, or none for a pool bin (R121). -/
def Profile.dedicatedSlot (f : Profile) (b : Nat) : Option Nat :=
  slotNumbers.find? fun k => (f.keyRule k).enabled && (f.keyRule k).bin == b

end Sys2Proof.Machine
end

