-- ==== Sys2Proof/Machine/Factory.lean ====
section
/-! DEFINITION. The factory defaults (R200, with the factory columns of R57, R119 and R163). -/

namespace Sys2Proof.Machine

def factoryStock : Stock := ⟨false, 800, 2100, 2970, 100⟩

def factoryEnvelope : Envelope := ⟨2250, 1140, 50, 5000, 4500, 90⟩

def factoryLimits : Limits where
  foldLimit := 3
  massCeiling := 100000
  toleranceFloor := 1500
  tolerancePermille := 30
  scaleInLine := true
  weighRequired := false
  accumulatorLimit := 24
  resyncReach := 4
  orphanLimit := 3
  feederPolicy := .hold

def factorySort : SortSettings := ⟨5, 3, 150, 100, 300, 12000000⟩

/-- Slot k dedicates bin k for k = 1 to 6, and bin 6 for slots 7 and 8; every slot is disabled (R121). -/
def factoryKeyRule (bin : Nat) : KeyRule := ⟨false, .wide, List.replicate 8 none, bin⟩

/-- The factory head map of R163. -/
def factoryHeadMap : Vector HeadKind 16 :=
  #v[.none, .feeder 1, .feeder 2, .feeder 3, .feeder 4, .feeder 5, .feeder 6, .feeder 7, .feeder 8,
     .reader, .folder, .scale, .gate, .sorter, .none, .none]

/-- FRAME_ERROR_T, OUT_OF_ORDER, SYNC_LOST and NOTICE_LOST_T: flags 0, 3, 4 and 7 (R200, R202). -/
def factoryTrackMask : FlagSet := 0b0000010011001

/-- FRAME_ERROR_P, ACCESS_FAULT, CENSUS_FULL, TRAY_LIST_FULL, NOTICE_LOST_P, HEAD_SILENT,
OUTCOMES_DISCARDED, PROFILE_DEFAULTED and SAVE_FAILED: flags 1, 2, 5, 6 and 8 to 12 (R200, R202). -/
def factoryPlanMask : FlagSet := 0b1111101100110

/-- The factory profile (R200). -/
def factoryProfile : Profile where
  stocks := #v[factoryStock, factoryStock, factoryStock, factoryStock]
  envelope := factoryEnvelope
  limits := factoryLimits
  bands := [20000, 50000, 100000]
  feeders := Vector.replicate 8 ⟨0, 0, 0, true⟩
  sort := factorySort
  keyRules := #v[factoryKeyRule 1, factoryKeyRule 2, factoryKeyRule 3, factoryKeyRule 4,
                 factoryKeyRule 5, factoryKeyRule 6, factoryKeyRule 6, factoryKeyRule 6]
  headMap := factoryHeadMap
  pollEnable := true
  defaultReport := ⟨.track, .run⟩
  attentionMask := ⟨factoryTrackMask, factoryPlanMask⟩

end Sys2Proof.Machine
end

