-- ==== Sys2Proof/Machine/Bytes.lean ====
section
/-! DEFINITION. Bytes: numbers of more than one byte (R202), the CRC-8 of R185, and the decimal digits of
keys and prefixes (R204, R205). -/

namespace Sys2Proof.Machine

/-- The number a list of bytes stands for, most significant byte first (R202). -/
def beNat (bs : List Byte) : Nat := bs.foldl (fun acc b => acc * 256 + b.toNat) 0

/-- The `width` bytes of a number, most significant byte first (R202). -/
def toBytes : Nat → Nat → List Byte
  | 0, _ => []
  | width + 1, n => BitVec.ofNat 8 (n / 256 ^ width) :: toBytes width n

/-- Byte `i` of a payload, as a number. -/
def byteAt (bs : List Byte) (i : Nat) : Nat := (bs.getD i 0).toNat

/-- The number in the `width` bytes of a payload from byte `i` on. -/
def fieldAt (bs : List Byte) (i width : Nat) : Nat := beNat ((bs.drop i).take width)

/-- One step of the check register: shifted one place toward its most significant end, and combined with
07 hex when the bit shifted out was 1 (R185). -/
def crcStep (r : Byte) : Byte := if r.getLsbD 7 then (r <<< 1) ^^^ 0x07 else r <<< 1

/-- A byte combined into the check register, which is then stepped eight times (R185). -/
def crcByte (r b : Byte) : Byte :=
  crcStep (crcStep (crcStep (crcStep (crcStep (crcStep (crcStep (crcStep (r ^^^ b))))))))

/-- The frame check of both ports and of the head line (R185). -/
def crc8 (bs : List Byte) : Byte := bs.foldl crcByte 0

/-- The half-bytes of a list of bytes, high half first: the digits of a destination key (R205). -/
def halves : List Byte → List Nat
  | [] => []
  | b :: bs => b.toNat / 16 :: b.toNat % 16 :: halves bs

/-- Decimal digits as four bytes of half-bytes, those beyond the digits given being F hex (R204). -/
def digitBytes (ds : List Nat) : List Byte :=
  [0, 2, 4, 6].map fun i => BitVec.ofNat 8 (ds.getD i 15 * 16 + ds.getD (i + 1) 15)

/-- Key order: prefixes compared digit by digit from position 1, a prefix standing before every longer one
that begins with its digits (R135). -/
def digitsBefore : List Nat → List Nat → Bool
  | [], [] => false
  | [], _ :: _ => true
  | _ :: _, [] => false
  | a :: as, b :: bs => a < b || (a == b && digitsBefore as bs)

/-- A quotient rounded half up (R54, R68; the rounding of the manual's section 1.5). -/
def divHalfUp (n d : Nat) : Nat := if d ≤ 2 * (n % d) then n / d + 1 else n / d

/-- A yes or no as its code, 0 no and 1 yes (R203). -/
def yesNo (b : Bool) : Nat := if b then 1 else 0

end Sys2Proof.Machine
end

