-- ==== Sys2Proof/Machine/MakeUp.lean ====
section
/-! DEFINITION. The arithmetic of chapter 3: sheet mass, fold plan, mass, thickness, tolerance and band. -/

namespace Sys2Proof.Machine

/-- The sheet mass of a stock record in mg: g × W × L divided by 1,000,000, rounded half up (R54). -/
def stockSheetMass (k : Stock) : Nat := divHalfUp (k.grammage * k.width * k.length) 1000000

/-- The folded length for `p` panels: L divided by p, rounded up to the next whole tmm (R60). -/
def foldedLength (length p : Nat) : Nat := (length + p - 1) / p

/-- The fold plan: the smallest panel count up to the fold limit that fits, or `none` for NO_FIT (R60). -/
def foldPlan (k : Stock) (e : Envelope) (foldLimit : Nat) : Option Nat :=
  if k.width ≤ e.width - e.clearance then
    ((List.range foldLimit).map (· + 1)).find? fun p =>
      foldedLength k.length p ≤ e.height - e.clearance
  else none

/-- The ceiling at which the mass of a make-up saturates, in mg (R62). -/
def massSaturation : Nat := 1048575

/-- The ceiling at which the thickness of a make-up saturates, in µm (R63). -/
def thicknessSaturation : Nat := 65535

/-- The mass of a make-up over the inserts counted, as (mass, caliper) pairs (R61, R62). -/
def makeUpMass (sheets sheetMass : Nat) (inserts : List (Nat × Nat)) (e : Envelope) : Nat :=
  min (sheets * sheetMass + (inserts.map Prod.fst).sum + e.mass) massSaturation

/-- The thickness of a make-up (R63). -/
def makeUpThickness (sheets caliper panels : Nat) (inserts : List (Nat × Nat)) (e : Envelope) : Nat :=
  min (sheets * caliper * panels + (inserts.map Prod.snd).sum + 2 * e.caliper) thicknessSaturation

/-- The tolerance of a piece of expected mass `x` (R68). -/
def weighTolerance (l : Limits) (x : Nat) : Nat :=
  max l.toleranceFloor (divHalfUp (x * l.tolerancePermille) 1000)

/-- The number of the first band, in band order from `k`, whose upper limit is at or above `m`; a mass
above the last limit takes the last band (R71). -/
def bandFrom : Nat → List Nat → Nat → Nat
  | k, [], _ => k
  | k, [_], _ => k
  | k, u :: us, m => if m ≤ u then k else bandFrom (k + 1) us m

/-- The band of a final mass (R71). -/
def bandOf (bands : List Nat) (m : Nat) : Nat := bandFrom 1 bands m

/-- The positive difference of two masses (R69). -/
def massDifference (m x : Nat) : Nat := (m - x) + (x - m)

end Sys2Proof.Machine
end

