-- ==== Sys2Proof/Config.lean ====
section
/-! DEFINITION. What the manual leaves open, as constants with no body: no proof can see their value, and a
claim holds whatever they are. -/

namespace Sys2Proof.Config

open Sys2Proof.Machine

/-- The values of response payloads for which the layouts of R202 to R209 give no width, no code or no
arrangement, although a rule names the value (the last paragraph of R209). -/
inductive OpenField where
  /-- A number of records or pieces with no width of its own: RUN report (R188), RUN_RESET (R196),
  SHEET skips (R30), CLOSE_RUN (R3), ACK_OUTCOMES (R22), census size (R135), track entries (R112). -/
  | count
  /-- The extent of a list whose length the rule does not name: RELEASE (R45, R46), ENVELOPED (R96). -/
  | listLength
  /-- Which kind of owner follows: none, ORPHAN or a piece (R30, R44, R51). -/
  | owner
  /-- What a collation record holds: empty, open, waiting or ready (R51). -/
  | recordStatus
  /-- The sheets joined of a collation (R44, R51). -/
  | sheetsJoined
  /-- The orphan run count (R51). -/
  | orphanRun
  /-- The intake state (R51). -/
  | intakeState
  /-- The release hold, and the cause of a HOLD verdict (R45, R46, R51). -/
  | releaseHold
  /-- The allocator position (R112). -/
  | allocator
  /-- The stage of a track entry (R103, R110, R112). -/
  | stage
  /-- A STALL or a WAIT in place of a gate decision (R107). -/
  | gateVerdict
  /-- An ACCEPTED or a JOINED in place of a fault (R30). -/
  | sheetOutcome
  /-- Where an ended collation went: it did not end, it moved to ready, it waits (R30). -/
  | endPlace
  /-- The verdict of RELEASE: FOLD, DIVERT or HOLD (R43). -/
  | releaseVerdict
  /-- The action of a PULL_RESULT: NONE, PULL, MISSING or SKIPPED (R93). -/
  | pullAction
  /-- The weigh result (R67). -/
  | weighResult
  /-- The tolerance applied (R68). -/
  | tolerance
  /-- The verdict of CANCEL_PIECE (R17). -/
  | cancelVerdict
  /-- The sheet mass in the answer of SET_STOCK (R55). -/
  | sheetMass
deriving DecidableEq, Repr

/-- The bytes in which an open value crosses the port. DESIGN CHOICE, notes/assumptions/7.md. -/
opaque openField : OpenField → Nat → List Byte

/-- What a FETCH shifts out after the last byte of its response: R187 gives the zeros that follow for the
empty queue alone. The argument is the model's counter of free values. -/
opaque fetchTail : Nat → Byte

/-- The bytes a profile takes in the non-volatile memory, over which its check byte is computed (R197): no
layout is given. -/
opaque profileImage : Profile → List Byte

/-- What the non-volatile memory is left holding by a save that failed or was abandoned (R198). -/
opaque tornContents : Nat → Profile

/-- The check byte left by a save that failed or was abandoned (R198). -/
opaque tornCheck : Nat → Byte

/-- The continuation number of a tray whose group would pass 65,535 (R144, R145). -/
opaque continuationPastEnd : Nat → Nat

end Sys2Proof.Config
end

