-- ==== Sys2Proof/Machine/Types.lean ====
section
/-! DEFINITION. The types of the part's state, block by block as section 1.3 of the manual divides it. -/

namespace Sys2Proof.Machine

/-! ### Run Table (chapter 1) -/

/-- The run states (R1); `opened` is the manual's OPEN. -/
inductive RunState where
  | closed | opened | draining
deriving DecidableEq, Repr

/-- The line states (R1). -/
inductive LineState where
  | stopped | running
deriving DecidableEq, Repr

/-- The states of a piece record (R7). -/
inductive PieceState where
  | loaded | collating | onTrack | finished
deriving DecidableEq, Repr

/-- The dispositions (R6, R19). -/
inductive Disposition where
  | binned | diverted | cancelled | notFed
deriving DecidableEq, Repr

/-- The divert causes, in the order of their numbers (R8, R206). -/
inductive Cause where
  | missingSheet | duplicateSheet | markMismatch | unreadable
  | skippedAhead | skippedByResync | runClosed | feederUnavailable
  | foldMismatch | missingInsert | doubleInsert | weightMismatch
  | unweighed | overMass | overThick | gateJam | purged
deriving DecidableEq, Repr

/-- The census reference of a piece record (R6, R124). -/
inductive CensusRef where
  | counted | uncounted | reprint
  | ruled (k : Nat)
deriving DecidableEq, Repr

/-- An entry of an insert list (R6). -/
structure InsertEntry where
  code     : Nat
  required : Bool
deriving DecidableEq, Repr

/-- The results of a pull entry (R85). -/
inductive PullResult where
  | pending | taken | double | miss | passed
deriving DecidableEq, Repr

/-- The origins of a pull entry (R85). -/
inductive PullOrigin where
  | release | substitute
deriving DecidableEq, Repr

/-- A pull entry (R85). -/
structure PullEntry where
  feeder : Nat
  code   : Nat
  result : PullResult
  origin : PullOrigin
deriving DecidableEq, Repr

/-- The planned make-up: fold panels, mass in mg, thickness in µm (R6). -/
structure MakeUp where
  panels    : Nat
  mass      : Nat
  thickness : Nat
deriving DecidableEq, Repr

/-- What names a piece record: its sequence number and its reprint count (R29, R99). -/
structure PieceId where
  seq     : Nat
  reprint : Nat
deriving DecidableEq, Repr

/-- A piece record (R6). `faults` is the fault set in the order the causes were added, so that the primary
cause is its first member (R8). -/
structure Piece where
  id            : PieceId
  run           : Nat
  sheets        : Nat
  stock         : Nat
  inserts       : List InsertEntry
  key           : List Nat
  state         : PieceState
  cancelPending : Bool
  faults        : List Cause
  planned       : MakeUp
  expected      : Option (Nat × Nat)
  measured      : Option Nat
  band          : Option Nat
  pulls         : List PullEntry
  skipped       : List Nat
  tag           : Option Nat
  census        : CensusRef
  tray          : Option (Nat × Nat)
  disposition   : Option Disposition
deriving DecidableEq, Repr

/-- The Run Table: run state, run number, line state, the piece table in load order and the outcome order
(R1, R5, R20). -/
structure RunTable where
  runState  : RunState
  runNumber : Nat
  lineState : LineState
  pieces    : List Piece
  outcomes  : List PieceId
deriving DecidableEq, Repr

/-! ### Collation Checker (chapter 2) -/

/-- The owner of a collation (R26). -/
inductive Owner where
  | orphan
  | piece (id : PieceId)
deriving DecidableEq, Repr

/-- A collation (R26). -/
structure Collation where
  owner    : Owner
  identity : Option PieceId
  accepted : List Nat
  highest  : Nat
  joined   : Nat
  faults   : List Cause
  ended    : Bool
deriving DecidableEq, Repr

/-- The intake states (R40). -/
inductive IntakeState where
  | inSync | syncLost
deriving DecidableEq, Repr

/-- The release hold (R48); `free` is the manual's NONE. -/
inductive ReleaseHold where
  | free | feeder | trackFull
deriving DecidableEq, Repr

/-- The Collation Checker. The cursor is the number of records that stand before it (R26, R27, R39, R48). -/
structure Checker where
  forming     : Option Collation
  ready       : Option Collation
  cursor      : Nat
  orphanRun   : Nat
  intake      : IntakeState
  releaseHold : ReleaseHold
deriving DecidableEq, Repr

/-! ### Insert Dispatcher (chapter 4) -/

/-- The feeder states (R80). -/
inductive FeederState where
  | disabled | offline | jammed | empty | low | ready
deriving DecidableEq, Repr

/-- The working state of a feeder; its settings stand in the active profile and its head address follows
from the head map (R75, R76). -/
structure Feeder where
  state      : FeederState
  missRun    : Nat
  takenCount : Nat
  lastRefill : Nat
deriving DecidableEq, Repr

/-! ### Track Queue (chapter 5) -/

/-- The stages, in their order (R102). -/
inductive Stage where
  | released | folded | enveloped | weighed | atGate | gated
deriving DecidableEq, Repr

/-- A gate decision kept in a track entry (R99). -/
inductive GateDecision where
  | divert
  | bin (b : Nat)
deriving DecidableEq, Repr

/-- A track entry (R99). -/
structure TrackEntry where
  tag      : Nat
  piece    : PieceId
  stage    : Stage
  stalled  : Bool
  decision : Option GateDecision
deriving DecidableEq, Repr

/-- The Track Queue: the entries in release order and the allocator position (R99 to R101). -/
structure TrackQueue where
  entries   : List TrackEntry
  allocator : Nat
deriving DecidableEq, Repr

/-! ### Presort Unit (chapter 6) -/

/-- The levels of a fine entry (R127). -/
inductive FineLevel where
  | undecided | fine | coarse
deriving DecidableEq, Repr

/-- The levels of an area entry (R127). -/
inductive AreaLevel where
  | area | mixed
deriving DecidableEq, Repr

/-- What a census entry is: a fine entry with its count and level, or an area entry with its level (R127). -/
inductive EntryKind where
  | fine (count : Nat) (level : FineLevel)
  | area (level : AreaLevel)
deriving DecidableEq, Repr

/-- A census entry (R127). The census is kept in key order (R135). -/
structure CensusEntry where
  digits : List Nat
  kind   : EntryKind
deriving DecidableEq, Repr

/-- A level with its group, as the Presort Unit answers it and a tray keeps it (R132, R144). -/
inductive TrayGroup where
  | fine (digits : List Nat)
  | area (digits : List Nat)
  | mixed
  | rule (k : Nat)
deriving DecidableEq, Repr

/-! ### Bin Manager (chapter 7) -/

/-- The bin states (R139); `opened` is the manual's OPEN. -/
inductive BinState where
  | free | opened | fullWait | clearing | fault | offline
deriving DecidableEq, Repr

/-- The tray states (R144); `opened` is the manual's OPEN. -/
inductive TrayState where
  | opened | closing | closed
deriving DecidableEq, Repr

/-- The close reasons (R144). -/
inductive CloseReason where
  | groupEnd | fullCount | fullMass | removed | binFault | runEnd
deriving DecidableEq, Repr

/-- A tray record (R144). -/
structure Tray where
  id           : Nat
  run          : Nat
  group        : TrayGroup
  continuation : Nat
  bin          : Nat
  state        : TrayState
  count        : Nat
  reserved     : Nat
  mass         : Nat
  reservedMass : Nat
  bandCounts   : Vector Nat 8
  firstSeq     : Option Nat
  lastSeq      : Option Nat
  reason       : Option CloseReason
deriving DecidableEq, Repr

/-- A bin record with the tray the bin holds: OPEN, CLOSING, or CLOSED and not yet delivered (R139). -/
structure Bin where
  state : BinState
  tray  : Option Tray
deriving DecidableEq, Repr

/-- A reservation record (R150). -/
structure Reservation where
  tag    : Nat
  trayId : Nat
  mass   : Nat
deriving DecidableEq, Repr

/-- The stall: the entry's tag, with the level and group of its piece (R151). -/
structure Stall where
  tag   : Nat
  group : TrayGroup
deriving DecidableEq, Repr

/-- The Bin Manager. The delivery queue names the bins whose CLOSED trays wait, in the order in which the
trays became CLOSED; each such tray stands in its bin until it is delivered (R139, R156, R157). -/
structure BinManager where
  table        : Vector Bin 6
  delivery     : List Nat
  closedTrays  : List Tray
  reservations : List Reservation
  stall        : Option Stall
  trayCounter  : Nat
deriving DecidableEq, Repr

/-! ### Head Line Controller (chapter 8) -/

/-- The states of a head table entry (R165). -/
inductive HeadState where
  | absent | present | silent | mismatch
deriving DecidableEq, Repr

/-- A head table entry (R165). -/
structure HeadEntry where
  state         : HeadState
  failedRun     : Nat
  lastStatus    : Option Half
  lastIdentity  : Option Half
  pendingStatus : Option Half
deriving DecidableEq, Repr

/-- A head access: address, index, and the data word of a write, none for a read (R175). -/
structure Access where
  address : Nat
  index   : Nat
  write   : Option Half
deriving DecidableEq, Repr

/-- The outcomes of a transaction (R166). -/
inductive LineOutcome where
  | reply | nak | checkError | noReply
deriving DecidableEq, Repr

/-- An access slot (R174). A COMPLETE slot holds the outcome and, for a read replied to, the data word. -/
inductive Slot where
  | idle
  | waiting (a : Access)
  | active (a : Access)
  | complete (a : Access) (o : LineOutcome) (data : Option Half)
deriving DecidableEq, Repr

/-- What a transaction on the line belongs to: a status poll, an identity read, or a slot (R168, R174). -/
inductive LineOwner where
  | statusPoll
  | identityRead
  | slot (p : Port)
deriving DecidableEq, Repr

/-- The transaction on the line; a poll may be marked stale (R164, R166). -/
structure Transaction where
  owner  : LineOwner
  access : Access
  stale  : Bool
deriving DecidableEq, Repr

/-- The Head Line Controller (R165, R168, R174, R178). `lastPoll` is the address of the last poll begun since
power-on reset (R164); `sent` is what the part last sent on the line (R208). -/
structure HeadLine where
  table        : Vector HeadEntry 16
  pollPosition : Nat
  identityDue  : Option Nat
  lastPoll     : Option Nat
  slots        : PerPort Slot
  lastGranted  : Port
  line         : Option Transaction
  sent         : List Byte
deriving DecidableEq, Repr

/-! ### Ports (chapter 9) -/

/-- The sticky flags, in the order of their numbers (R190, R202). -/
inductive StickyFlag where
  | frameErrorT | frameErrorP | accessFault | outOfOrder | syncLost | censusFull | trayListFull
  | noticeLostT | noticeLostP | headSilent | outcomesDiscarded | profileDefaulted | saveFailed
deriving DecidableEq, Repr

/-- The results of a response, in the order of their codes (R187, R202). -/
inductive Result where
  | done | badFrame | notPermitted | badArg | wrongState | full | busy | locked | tooLate | notFound
  | outOfOrder | duplicate | mismatch | notPlanned | nothingReady | holdSheet | syncLost | binTaken
  | noPool | inUse | loadRefused
deriving DecidableEq, Repr

/-- One value of a response payload: a number in a width the layouts give, or a value whose width or code they
leave open. notes/assumptions/7.md and 8.md. -/
inductive Value where
  | num (width value : Nat)
  | code (what : Config.OpenField) (value : Nat)
deriving DecidableEq, Repr

/-- A response: the kind byte echoed, the result and the values of the payload (R186, R202). -/
structure Response where
  kind   : Byte
  result : Result
  answer : List Value
deriving DecidableEq, Repr

/-- The notices (R193). A decision in GATE_GO is the entry's gate decision. -/
inductive Notice where
  | gateGo (tag : Nat) (d : GateDecision)
  | holdCleared
  | syncLost
  | binWait (tag : Nat) (g : TrayGroup) (dedicated : Option (Nat × BinState))
  | binState (bin : Nat) (st : BinState) (tray : Option Nat)
  | feederState (feeder : Nat) (st : FeederState) (missRun : Nat)
  | headState (address : Nat) (kind : HeadKind) (st : HeadState) (word : Option Half)
  | slotDone (a : Access) (o : LineOutcome)
  | runState (st : RunState)
  | purgeDone (track collations orphans : Nat)
  | outcomes
  | trayClosed (id run bin : Nat) (reason : Option CloseReason)
  | saveDone (r : SaveResult)
  | resyncDone (seq count : Nat)
deriving DecidableEq, Repr

/-- A port: the request intake, each frame as received; the response queue; the notice queue; and the bytes
the part shifted out in the port's latest transfer (R182 to R187, R192). -/
structure PortState where
  intake    : List (List Byte)
  responses : List Response
  notices   : List Notice
  shifted   : List Byte
deriving DecidableEq, Repr

/-- The output lines, true for asserted: an attention output for each port and the hold output (R194, R195). -/
structure Pins where
  attention : PerPort Bool
  hold      : Bool
deriving DecidableEq, Repr

/-! ### Settings Store (section 9.8) -/

/-- The stored profile in non-volatile memory: its validity marker, its contents, its check byte (R197). -/
structure Stored where
  marker   : Bool
  contents : Profile
  check    : Byte
deriving DecidableEq, Repr

/-- The Settings Store: the active profile, the stored profile, the snapshot of a save in progress, and
whether the part is still starting (R197 to R199). -/
structure Settings where
  active   : Profile
  stored   : Stored
  save     : Option Profile
  starting : Bool
deriving DecidableEq, Repr

end Sys2Proof.Machine
end

