-- ==== Sys2Proof/Machine/PowerOn.lean ====
section
/-! DEFINITION. The power-on values of the blocks, as each chapter of the manual states them. -/

namespace Sys2Proof.Machine

/-- The Run Table after power-on reset (R24). -/
def RunTable.powerOn : RunTable := ⟨.closed, 0, .stopped, [], []⟩

/-- The Collation Checker after power-on reset, and after a run reset (R52, R53). -/
def Checker.powerOn : Checker := ⟨none, none, 0, 0, .inSync, .free⟩

/-- The sheet masses of a profile's four stock records (R54, R73). -/
def sheetMasses (f : Profile) : Vector Nat 4 := Vector.ofFn fun i => stockSheetMass f.stocks[i]

/-- A feeder after power-on reset (R97). -/
def Feeder.powerOn (setting : FeederSetting) : Feeder :=
  ⟨if setting.enabled then .offline else .disabled, 0, 0, 0⟩

/-- The feeder table after power-on reset (R97). -/
def powerOnFeeders (f : Profile) : Vector Feeder 8 := Vector.ofFn fun i => Feeder.powerOn f.feeders[i]

/-- The Track Queue after power-on reset, and after a run reset (R117, R118). -/
def TrackQueue.powerOn : TrackQueue := ⟨[], 0⟩

/-- The Bin Manager after power-on reset (R161). -/
def BinManager.powerOn : BinManager := ⟨Vector.replicate 6 ⟨.offline, none⟩, [], [], [], none, 1⟩

/-- A head table entry after power-on reset (R180). -/
def HeadEntry.powerOn : HeadEntry := ⟨.absent, 0, none, none, none⟩

/-- A port after the power-on load (R201). -/
def PortState.powerOn : PortState := ⟨[], [], [], []⟩

/-- An address is mapped when its expected kind is not NONE (R163). -/
def Profile.mapped (f : Profile) (a : Nat) : Bool := nth f.headMap a != .none

/-- The lowest mapped address, or 0 when none is mapped (R164, R180). -/
def Profile.lowestMapped (f : Profile) : Nat := (headAddresses.find? f.mapped).getD 0

/-- The Head Line Controller after power-on reset, before the arbiter's first decision (R180). -/
def HeadLine.powerOn (f : Profile) : HeadLine where
  table := Vector.replicate 16 HeadEntry.powerOn
  pollPosition := f.lowestMapped
  identityDue := none
  lastPoll := none
  slots := ⟨.idle, .idle⟩
  lastGranted := .plan
  line := none
  sent := []

/-- The stored profile of a part that has never completed a save: no validity marker. DESIGN CHOICE, notes/assumptions/1.md. -/
def Stored.blank : Stored := ⟨false, factoryProfile, 0⟩

end Sys2Proof.Machine
end

