-- ==== Sys2Proof/Machine/State.lean ====
section
/-! DEFINITION. The state of the part as plain data, and the state right after power-on reset. -/

namespace Sys2Proof.Machine

/-- The part. `free` is the MODEL's counter of free values, and `pending` is the queue of commands that wait,
first in first out. notes/assumptions/6.md and 11.md. -/
structure State where
  run       : RunTable
  checker   : Checker
  sheetMass : Vector Nat 4
  feeders   : Vector Feeder 8
  track     : TrackQueue
  census    : List CensusEntry
  bins      : BinManager
  heads     : HeadLine
  ports     : PerPort PortState
  flags     : FlagSet
  pins      : Pins
  settings  : Settings
  free      : Nat
  pending   : List Instr
deriving DecidableEq, Repr

/-- No command of this part stops with a fault: the manual answers every misuse with a result code or a
flag, so the type has no constructor. -/
inductive Fault where
deriving DecidableEq, Repr

/-- Why a command has no meaning. -/
inductive Refusal where
  /-- Raised by the arm of a command that has no meaning yet; no arm of this model raises it. Safe. -/
  | notModelled (mnemonic : String)
deriving DecidableEq, Repr

/-- The part right after power-on reset with an invalid stored profile (R199 to R201): the factory profile is
active, PROFILE_DEFAULTED is set and, being in the plan port's mask, asserts its attention output, and the
arbiter has begun the first status poll, of address 1 (R180). -/
def State.reset : State where
  run := RunTable.powerOn
  checker := Checker.powerOn
  sheetMass := sheetMasses factoryProfile
  feeders := powerOnFeeders factoryProfile
  track := TrackQueue.powerOn
  census := []
  bins := BinManager.powerOn
  heads := { HeadLine.powerOn factoryProfile with
    lastPoll := some 1
    line := some ⟨.statusPoll, ⟨1, 0, none⟩, false⟩
    sent := [0x01, 0x00, 0x15] }
  ports := ⟨PortState.powerOn, PortState.powerOn⟩
  flags := 0b0100000000000
  pins := ⟨⟨false, true⟩, false⟩
  settings := ⟨factoryProfile, Stored.blank, none, false⟩
  free := 0
  pending := []

end Sys2Proof.Machine
end

