-- ==== Sys2Proof/Machine/Flags.lean ====
section
/-! DEFINITION. One updater for each block of the state, the sticky flags (section 9.4), the notice queues and
the attention outputs (section 9.5), and the hold output (section 9.6). -/

namespace Sys2Proof.Machine

/-! ### One updater for each block -/

def State.onRun (f : RunTable → RunTable) (s : State) : State := { s with run := f s.run }
def State.onChecker (f : Checker → Checker) (s : State) : State := { s with checker := f s.checker }
def State.onSheetMass (f : Vector Nat 4 → Vector Nat 4) (s : State) : State :=
  { s with sheetMass := f s.sheetMass }
def State.onFeeders (f : Vector Feeder 8 → Vector Feeder 8) (s : State) : State :=
  { s with feeders := f s.feeders }
def State.onTrack (f : TrackQueue → TrackQueue) (s : State) : State := { s with track := f s.track }
def State.onCensus (f : List CensusEntry → List CensusEntry) (s : State) : State :=
  { s with census := f s.census }
def State.onBins (f : BinManager → BinManager) (s : State) : State := { s with bins := f s.bins }
def State.onHeads (f : HeadLine → HeadLine) (s : State) : State := { s with heads := f s.heads }
def State.onPort (p : Port) (f : PortState → PortState) (s : State) : State :=
  { s with ports := s.ports.modify p f }
def State.onFlags (f : FlagSet → FlagSet) (s : State) : State := { s with flags := f s.flags }
def State.onPins (f : Pins → Pins) (s : State) : State := { s with pins := f s.pins }
def State.onSettings (f : Settings → Settings) (s : State) : State := { s with settings := f s.settings }
def State.onActive (f : Profile → Profile) (s : State) : State :=
  s.onSettings fun t => { t with active := f t.active }
def State.onFree (f : Nat → Nat) (s : State) : State := { s with free := f s.free }

/-- The state of one port. -/
def State.port (s : State) (p : Port) : PortState := s.ports.get p

/-- The active profile, which every block reads at the moment of use (R197). -/
def State.profile (s : State) : Profile := s.settings.active

/-! ### Sticky flags -/

/-- The number of a sticky flag (R202). -/
def StickyFlag.number : StickyFlag → Nat
  | .frameErrorT => 0
  | .frameErrorP => 1
  | .accessFault => 2
  | .outOfOrder => 3
  | .syncLost => 4
  | .censusFull => 5
  | .trayListFull => 6
  | .noticeLostT => 7
  | .noticeLostP => 8
  | .headSilent => 9
  | .outcomesDiscarded => 10
  | .profileDefaulted => 11
  | .saveFailed => 12

/-- The set that holds one flag. -/
def StickyFlag.bit (f : StickyFlag) : FlagSet := BitVec.ofNat 13 (2 ^ f.number)

/-- Setting a sticky flag; one already set stays set (R190). -/
def State.raise (f : StickyFlag) (s : State) : State := s.onFlags (· ||| f.bit)

/-- Whether a sticky flag is set. -/
def State.flagged (s : State) (f : StickyFlag) : Bool := (s.flags &&& f.bit) != 0

/-- The flags whose names end in the letter of a port (chapter 9, opening). -/
def frameErrorFlag : Port → StickyFlag
  | .track => .frameErrorT
  | .plan => .frameErrorP

def noticeLostFlag : Port → StickyFlag
  | .track => .noticeLostT
  | .plan => .noticeLostP

/-! ### Notices -/

/-- The capacity of a notice queue (R192). -/
def noticeCapacity : Nat := 16

/-- Sending a notice to a port: it joins the end of the port's queue, or is dropped from a full queue, which
sets that port's NOTICE_LOST flag (R192). -/
def State.notify (p : Port) (n : Notice) (s : State) : State :=
  if (s.port p).notices.length < noticeCapacity then
    s.onPort p fun q => { q with notices := q.notices ++ [n] }
  else s.raise (noticeLostFlag p)

/-- A notice to both ports, judged for each queue on its own (R192). -/
def State.notifyBoth (n : Notice) (s : State) : State := (s.notify .track n).notify .plan n

/-! ### Output lines -/

/-- When a port's attention output is asserted (R194). -/
def State.attention (s : State) (p : Port) : Bool :=
  (s.flags &&& s.profile.attentionMask.get p) != 0 || !(s.port p).notices.isEmpty

/-- The three conditions of the hold output (R195). -/
def State.stallCondition (s : State) : Bool := s.bins.stall.isSome
def State.syncCondition (s : State) : Bool := s.checker.intake == .syncLost
def State.releaseCondition (s : State) : Bool := s.checker.releaseHold != .free

/-- When the hold output is asserted (R195). -/
def State.holdOutput (s : State) : Bool :=
  s.stallCondition || s.syncCondition || s.releaseCondition

/-- The output lines as the state has them. -/
def State.outputs (s : State) : Pins := ⟨⟨s.attention .track, s.attention .plan⟩, s.holdOutput⟩

/-- The output lines follow their inputs: every command ends with this (R194, R195). DESIGN CHOICE,
notes/assumptions/5.md. -/
def State.settle (s : State) : State := s.onPins fun _ => s.outputs

end Sys2Proof.Machine
end

