-- ==== Sys2Proof/Machine/Operands.lean ====
section
/-! DEFINITION. Request frames: the kinds of request with their codes, ports and payload lengths (R186, R203),
the frame check (R184), and the operands a payload spells (R203, R205, R207). -/

namespace Sys2Proof.Machine

/-- The kinds of request, in the order of R203. -/
inductive RequestKind where
  | status | readNotices | clearFlags | setAttentionMask | setDefaultReport | headAccess | readSlot
  | readPiece | readFeeders | readBins | readHeads | readCensus | runReset
  | lineState | sheet | release | folded | pullResult | enveloped | weighed | atGate | exited | purge
  | resync
  | openRun | closeRun | loadPieces | amendPiece | cancelPiece | readOutcomes | ackOutcomes | readTrays
  | ackTrays | setStock | setEnvelope | setFeeder | setBands | setSort | setKeyRule | setLimits
  | setHeadMap | saveSettings
deriving DecidableEq, Repr

/-- The kind code of a request (R203). -/
def RequestKind.code : RequestKind → Byte
  | .status => 0x01
  | .readNotices => 0x02
  | .clearFlags => 0x03
  | .setAttentionMask => 0x04
  | .setDefaultReport => 0x05
  | .headAccess => 0x06
  | .readSlot => 0x07
  | .readPiece => 0x08
  | .readFeeders => 0x09
  | .readBins => 0x0A
  | .readHeads => 0x0B
  | .readCensus => 0x0C
  | .runReset => 0x0D
  | .lineState => 0x20
  | .sheet => 0x21
  | .release => 0x22
  | .folded => 0x23
  | .pullResult => 0x24
  | .enveloped => 0x25
  | .weighed => 0x26
  | .atGate => 0x27
  | .exited => 0x28
  | .purge => 0x29
  | .resync => 0x2A
  | .openRun => 0x40
  | .closeRun => 0x41
  | .loadPieces => 0x42
  | .amendPiece => 0x43
  | .cancelPiece => 0x44
  | .readOutcomes => 0x45
  | .ackOutcomes => 0x46
  | .readTrays => 0x47
  | .ackTrays => 0x48
  | .setStock => 0x49
  | .setEnvelope => 0x4A
  | .setFeeder => 0x4B
  | .setBands => 0x4C
  | .setSort => 0x4D
  | .setKeyRule => 0x4E
  | .setLimits => 0x4F
  | .setHeadMap => 0x50
  | .saveSettings => 0x51

/-- Every kind of request. -/
def RequestKind.all : List RequestKind :=
  [.status, .readNotices, .clearFlags, .setAttentionMask, .setDefaultReport, .headAccess, .readSlot,
   .readPiece, .readFeeders, .readBins, .readHeads, .readCensus, .runReset,
   .lineState, .sheet, .release, .folded, .pullResult, .enveloped, .weighed, .atGate, .exited, .purge,
   .resync,
   .openRun, .closeRun, .loadPieces, .amendPiece, .cancelPiece, .readOutcomes, .ackOutcomes, .readTrays,
   .ackTrays, .setStock, .setEnvelope, .setFeeder, .setBands, .setSort, .setKeyRule, .setLimits,
   .setHeadMap, .saveSettings]

/-- The request a kind code belongs to; none for 00 and every code absent from R203. -/
def RequestKind.ofCode (c : Byte) : Option RequestKind := RequestKind.all.find? fun k => k.code == c

/-- The ports a request is permitted on (the table of R186). -/
def RequestKind.permitted : RequestKind → Port → Bool
  | .status, _ | .readNotices, _ | .clearFlags, _ | .setAttentionMask, _ | .setDefaultReport, _
  | .headAccess, _ | .readSlot, _ | .readPiece, _ | .readFeeders, _ | .readBins, _ | .readHeads, _
  | .readCensus, _ | .runReset, _ => true
  | .lineState, p | .sheet, p | .release, p | .folded, p | .pullResult, p | .enveloped, p
  | .weighed, p | .atGate, p | .exited, p | .purge, p | .resync, p => p == .track
  | .openRun, p | .closeRun, p | .loadPieces, p | .amendPiece, p | .cancelPiece, p
  | .readOutcomes, p | .ackOutcomes, p | .readTrays, p | .ackTrays, p | .setStock, p
  | .setEnvelope, p | .setFeeder, p | .setBands, p | .setSort, p | .setKeyRule, p | .setLimits, p
  | .setHeadMap, p | .saveSettings, p => p == .plan

/-- The payload lengths R203 allows for a request. LOAD_PIECES takes any length here: R9 matches it to the
record count and refuses it with the same result. -/
def RequestKind.lengthAllowed : RequestKind → Nat → Bool
  | .status, n => n ≤ 1
  | .clearFlags, n | .setAttentionMask, n | .folded, n | .openRun, n | .ackOutcomes, n => n == 2
  | .setDefaultReport, n | .lineState, n | .release, n | .enveloped, n | .atGate, n
  | .ackTrays, n => n == 1
  | .headAccess, n => n == 3 || n == 5
  | .readPiece, n | .pullResult, n | .exited, n | .resync, n | .cancelPiece, n => n == 3
  | .readCensus, n => n == 1 || n == 6
  | .sheet, n => n == 1 || n == 7
  | .weighed, n => n == 5
  | .loadPieces, _ => true
  | .amendPiece, n => n == 18
  | .setStock, n => n == 10
  | .setEnvelope, n | .setSort, n | .setKeyRule, n => n == 12
  | .setFeeder, n => n == 8
  | .setBands, n => 1 ≤ n && n ≤ 25
  | .setLimits, n => n == 13
  | .setHeadMap, n => n == 17
  | .readNotices, n | .readSlot, n | .readFeeders, n | .readBins, n | .readHeads, n | .runReset, n
  | .purge, n | .closeRun, n | .readOutcomes, n | .readTrays, n | .saveSettings, n => n == 0

/-! ### Frames -/

/-- A frame is broken when it is too short, its length field does not agree or exceeds 250, or its check
fails: the register over every byte, the check included, must end at 0 (R184, R185). -/
def frameBroken (f : List Byte) : Bool :=
  f.length < 3 || f.length != byteAt f 1 + 3 || 250 < byteAt f 1 || crc8 f != 0

/-- The kind byte of a frame (R202). -/
def frameKind (f : List Byte) : Byte := f.getD 0 0

/-- The payload of a frame that is not broken (R202). -/
def framePayload (f : List Byte) : List Byte := (f.drop 2).dropLast

/-- The frame in which a sender sends a request of a kind with a payload (R185, R202). -/
def requestFrame (k : RequestKind) (payload : List Byte) : List Byte :=
  let body := k.code :: BitVec.ofNat 8 payload.length :: payload
  body ++ [crc8 body]

/-! ### Operands of the requests -/

/-- A yes or no as R203 codes it; any other byte is outside its range. -/
def yesNoAt (pl : List Byte) (i : Nat) : Option Bool :=
  match byteAt pl i with
  | 0 => some false
  | 1 => some true
  | _ => none

/-- A report named in STATUS or SET_DEFAULT_REPORT (R203). -/
def reportOf : Nat → Option Report
  | 0 => some .run
  | 1 => some .track
  | 2 => some .flags
  | 3 => some .bins
  | _ => none

/-- A line state (R203). -/
def lineStateOf : Nat → Option LineState
  | 0 => some .stopped
  | 1 => some .running
  | _ => none

/-- A set of sticky flags in two bytes; flag numbers above 12 are refused (R191, R194, R202). -/
def flagSetOf (pl : List Byte) : Option FlagSet :=
  if fieldAt pl 0 2 < 8192 then some (BitVec.ofNat 13 (fieldAt pl 0 2)) else none

/-- A reported pull result (R88, R203). -/
def pullResultOf : Nat → Option PullResult
  | 1 => some .taken
  | 2 => some .double
  | 3 => some .miss
  | 4 => some .passed
  | _ => none

/-- A report of the scale (R67). -/
inductive ScaleReport where
  | mass (value : Nat)
  | overrange
  | noWeight
deriving DecidableEq, Repr

/-- The scale report of WEIGHED; the value is read for MASS only (R203). -/
def scaleReportOf (pl : List Byte) : Option ScaleReport :=
  match byteAt pl 1 with
  | 0 => some (.mass (fieldAt pl 2 3))
  | 1 => some .overrange
  | 2 => some .noWeight
  | _ => none

/-- The outcome of EXITED; the bin is read for BIN only (R110, R203). -/
def exitOutcomeOf (pl : List Byte) : Option GateDecision :=
  match byteAt pl 1 with
  | 0 => some .divert
  | 1 => if 1 ≤ byteAt pl 2 ∧ byteAt pl 2 ≤ 6 then some (.bin (byteAt pl 2)) else none
  | _ => none

/-- A readable mark (R30). -/
structure Mark where
  id      : PieceId
  index   : Nat
  printed : Nat
deriving DecidableEq, Repr

/-- A reported sheet: NOREAD or a mark (R30). -/
inductive SheetReport where
  | noRead
  | mark (m : Mark)
deriving DecidableEq, Repr

/-- The sheet of a SHEET payload; another form, a length that does not suit the form, and a mark with a field
outside its range are refused (R30, R207). -/
def sheetReportOf (pl : List Byte) : Option SheetReport :=
  match byteAt pl 0 with
  | 0 => if pl.length = 1 then some .noRead else none
  | 1 =>
    let m : Mark := ⟨⟨fieldAt pl 1 3, byteAt pl 4⟩, byteAt pl 5, byteAt pl 6⟩
    if pl.length = 7 ∧ 1 ≤ m.id.seq ∧ m.id.reprint ≤ 3 ∧ 1 ≤ m.index ∧ m.index ≤ 24
        ∧ 1 ≤ m.printed ∧ m.printed ≤ 24 then some (.mark m) else none
  | _ => none

/-- A head access (R175, R203): in range, with a length that suits the direction, and no write to index 0
or 1. -/
def accessOf (pl : List Byte) : Option Access :=
  if 15 < byteAt pl 0 ∨ 31 < byteAt pl 1 then none
  else match byteAt pl 2 with
    | 0 => if pl.length = 3 then some ⟨byteAt pl 0, byteAt pl 1, none⟩ else none
    | 1 =>
      if pl.length = 5 ∧ 2 ≤ byteAt pl 1 then
        some ⟨byteAt pl 0, byteAt pl 1, some (BitVec.ofNat 16 (fieldAt pl 3 2))⟩
      else none
    | _ => none

/-- The insert list of a piece record: the entries up to the insert count, of which bytes and bits beyond the
count are not read; at most eight stand in the layout (R205). -/
def insertsOf (count : Nat) (codes : List Byte) (required : Nat) : List InsertEntry :=
  (List.range (min count 8)).map fun i => ⟨byteAt codes i, required.testBit i⟩

/-- A piece record as LOAD_PIECES or AMEND_PIECE sends it. -/
structure PieceSpec where
  id          : PieceId
  sheets      : Nat
  stock       : Nat
  key         : List Nat
  insertCount : Nat
  inserts     : List InsertEntry
deriving DecidableEq, Repr

/-- One piece record of 20 bytes (R205). -/
def pieceSpecOf (b : List Byte) : PieceSpec where
  id := ⟨fieldAt b 0 3, byteAt b 3⟩
  sheets := byteAt b 4
  stock := byteAt b 5
  key := halves ((b.drop 6).take 4)
  insertCount := byteAt b 10
  inserts := insertsOf (byteAt b 10) ((b.drop 11).take 8) (byteAt b 19)

/-- The batch of LOAD_PIECES: a record count of 1 to 8 and a payload of exactly that many records (R9). -/
def batchOf (pl : List Byte) : Option (List PieceSpec) :=
  let n := byteAt pl 0
  if 1 ≤ n ∧ n ≤ 8 ∧ pl.length = 1 + 20 * n then
    some ((List.range n).map fun i => pieceSpecOf ((pl.drop (1 + 20 * i)).take 20))
  else none

/-- An amendment: a new insert list with its count, a new key, or both (R15, R205). -/
structure Amendment where
  seq     : Nat
  inserts : Option (Nat × List InsertEntry)
  key     : Option (List Nat)
deriving DecidableEq, Repr

/-- The amendment of an AMEND_PIECE payload (R205). DESIGN CHOICE, notes/assumptions/17.md. -/
def amendmentOf (pl : List Byte) : Amendment where
  seq := fieldAt pl 0 3
  inserts :=
    if (byteAt pl 3).testBit 0 then
      some (byteAt pl 8, insertsOf (byteAt pl 8) ((pl.drop 9).take 8) (byteAt pl 17))
    else none
  key := if (byteAt pl 3).testBit 1 then some (halves ((pl.drop 4).take 4)) else none

/-- The stock id and record of SET_STOCK, in range (R54, R55). -/
def stockOf (pl : List Byte) : Option (Nat × Stock) :=
  match yesNoAt pl 1 with
  | none => none
  | some configured =>
    let k : Stock := ⟨configured, fieldAt pl 2 2, fieldAt pl 4 2, fieldAt pl 6 2, fieldAt pl 8 2⟩
    if byteAt pl 0 ≤ 3 ∧ 400 ≤ k.grammage ∧ k.grammage ≤ 3000 ∧ 1000 ≤ k.width ∧ k.width ≤ 4500
        ∧ 1000 ≤ k.length ∧ k.length ≤ 4500 ∧ 50 ≤ k.caliper ∧ k.caliper ≤ 500 then
      some (byteAt pl 0, k)
    else none

/-- The envelope record of SET_ENVELOPE, in range (R56). -/
def envelopeOf (pl : List Byte) : Option Envelope :=
  let e : Envelope :=
    ⟨fieldAt pl 0 2, fieldAt pl 2 2, byteAt pl 4, fieldAt pl 5 2, fieldAt pl 7 3, fieldAt pl 10 2⟩
  if 1000 ≤ e.width ∧ e.width ≤ 4000 ∧ 800 ≤ e.height ∧ e.height ≤ 3500 ∧ e.clearance ≤ 200
      ∧ 500 ≤ e.throat ∧ e.throat ≤ 25000 ∧ e.mass ≤ 100000 ∧ 50 ≤ e.caliper ∧ e.caliper ≤ 1000 then
    some e
  else none

/-- The feeder number and setting of SET_FEEDER, in range (R75, R77). -/
def feederSettingOf (pl : List Byte) : Option (Nat × FeederSetting) :=
  match yesNoAt pl 7 with
  | none => none
  | some enabled =>
    let f : FeederSetting := ⟨byteAt pl 1, fieldAt pl 2 3, fieldAt pl 5 2, enabled⟩
    if 1 ≤ byteAt pl 0 ∧ byteAt pl 0 ≤ 8 ∧ f.mass ≤ 200000 ∧ f.caliper ≤ 10000 then
      some (byteAt pl 0, f)
    else none

/-- Whether a list rises strictly (R59). -/
def strictlyRising : List Nat → Bool
  | [] => true
  | [_] => true
  | a :: b :: rest => a < b && strictlyRising (b :: rest)

/-- The band table of SET_BANDS (R59): the count, the length, the range of each limit and their order. -/
def bandsOf (pl : List Byte) : Option (List Nat) :=
  let n := byteAt pl 0
  let limits := (List.range n).map fun i => fieldAt pl (1 + 3 * i) 3
  if 1 ≤ n ∧ n ≤ 8 ∧ pl.length = 1 + 3 * n ∧ (limits.all fun u => 1 ≤ u && u ≤ 1048575)
      ∧ strictlyRising limits then
    some limits
  else none

/-- The sort settings of SET_SORT as sent. -/
def sortSettingsOf (pl : List Byte) : SortSettings :=
  ⟨byteAt pl 0, byteAt pl 1, fieldAt pl 2 2, fieldAt pl 4 2, fieldAt pl 6 2, fieldAt pl 8 4⟩

/-- The ranges of the sort settings (R119). -/
def SortSettings.inRange (t : SortSettings) : Bool :=
  2 ≤ t.fineLength && t.fineLength ≤ 8 && 1 ≤ t.areaLength && t.areaLength < t.fineLength
    && 1 ≤ t.fineMinimum && t.fineMinimum ≤ 1000 && 1 ≤ t.areaMinimum && t.areaMinimum ≤ 1000
    && 1 ≤ t.trayPieceLimit && t.trayPieceLimit ≤ 1000
    && 1000000 ≤ t.trayMassLimit && t.trayMassLimit ≤ 30000000

/-- A pattern position: a digit, or ANY as 0F hex (R203). -/
def patternPositionOf (b : Nat) : Option (Option Nat) :=
  if b ≤ 9 then some (some b) else if b = 15 then some none else none

/-- The mode of a key rule slot (R203). -/
def ruleModeOf : Nat → Option RuleMode
  | 0 => some .wide
  | 1 => some .half
  | 2 => some .quarter
  | _ => none

/-- The slot number and slot of SET_KEY_RULE, in range (R122, step 2). An enabled byte other than 0 and 1, which R203
leaves to R122, is out of range there. DESIGN CHOICE, notes/assumptions/29.md. -/
def keyRuleOf (pl : List Byte) : Option (Nat × KeyRule) :=
  match yesNoAt pl 1, ruleModeOf (byteAt pl 2),
      ((List.range 8).map fun i => byteAt pl (3 + i)).mapM patternPositionOf with
  | some enabled, some mode, some pattern =>
    if 1 ≤ byteAt pl 0 ∧ byteAt pl 0 ≤ 8 ∧ 1 ≤ byteAt pl 11 ∧ byteAt pl 11 ≤ 6 then
      some (byteAt pl 0, ⟨enabled, mode, pattern, byteAt pl 11⟩)
    else none
  | _, _, _ => none

/-- A feeder policy (R203). -/
def feederPolicyOf : Nat → Option FeederPolicy
  | 0 => some .hold
  | 1 => some .divert
  | _ => none

/-- The limits record of SET_LIMITS, in range (R57, step 1). -/
def limitsOf (pl : List Byte) : Option Limits :=
  match yesNoAt pl 7, yesNoAt pl 8, feederPolicyOf (byteAt pl 12) with
  | some scaleInLine, some weighRequired, some policy =>
    let l : Limits :=
      { foldLimit := byteAt pl 0, massCeiling := fieldAt pl 1 3, toleranceFloor := fieldAt pl 4 2
        tolerancePermille := byteAt pl 6, scaleInLine, weighRequired
        accumulatorLimit := byteAt pl 9, resyncReach := byteAt pl 10, orphanLimit := byteAt pl 11
        feederPolicy := policy }
    if 1 ≤ l.foldLimit ∧ l.foldLimit ≤ 4 ∧ 1 ≤ l.massCeiling ∧ l.massCeiling ≤ 1000000
        ∧ l.toleranceFloor ≤ 50000 ∧ l.tolerancePermille ≤ 200
        ∧ 1 ≤ l.accumulatorLimit ∧ l.accumulatorLimit ≤ 24 ∧ l.resyncReach ≤ 8
        ∧ 1 ≤ l.orphanLimit ∧ l.orphanLimit ≤ 8 then some l else none
  | _, _, _ => none

/-- A kind byte of the head map: the kind in its high half, the station of a FEEDER in its low half (R203). -/
def headKindOf (b : Nat) : Option HeadKind :=
  match b / 16 with
  | 0 => some .none
  | 1 => if 1 ≤ b % 16 ∧ b % 16 ≤ 8 then some (.feeder (b % 16)) else none
  | 2 => some .reader
  | 3 => some .folder
  | 4 => some .scale
  | 5 => some .gate
  | 6 => some .sorter
  | _ => none

/-- The head map and the poll enable of SET_HEAD_MAP (R164, R203). A poll enable other than 0 and 1, which R203 leaves
to R164, is out of range at its step 1. DESIGN CHOICE, notes/assumptions/29.md. -/
def headMapOf (pl : List Byte) : Option (Vector HeadKind 16 × Bool) :=
  match ((List.range 16).map fun i => byteAt pl i).mapM headKindOf, yesNoAt pl 16 with
  | some kinds, some enable =>
    some (Vector.ofFn fun i : Fin 16 => kinds.getD i .none, enable)
  | _, _ => none

/-- The starting point of READ_CENSUS: START, or the prefix of an entry of either kind (R135, R207). The digits
are those of the kind's prefix length; the level byte and the half-bytes beyond are not read. DESIGN CHOICE,
notes/assumptions/19.md. -/
def censusStartOf (t : SortSettings) (pl : List Byte) : Option (Option (List Nat)) :=
  if pl.length = 1 then
    if byteAt pl 0 = 255 then some none else none
  else
    let digits := halves ((pl.drop 2).take 4)
    let named := match byteAt pl 0 with
      | 0 => some (digits.take t.fineLength)
      | 1 => some (digits.take t.areaLength)
      | _ => none
    match named with
    | some ds => if ds.all (· ≤ 9) then some (some ds) else none
    | none => none

end Sys2Proof.Machine
end

