-- ==== Sys2Proof/Machine/Layouts.lean ====
section
/-! DEFINITION. The layouts in which notices, records and responses leave the ports (R202, R204, R206, R207,
R209). A payload is a list of `Value`s: a number in a width the layouts give, or a value whose width or code
they leave open. -/

namespace Sys2Proof.Machine

/-! ### Codes -/

def RunState.code : RunState → Nat
  | .closed => 0
  | .opened => 1
  | .draining => 2

def LineState.code : LineState → Nat
  | .stopped => 0
  | .running => 1

def Report.code : Report → Nat
  | .run => 0
  | .track => 1
  | .flags => 2
  | .bins => 3

def PieceState.code : PieceState → Nat
  | .loaded => 0
  | .collating => 1
  | .onTrack => 2
  | .finished => 3

def Disposition.code : Disposition → Nat
  | .binned => 1
  | .diverted => 2
  | .cancelled => 3
  | .notFed => 4

/-- The number of a divert cause (R206). -/
def Cause.number : Cause → Nat
  | .missingSheet => 1
  | .duplicateSheet => 2
  | .markMismatch => 3
  | .unreadable => 4
  | .skippedAhead => 5
  | .skippedByResync => 6
  | .runClosed => 7
  | .feederUnavailable => 8
  | .foldMismatch => 9
  | .missingInsert => 10
  | .doubleInsert => 11
  | .weightMismatch => 12
  | .unweighed => 13
  | .overMass => 14
  | .overThick => 15
  | .gateJam => 16
  | .purged => 17

/-- The census reference as byte 16 of a piece record (R206). -/
def CensusRef.code : CensusRef → Nat
  | .counted => 0
  | .uncounted => 1
  | .reprint => 2
  | .ruled k => 10 + k

def PullResult.code : PullResult → Nat
  | .pending => 0
  | .taken => 1
  | .double => 2
  | .miss => 3
  | .passed => 4

def PullOrigin.code : PullOrigin → Nat
  | .release => 0
  | .substitute => 1

def BinState.code : BinState → Nat
  | .free => 0
  | .opened => 1
  | .fullWait => 2
  | .clearing => 3
  | .fault => 4
  | .offline => 5

def FeederState.code : FeederState → Nat
  | .disabled => 0
  | .offline => 1
  | .jammed => 2
  | .empty => 3
  | .low => 4
  | .ready => 5

def HeadState.code : HeadState → Nat
  | .absent => 0
  | .present => 1
  | .silent => 2
  | .mismatch => 3

/-- A kind byte: the kind in the high half, the station of a feeder in the low half (R203, R204). The low half of any
other kind, to which no rule gives a value, is sent as 0. DESIGN CHOICE, notes/assumptions/32.md. -/
def HeadKind.code : HeadKind → Nat
  | .none => 0x00
  | .feeder k => 0x10 + k
  | .reader => 0x20
  | .folder => 0x30
  | .scale => 0x40
  | .gate => 0x50
  | .sorter => 0x60

def LineOutcome.code : LineOutcome → Nat
  | .reply => 0
  | .nak => 1
  | .checkError => 2
  | .noReply => 3

def GateDecision.code : GateDecision → Nat
  | .divert => 0
  | .bin b => b

def saveResultCode : SaveResult → Nat
  | .ok => 0
  | .failed => 1

def TrayState.code : TrayState → Nat
  | .opened => 0
  | .closing => 1
  | .closed => 2

def CloseReason.code : CloseReason → Nat
  | .groupEnd => 1
  | .fullCount => 2
  | .fullMass => 3
  | .removed => 4
  | .binFault => 5
  | .runEnd => 6

def RuleMode.code : RuleMode → Nat
  | .wide => 0
  | .half => 1
  | .quarter => 2

/-- The level of a tray or a notice: 0 FINE, 1 AREA, 2 MIXED, 3 RULE (R204, R209). -/
def TrayGroup.levelCode : TrayGroup → Nat
  | .fine _ => 0
  | .area _ => 1
  | .mixed => 2
  | .rule _ => 3

/-- The result codes of R202. -/
def Result.code : Result → Byte
  | .done => 0x00
  | .badFrame => 0x01
  | .notPermitted => 0x02
  | .badArg => 0x03
  | .wrongState => 0x04
  | .full => 0x05
  | .busy => 0x06
  | .locked => 0x07
  | .tooLate => 0x08
  | .notFound => 0x09
  | .outOfOrder => 0x0A
  | .duplicate => 0x0B
  | .mismatch => 0x0C
  | .notPlanned => 0x0D
  | .nothingReady => 0x0E
  | .holdSheet => 0x0F
  | .syncLost => 0x10
  | .binTaken => 0x11
  | .noPool => 0x12
  | .inUse => 0x13
  | .loadRefused => 0x14

/-- The causes of LOAD_REFUSED (R10, R202). -/
inductive LoadCause where
  | badArg | full | duplicate | tooManySheets | unknownInsert | noFit | overThick | overMass
deriving DecidableEq, Repr

def LoadCause.code : LoadCause → Nat
  | .badArg => 0x03
  | .full => 0x05
  | .duplicate => 0x0B
  | .tooManySheets => 0x20
  | .unknownInsert => 0x21
  | .noFit => 0x22
  | .overThick => 0x23
  | .overMass => 0x24

/-! ### Values and frames -/

/-- The bytes of one value. -/
def Value.bytes : Value → List Byte
  | .num width value => toBytes width value
  | .code what value => Config.openField what value

/-- The bytes of a payload. -/
def answerBytes (a : List Value) : List Byte := a.flatMap Value.bytes

/-- The response frame: kind echoed, result, two bytes of payload length, payload, check (R202). -/
def Response.frame (r : Response) : List Byte :=
  let payload := answerBytes r.answer
  let body := [r.kind, r.result.code] ++ toBytes 2 payload.length ++ payload
  body ++ [crc8 body]

def byteV (n : Nat) : Value := .num 1 n
def wordV (n : Nat) : Value := .num 2 n
def triV (n : Nat) : Value := .num 3 n
def quadV (n : Nat) : Value := .num 4 n
def flagV (b : Bool) : Value := .num 1 (yesNo b)

/-- A list whose length the rule does not name: its extent, which the layouts leave open, then its bytes. -/
def byteListV (xs : List Nat) : List Value := .code .listLength xs.length :: xs.map byteV

/-- Prefix digits as in a destination key, half-bytes beyond the prefix F hex (R204). -/
def digitsV (ds : List Nat) : List Value := (digitBytes ds).map fun b => byteV b.toNat

/-- A group in four bytes (R204). -/
def groupV : TrayGroup → List Value
  | .fine ds | .area ds => digitsV ds
  | .mixed => [quadV 0]
  | .rule k => [quadV k]

/-- A set of causes as the 24-bit value of R206: cause number c is bit c − 1. -/
def faultSet (cs : List Cause) : Nat := (cs.eraseDups.map fun c => 2 ^ (c.number - 1)).sum

def faultsV (cs : List Cause) : Value := triV (faultSet cs)

/-- A set of sticky flags in two bytes (R202). -/
def flagSetV (f : FlagSet) : Value := wordV f.toNat

/-- A 16-bit word, absent as zeros (R202). -/
def halfV (w : Option Half) : Value := wordV (w.elim 0 BitVec.toNat)

/-! ### Notices (R204) -/

def Notice.values : Notice → List Value
  | .gateGo tag d => [byteV 0x01, byteV tag, byteV d.code]
  | .holdCleared => [byteV 0x02]
  | .syncLost => [byteV 0x03]
  | .binWait tag g dedicated =>
    [byteV 0x04, byteV tag, byteV g.levelCode] ++ groupV g ++
      (match dedicated with
        | some (b, st) => [byteV b, byteV st.code]
        | none => [byteV 0, byteV 0])
  | .binState b st tray => [byteV 0x05, byteV b, byteV st.code, wordV (tray.getD 0)]
  | .feederState k st missRun => [byteV 0x06, byteV k, byteV st.code, byteV missRun]
  | .headState a kind st word => [byteV 0x07, byteV a, byteV kind.code, byteV st.code, halfV word]
  | .slotDone a o => [byteV 0x08, byteV a.address, byteV a.index, flagV a.write.isSome, byteV o.code]
  | .runState st => [byteV 0x09, byteV st.code]
  | .purgeDone t c o => [byteV 0x0A, byteV t, byteV c, byteV o]
  | .outcomes => [byteV 0x0B]
  | .trayClosed id run b reason =>
    [byteV 0x0C, wordV id, wordV run, byteV b, byteV (reason.elim 0 CloseReason.code)]
  | .saveDone r => [byteV 0x0D, byteV (saveResultCode r)]
  | .resyncDone seq n => [byteV 0x0E, triV seq, wordV n]

/-! ### Records -/

/-- The destination key in four bytes (R205). -/
def keyV (key : List Nat) : List Value := digitsV key

/-- The insert count, eight code bytes and the required set (R205). The codes and bits beyond the count are sent as 0.
DESIGN CHOICE, notes/assumptions/32.md. -/
def insertsV (ins : List InsertEntry) : List Value :=
  byteV ins.length :: ((List.range 8).map fun i => byteV ((ins[i]?).elim 0 InsertEntry.code)) ++
    [byteV ((List.range 8).map fun i => if (ins[i]?).elim false InsertEntry.required then 2 ^ i else 0).sum]

/-- The presence byte of a piece record: byte 8 of R206. -/
def Piece.presence (r : Piece) : Nat :=
  yesNo r.cancelPending + 2 * yesNo r.expected.isSome + 4 * yesNo r.measured.isSome
    + 8 * yesNo r.band.isSome + 16 * yesNo r.tray.isSome + 32 * yesNo r.tag.isSome

/-- A pull entry in two bytes (R206). -/
def pullV (e : PullEntry) : List Value :=
  [byteV (e.feeder + 16 * e.result.code + 128 * e.origin.code), byteV e.code]

/-- A piece record (R206). -/
def Piece.values (r : Piece) : List Value :=
  [triV r.id.seq, byteV r.id.reprint, wordV r.run, byteV r.state.code,
   byteV (r.disposition.elim 0 Disposition.code), byteV r.presence,
   byteV r.sheets, byteV r.stock, byteV r.planned.panels]
  ++ keyV r.key
  ++ [byteV r.census.code, byteV (r.faults.head?.elim 0 Cause.number), faultsV r.faults,
      triV r.planned.mass, wordV r.planned.thickness,
      triV (r.expected.elim 0 Prod.fst), wordV (r.expected.elim 0 Prod.snd),
      triV (r.measured.getD 0), byteV (r.band.getD 0),
      wordV (r.tray.elim 0 Prod.fst), byteV (r.tray.elim 0 Prod.snd), byteV (r.tag.getD 0)]
  ++ insertsV r.inserts
  ++ byteV r.pulls.length :: r.pulls.flatMap pullV
  ++ byteV r.skipped.length :: r.skipped.map byteV

/-- A tray record (R209). -/
def Tray.values (t : Tray) : List Value :=
  [wordV t.id, wordV t.run, byteV t.group.levelCode] ++ groupV t.group ++
  [wordV t.continuation, byteV t.bin, byteV t.state.code, wordV t.count, wordV t.reserved,
   quadV t.mass, quadV t.reservedMass]
  ++ t.bandCounts.toList.map wordV
  ++ [triV (t.firstSeq.getD 0), triV (t.lastSeq.getD 0), byteV (t.reason.elim 0 CloseReason.code)]

/-- The stall in 7 bytes (R209). -/
def stallV : Option Stall → List Value
  | none => [byteV 0, byteV 0, byteV 0, quadV 0]
  | some x => [byteV 1, byteV x.tag, byteV x.group.levelCode] ++ groupV x.group

/-- The sort settings in the layout of SET_SORT (R203). -/
def SortSettings.values (t : SortSettings) : List Value :=
  [byteV t.fineLength, byteV t.areaLength, wordV t.fineMinimum, wordV t.areaMinimum,
   wordV t.trayPieceLimit, quadV t.trayMassLimit]

/-- A key rule slot in the layout of SET_KEY_RULE, without its number (R203). -/
def KeyRule.values (k : KeyRule) : List Value :=
  [flagV k.enabled, byteV k.mode.code] ++ k.pattern.map (fun d => byteV (d.getD 15)) ++ [byteV k.bin]

/-- The owner of a collation, an expected piece, or none: which of them it is, which the layouts leave open,
then the sequence number and reprint count of a piece. -/
def ownerV : Option Owner → List Value
  | none => [.code .owner 0]
  | some .orphan => [.code .owner 1]
  | some (.piece id) => [.code .owner 2, triV id.seq, byteV id.reprint]

def Stage.rank : Stage → Nat
  | .released => 0
  | .folded => 1
  | .enveloped => 2
  | .weighed => 3
  | .atGate => 4
  | .gated => 5

/-- A stage, whose code the layouts leave open. -/
def stageV (st : Stage) : Value := .code .stage st.rank

/-- The tag and stage of an entry, or "none", as an OUT_OF_ORDER refusal carries them (R103, R110). -/
def expectedEntryV : Option TrackEntry → List Value
  | some e => [byteV e.tag, stageV e.stage]
  | none => [.code .stage 6]

/-- A fold plan: the panels in one byte, as in byte 11 of a piece record (R206), or NO_FIT by its code, 22 hex
(R55, R56, R202, R209). -/
def foldPlanV (p : Option Nat) : Value := byteV (p.getD LoadCause.noFit.code)

/-- A head address, FF hex when absent (R209). -/
def addressV (a : Option Nat) : Value := byteV (a.getD 0xFF)

end Sys2Proof.Machine
end

