-- ==== Sys2Proof/Machine/Ops.lean ====
section
/-! DEFINITION. The operations every block shares: executing the oldest frame of an intake and answering it
(R186), and reading and changing piece records (chapter 1). -/

namespace Sys2Proof.Machine

/-! ### Executing a request -/

/-- The capacities of a port's intake and response queue (R183, R186). -/
def intakeCapacity : Nat := 4
def responseCapacity : Nat := 4

/-- What a request answers: a result and the values of the payload. -/
structure Reply where
  result : Result
  answer : List Value
deriving DecidableEq, Repr

def done (answer : List Value := []) : Reply := ⟨.done, answer⟩
def refuse (r : Result) (answer : List Value := []) : Reply := ⟨r, answer⟩

/-- The frame a port executes next: the oldest of its intake, when its response queue has room (R186). -/
def State.dueFrame (s : State) (p : Port) : Option (List Byte) :=
  if (s.port p).responses.length < responseCapacity then (s.port p).intake.head? else none

/-- The oldest frame leaves the intake and its place is free (R186). -/
def State.dropFrame (p : Port) (s : State) : State :=
  s.onPort p fun q => { q with intake := q.intake.drop 1 }

/-- A response joins the end of the response queue (R186). -/
def State.respond (p : Port) (r : Response) (s : State) : State :=
  s.onPort p fun q => { q with responses := q.responses ++ [r] }

/-- The response to a frame, after which the output lines follow their inputs. -/
def State.answerFrame (p : Port) (f : List Byte) (r : Reply) (s : State) : State :=
  (s.respond p ⟨frameKind f, r.result, r.answer⟩).settle

/-- Executing the oldest frame of a port's intake as a request of kind `k`, by the three steps of R186; `body`
is the rule that owns the request. When the oldest frame is not such a request, or the response queue has no
room, nothing is executed. DESIGN CHOICE, notes/assumptions/3.md. -/
def serve (k : RequestKind) (p : Port) (body : List Byte → State → State × Reply) (s : State) : State :=
  match s.dueFrame p with
  | none => s
  | some f =>
    if frameBroken f || frameKind f != k.code then s
    else
      let x :=
        if !k.permitted p then (s.dropFrame p, refuse .notPermitted)
        else if !k.lengthAllowed (framePayload f).length then (s.dropFrame p, refuse .badArg)
        else body (framePayload f) (s.dropFrame p)
      x.1.answerFrame p f x.2

/-- A request body that changes nothing and answers DONE. -/
def readBody (answer : State → List Value) : List Byte → State → State × Reply :=
  fun _ s => (s, done (answer s))

/-! ### Piece records -/

/-- The record of a piece (R29). -/
def RunTable.piece? (t : RunTable) (id : PieceId) : Option Piece := t.pieces.find? fun r => r.id == id

def State.piece? (s : State) (id : PieceId) : Option Piece := s.run.piece? id

/-- The newest record with a sequence number: the one appended last (manual, section 1.5). -/
def State.newest (s : State) (seq : Nat) : Option Piece :=
  (s.run.pieces.filter fun r => r.id.seq == seq).getLast?

/-- A change of one piece record. -/
def State.onPiece (id : PieceId) (f : Piece → Piece) (s : State) : State :=
  s.onRun fun t => { t with pieces := t.pieces.map fun r => if r.id == id then f r else r }

/-- Adding a divert cause: not to a FINISHED record, and not twice (R8). -/
def Piece.addCause (c : Cause) (r : Piece) : Piece :=
  if r.state == .finished || r.faults.contains c then r else { r with faults := r.faults ++ [c] }

def State.addCause (id : PieceId) (c : Cause) (s : State) : State := s.onPiece id (Piece.addCause c)

def State.addCauses (id : PieceId) (cs : List Cause) (s : State) : State :=
  cs.foldl (fun s c => s.addCause id c) s

/-- The causes a record holds and did not hold before: what a response lists as "causes added" (R66, R67, R93). A
cause added again, which leaves the set as it was (R8), is not listed, and the list crosses the port as the 24-bit fault
set of R206, not as cause numbers. DESIGN CHOICE, notes/assumptions/30.md. -/
def newCauses (before after : Option Piece) : List Cause :=
  (after.elim [] Piece.faults).filter fun c => !(before.elim [] Piece.faults).contains c

/-- The final mass of a piece: its measured mass when present, and otherwise its expected mass (R71). -/
def Piece.finalMass (r : Piece) : Nat := r.measured.getD (r.expected.elim 0 Prod.fst)

/-- The records in state LOADED that stand at or after the cursor, in load order (R27). -/
def State.loadedAhead (s : State) : List Piece :=
  (s.run.pieces.drop s.checker.cursor).filter fun r => r.state == .loaded

/-- The expected piece E (R27). -/
def State.expectedPiece (s : State) : Option Piece := s.loadedAhead.head?

/-- The place of a record in load order, counted from 0. -/
def State.position (s : State) (id : PieceId) : Nat := s.run.pieces.findIdx fun r => r.id == id

/-- The number of records in a state. -/
def State.countPieces (s : State) (st : PieceState) : Nat := s.run.pieces.countP fun r => r.state == st

/-! ### Track entries -/

def State.entry? (s : State) (tag : Nat) : Option TrackEntry := s.track.entries.find? fun e => e.tag == tag

def State.onEntry (tag : Nat) (f : TrackEntry → TrackEntry) (s : State) : State :=
  s.onTrack fun q => { q with entries := q.entries.map fun e => if e.tag == tag then f e else e }

end Sys2Proof.Machine
end

