-- ==== Sys2Proof/Machine/Census.lean ====
section
/-! DEFINITION. The census (section 6.4), key rule matching (R123) and the level decision (R132, R133). -/

namespace Sys2Proof.Machine

/-- The capacity of the census, fine and area entries together (R127). -/
def censusCapacity : Nat := 512

/-- The fine and the area prefix of a destination key (R120). -/
def SortSettings.finePrefix (t : SortSettings) (key : List Nat) : List Nat := key.take t.fineLength
def SortSettings.areaPrefix (t : SortSettings) (key : List Nat) : List Nat := key.take t.areaLength

def EntryKind.isFine : EntryKind → Bool
  | .fine _ _ => true
  | .area _ => false

/-- The fine entry of a prefix: its count and level. -/
def findFine (c : List CensusEntry) (d : List Nat) : Option (Nat × FineLevel) :=
  match c.find? fun e => e.kind.isFine && e.digits == d with
  | some ⟨_, .fine n l⟩ => some (n, l)
  | _ => none

/-- The level of the area entry of a prefix. -/
def findArea (c : List CensusEntry) (d : List Nat) : Option AreaLevel :=
  match c.find? fun e => !e.kind.isFine && e.digits == d with
  | some ⟨_, .area l⟩ => some l
  | _ => none

/-- A change of the count of a fine entry. -/
def CensusEntry.onCount (f : Nat → Nat) (e : CensusEntry) : CensusEntry :=
  match e.kind with
  | .fine n l => { e with kind := .fine (f n) l }
  | .area _ => e

/-- A change of the level of a fine entry. -/
def CensusEntry.setLevel (l : FineLevel) (e : CensusEntry) : CensusEntry :=
  match e.kind with
  | .fine n _ => { e with kind := .fine n l }
  | .area _ => e

/-- A change of the fine entry of a prefix. -/
def onFine (d : List Nat) (f : CensusEntry → CensusEntry) (c : List CensusEntry) : List CensusEntry :=
  c.map fun e => if e.kind.isFine && e.digits == d then f e else e

/-- A new entry in its place in key order (R135). -/
def insertEntry (e : CensusEntry) : List CensusEntry → List CensusEntry
  | [] => [e]
  | x :: xs => if digitsBefore e.digits x.digits then e :: x :: xs else x :: insertEntry e xs

/-- What an entry adds to the eligible count of an area prefix (R129). -/
def CensusEntry.eligible (fineMinimum : Nat) (area : List Nat) (e : CensusEntry) : Nat :=
  match e.kind with
  | .fine n l =>
    if area.isPrefixOf e.digits && (l == .coarse || (l == .undecided && n < fineMinimum)) then n else 0
  | .area _ => 0

/-- The eligible count of an area prefix (R129). -/
def eligibleCount (fineMinimum : Nat) (area : List Nat) (c : List CensusEntry) : Nat :=
  (c.map (CensusEntry.eligible fineMinimum area)).sum

def State.eligible (s : State) (area : List Nat) : Nat :=
  eligibleCount s.profile.sort.fineMinimum area s.census

/-! ### Key rules (R123) -/

/-- A pattern matches a list of key digits when every position is ANY or equals its digit. -/
def patternMatches : List (Option Nat) → List Nat → Bool
  | [], _ => true
  | p :: ps, ds => (p == none || p == ds.head?) && patternMatches ps ds.tail

/-- Whether a key matches a slot, as the mode decides (R123). -/
def KeyRule.matchesKey (k : KeyRule) (key : List Nat) : Bool :=
  match k.mode with
  | .wide => patternMatches k.pattern key
  | .half => patternMatches (k.pattern.take 4) key || patternMatches (k.pattern.drop 4) key
  | .quarter =>
    [0, 2, 4, 6].any fun i => patternMatches ((k.pattern.drop i).take 2) key

/-- The slot a key is ruled by: the first enabled slot it matches (R123). -/
def Profile.ruledBy (f : Profile) (key : List Nat) : Option Nat :=
  slotNumbers.find? fun k => (f.keyRule k).enabled && (f.keyRule k).matchesKey key

/-- The classification a record of this key and reprint count would be given now (R124). -/
def State.classification (s : State) (key : List Nat) (reprint : Nat) : CensusRef :=
  match s.profile.ruledBy key with
  | some k => .ruled k
  | none =>
    if 0 < reprint then .reprint
    else if (findFine s.census (s.profile.sort.finePrefix key)).isSome
        || s.census.length < censusCapacity then .counted
    else .uncounted

/-! ### Level decisions -/

/-- The level a fine entry has from the decision on (R133, step 1). -/
def decidedLevel (fineMinimum count : Nat) : FineLevel → FineLevel
  | .undecided => if fineMinimum ≤ count then .fine else .coarse
  | .fine => .fine
  | .coarse => .coarse

/-- The answer for a COARSE fine entry, from the area entry of its area prefix, which is created here when
there is room (R133, step 3). -/
def State.areaAnswer (a : List Nat) (s : State) : State × TrayGroup :=
  match findArea s.census a with
  | some .area => (s, .area a)
  | some .mixed => (s, .mixed)
  | none =>
    if s.census.length < censusCapacity then
      if s.profile.sort.areaMinimum ≤ s.eligible a then
        (s.onCensus (insertEntry ⟨a, .area .area⟩), .area a)
      else (s.onCensus (insertEntry ⟨a, .area .mixed⟩), .mixed)
    else (s.raise .censusFull, .mixed)

/-- The level of a piece at the gate (R132, R133). A counted piece whose fine entry is missing occurs in no
reachable state (R132); it answers MIXED. DEDUCED, notes/assumptions/12.md. -/
def State.levelAnswer (r : Piece) (s : State) : State × TrayGroup :=
  match r.census with
  | .ruled k => (s, .rule k)
  | .reprint | .uncounted => (s, .mixed)
  | .counted =>
    let d := s.profile.sort.finePrefix r.key
    match findFine s.census d with
    | none => (s, .mixed)
    | some (n, l) =>
      let l' := decidedLevel s.profile.sort.fineMinimum n l
      let s1 := s.onCensus (onFine d (CensusEntry.setLevel l'))
      if l' == .coarse then s1.areaAnswer (s.profile.sort.areaPrefix r.key) else (s1, .fine d)

end Sys2Proof.Machine
end

