-- ==== Sys2Proof/Machine/Bins.lean ====
section
/-! DEFINITION. The Bin Manager's bins and trays (chapter 7): bin states and the release test, the sorter head's
status, tray closing and delivery, and the removal of census entries that follows a closed tray (R128). -/

namespace Sys2Proof.Machine

/-- The capacity of the closed-tray list (R157). -/
def closedTrayCapacity : Nat := 64

/-! ### Bins -/

/-- The record of bin `b`, 1 to 6. -/
def BinManager.bin (m : BinManager) (b : Nat) : Bin := nth m.table (b - 1)

def State.bin (s : State) (b : Nat) : Bin := s.bins.bin b

/-- A change of the record of bin `b`. -/
def BinManager.onBin (b : Nat) (f : Bin → Bin) (m : BinManager) : BinManager :=
  { m with table := setNth m.table (b - 1) (f (m.bin b)) }

def State.onBin (b : Nat) (f : Bin → Bin) (s : State) : State := s.onBins (BinManager.onBin b f)

/-- A change of the tray that bin `b` holds. -/
def State.onTray (b : Nat) (f : Tray → Tray) (s : State) : State :=
  s.onBin b fun x => { x with tray := x.tray.map f }

/-- A bin's change of state sends BIN_STATE, with the id of the tray the bin holds, to both ports (R143). -/
def State.setBinState (b : Nat) (st : BinState) (s : State) : State :=
  (s.onBin b fun x => { x with state := st }).notifyBoth (.binState b st ((s.bin b).tray.map Tray.id))

/-- The last status of the sorter head: the word held for it while it is PRESENT (R140). -/
def State.sorterStatus (s : State) : Option Half :=
  match s.profile.sorterHead with
  | none => none
  | some a =>
    let e := nth s.heads.table a
    if e.state == .present then e.lastStatus else none

/-- What a sorter status word shows for bin `b` (R208). -/
def shownOccupied (w : Half) (b : Nat) : Bool := w.getLsbD (b - 1)
def shownFault (w : Half) (b : Nat) : Bool := w.getLsbD (b + 7)

/-- The release test: a bin in FULL_WAIT or CLEARING that holds no tray and is shown neither occupied nor
faulted becomes FREE (R143). -/
def State.releaseTest (b : Nat) (s : State) : State :=
  match s.sorterStatus with
  | none => s
  | some w =>
    if ((s.bin b).state == .fullWait || (s.bin b).state == .clearing) && (s.bin b).tray.isNone
        && !shownOccupied w b && !shownFault w b then s.setBinState b .free
    else s

/-! ### Removal of census entries (R128) -/

/-- Whether some bin holds an OPEN or CLOSING tray of a level and group. -/
def State.holdsUnclosed (s : State) (g : TrayGroup) : Bool :=
  binNumbers.any fun b => match (s.bin b).tray with
    | some t => t.group == g && t.state != .closed
    | none => false

/-- The removal test of an area entry (R128). -/
def State.removeAreaIfDone (a : List Nat) (s : State) : State :=
  if (findArea s.census a).isSome && !(s.census.any fun e => e.kind.isFine && a.isPrefixOf e.digits)
      && !s.holdsUnclosed (.area a) then
    s.onCensus fun c => c.filter fun e => e.kind.isFine || e.digits != a
  else s

/-- The removal test of a fine entry; when it is removed, its area entry is tested in turn (R128). -/
def State.removeFineIfDone (d : List Nat) (s : State) : State :=
  if (findFine s.census d).elim false (fun x => x.1 == 0) && !s.holdsUnclosed (.fine d) then
    (s.onCensus fun c => c.filter fun e => !e.kind.isFine || e.digits != d).removeAreaIfDone
      (s.profile.sort.areaPrefix d)
  else s

/-- The report of a closed tray of level FINE or AREA to the Presort Unit (R128, R156). -/
def State.trayClosedReport (g : TrayGroup) (s : State) : State :=
  match g with
  | .fine d => s.removeFineIfDone d
  | .area a => s.removeAreaIfDone a
  | .mixed | .rule _ => s

/-! ### Closing and delivery -/

/-- Delivering the tray of bin `b`: it joins the closed-tray list, its bin holds it no longer, TRAY_CLOSED goes
to the plan port, and the release test is made (R157). -/
def State.deliverTray (b : Nat) (t : Tray) (s : State) : State :=
  (((s.onBins fun m => { m with closedTrays := m.closedTrays ++ [t] }).onBin b
    fun x => { x with tray := none }).notify .plan (.trayClosed t.id t.run t.bin t.reason)).releaseTest b

/-- Delivering the oldest tray of the delivery queue (R157). -/
def State.deliverOldest (s : State) : State :=
  match s.bins.delivery with
  | [] => s
  | b :: rest =>
    let s1 := s.onBins fun m => { m with delivery := rest }
    match (s1.bin b).tray with
    | some t => s1.deliverTray b t
    | none => s1

/-- Deliveries, oldest first, while the closed-tray list has room, up to `n` of them (R157, R159). -/
def State.deliverWaiting : Nat → State → State
  | 0, s => s
  | n + 1, s =>
    if s.bins.closedTrays.length < closedTrayCapacity then s.deliverOldest.deliverWaiting n else s

/-- A closed tray joins the end of the delivery queue, and is delivered at once when the list has room;
otherwise it waits and TRAY_LIST_FULL is set (R157). -/
def State.joinDelivery (b : Nat) (s : State) : State :=
  let s1 := s.onBins fun m => { m with delivery := m.delivery ++ [b] }
  if s.bins.closedTrays.length < closedTrayCapacity then s1.deliverWaiting s1.bins.delivery.length
  else s1.raise .trayListFull

/-- A tray that is CLOSING with reserved count 0 becomes CLOSED (R156). -/
def State.closeIfEmptied (b : Nat) (s : State) : State :=
  match (s.bin b).tray with
  | some t =>
    if t.state == .closing && t.reserved == 0 then
      ((s.onTray b fun t => { t with state := .closed }).trayClosedReport t.group).joinDelivery b
    else s
  | none => s

/-- The OPEN tray of bin `b` goes CLOSING: its close reason is set, its bin becomes FULL_WAIT unless it is FAULT
or OFFLINE, and the tray becomes CLOSED at once when nothing is reserved in it (R155). -/
def State.beginClosing (b : Nat) (reason : CloseReason) (s : State) : State :=
  match (s.bin b).tray with
  | some t =>
    if t.state == .opened then
      let s1 := s.onTray b fun t => { t with state := .closing, reason := some reason }
      let s2 :=
        if (s1.bin b).state == .fault || (s1.bin b).state == .offline then s1
        else s1.setBinState b .fullWait
      s2.closeIfEmptied b
    else s
  | none => s

/-- The bin that holds the OPEN tray of a level and group (R146). -/
def State.openTrayBin (s : State) (g : TrayGroup) : Option Nat :=
  binNumbers.find? fun b => match (s.bin b).tray with
    | some t => t.group == g && t.state == .opened
    | none => false

/-- A group end closes the OPEN tray of the level and group, if there is one (R130, R155). -/
def State.groupEnd (g : TrayGroup) (s : State) : State :=
  match s.openTrayBin g with
  | some b => s.beginClosing b .groupEnd
  | none => s

/-- At the run's end every OPEN tray begins closing, in bin order (R4, R155). -/
def State.closeAllTrays (s : State) : State :=
  binNumbers.foldl (fun s b => s.beginClosing b .runEnd) s

/-! ### The sorter head -/

/-- A status report applied to one bin, by the first case of the table of R141 that applies; then the release
test (R143). -/
def State.applyStatusToBin (w : Half) (b : Nat) (s : State) : State :=
  let st := (s.bin b).state
  let s1 :=
    if shownFault w b then
      if st == .fault then s else (s.setBinState b .fault).beginClosing b .binFault
    else if st == .fault then s.setBinState b .clearing
    else if st == .opened && !shownOccupied w b
        && (s.bin b).tray.elim false (fun t => t.state == .opened && 0 < t.count) then
      s.beginClosing b .removed
    else if st == .free && shownOccupied w b then s.setBinState b .clearing
    else s
  s1.releaseTest b

/-- A status report of the sorter head, applied in bin order (R141). -/
def State.applySorterStatus (w : Half) (s : State) : State :=
  binNumbers.foldl (fun s b => s.applyStatusToBin w b) s

/-- The sorter head has left PRESENT: every bin not already OFFLINE becomes OFFLINE, in bin order, its OPEN tray
closing with reason BIN_FAULT (R142). -/
def State.sorterLost (s : State) : State :=
  binNumbers.foldl (fun s b =>
    if (s.bin b).state == .offline then s
    else (s.setBinState b .offline).beginClosing b .binFault) s

/-- Every OFFLINE bin becomes CLEARING, in bin order (R142). -/
def State.binsBack (s : State) : State :=
  binNumbers.foldl (fun s b =>
    if (s.bin b).state == .offline then s.setBinState b .clearing else s) s

/-- The sorter head has become PRESENT: every OFFLINE bin becomes CLEARING, and the status word is applied (R142). -/
def State.sorterReturned (w : Half) (s : State) : State := s.binsBack.applySorterStatus w

/-! ### Trays in use -/

/-- Every tray record the Bin Manager holds: those in bins and those in the closed-tray list (R144). -/
def State.heldTrays (s : State) : List Tray :=
  (binNumbers.filterMap fun b => (s.bin b).tray) ++ s.bins.closedTrays

/-- The continuation number of a new tray: one more than the highest among the trays of the same run, level and
group still held (R145). A number past 65,535 has no value in the manual and is a free one. DESIGN CHOICE,
notes/assumptions/24.md. -/
def State.nextContinuation (s : State) (g : TrayGroup) : Nat :=
  let n := 1 + ((s.heldTrays.filter fun t => t.run == s.run.runNumber && t.group == g).map
    Tray.continuation).foldl max 0
  if n ≤ 65535 then n else Config.continuationPastEnd n

/-- The tray that opens in bin `b` (R145). -/
def State.newTray (s : State) (b : Nat) (g : TrayGroup) : Tray where
  id := s.bins.trayCounter
  run := s.run.runNumber
  group := g
  continuation := s.nextContinuation g
  bin := b
  state := .opened
  count := 0
  reserved := 0
  mass := 0
  reservedMass := 0
  bandCounts := Vector.replicate 8 0
  firstSeq := none
  lastSeq := none
  reason := none

/-- Opening a tray in bin `b`: the tray id counter rises by 1, going from 65,535 to 1, and the bin becomes OPEN
(R145). -/
def State.openTray (b : Nat) (g : TrayGroup) (s : State) : State :=
  let t := s.newTray b g
  ((s.onBins fun m => { m with
      trayCounter := if m.trayCounter == 65535 then 1 else m.trayCounter + 1 }).onBin b
    fun x => { x with tray := some t }).setBinState b .opened

/-- The bin in which a tray of a level and group may open now (R149). -/
def State.binForTray (s : State) (g : TrayGroup) : Option Nat :=
  match g with
  | .rule k => binNumbers.find? fun b => s.profile.dedicatedSlot b == some k && (s.bin b).state == .free
  | .fine _ | .area _ | .mixed =>
    binNumbers.find? fun b => (s.profile.dedicatedSlot b).isNone && (s.bin b).state == .free

/-- A reservation for the piece under `tag`, of mass `m`, in the tray of bin `b`; the tray goes CLOSING when
this fills it (R150). -/
def State.reserve (b tag m : Nat) (s : State) : State :=
  let id := (s.bin b).tray.elim 0 Tray.id
  let s1 := (s.onTray b fun t =>
      { t with reserved := t.reserved + 1, reservedMass := t.reservedMass + m }).onBins
    fun x => { x with reservations := x.reservations ++ [⟨tag, id, m⟩] }
  if (s1.bin b).tray.elim false (fun t => t.count + t.reserved == s.profile.sort.trayPieceLimit) then
    s1.beginClosing b .fullCount
  else s1

/-- The reservation record of a track entry. -/
def State.reservation? (s : State) (tag : Nat) : Option Reservation :=
  s.bins.reservations.find? fun r => r.tag == tag

/-- A change of the tray that a reservation record names, which stands in bin `b`, the bin of its BIN(b) decision
(R150; a tray's bin never changes, R139). The id alone does not name it: OPEN_RUN restarts the ids while CLOSED trays
of earlier runs still wait in their bins (R2, R157). -/
def State.onReservedTray (b : Nat) (r : Reservation) (f : Tray → Tray) (s : State) : State :=
  s.onTray b fun t => if t.id == r.trayId then f t else t

/-- Removing the reservation record of a track entry. -/
def State.dropReservation (tag : Nat) (s : State) : State :=
  s.onBins fun m => { m with reservations := m.reservations.filter fun r => r.tag != tag }

/-- Releasing the reservation of an entry decided BIN(b): the promised place and mass are given up, the record is
removed, and a CLOSING tray left with none becomes CLOSED (R154). -/
def State.releaseReservation (tag b : Nat) (s : State) : State :=
  match s.reservation? tag with
  | none => s
  | some r =>
    ((s.onReservedTray b r fun t =>
        { t with reserved := t.reserved - 1, reservedMass := t.reservedMass - r.mass }).dropReservation
      tag).closeIfEmptied b

end Sys2Proof.Machine
end

