-- ==== Sys2Proof/Machine/Sorting.lean ====
section
/-! DEFINITION. Rises and falls of census counts with the group ends they cause (R127 to R130), the
classification of pieces (R124 to R126), the finishing of a piece record (R19) and the close of a run (R4). -/

namespace Sys2Proof.Machine

/-- The test of an area entry of level AREA after a change of a fine count beneath it: when the eligible count
has passed from above 0 to 0, the group end of the area group is reported (R129). -/
def State.areaTest (a : List Nat) (before : Nat) (s : State) : State :=
  if findArea s.census a == some .area && 0 < before && s.eligible a == 0 then s.groupEnd (.area a)
  else s

/-- The count of a fine entry falls by 1: the group end of a FINE group whose count has reached 0, the area
test, and the removal test, in this order (R127). -/
def State.countFalls (d : List Nat) (s : State) : State :=
  let a := s.profile.sort.areaPrefix d
  let s1 := s.onCensus (onFine d (CensusEntry.onCount (· - 1)))
  let s2 := if findFine s1.census d == some (0, .fine) then s1.groupEnd (.fine d) else s1
  (s2.areaTest a (s.eligible a)).removeFineIfDone d

/-- The count of a fine entry rises by 1, the entry being created UNDECIDED with count 0 when there is none
(R124, case 3); then the area test (R129). -/
def State.countRises (d : List Nat) (s : State) : State :=
  let a := s.profile.sort.areaPrefix d
  let s1 :=
    if (findFine s.census d).isSome then s
    else s.onCensus (insertEntry ⟨d, .fine 0 .undecided⟩)
  (s1.onCensus (onFine d (CensusEntry.onCount (· + 1)))).areaTest a (s.eligible a)

/-- Classifying a record: its census reference is set to the case reached; a counted record raises its fine
entry, an uncounted one sets CENSUS_FULL (R124). -/
def State.classify (r : Piece) (s : State) : State :=
  let c := s.classification r.key r.id.reprint
  let s1 := s.onPiece r.id fun r => { r with census := c }
  match c with
  | .counted => s1.countRises (s1.profile.sort.finePrefix r.key)
  | .uncounted => s1.raise .censusFull
  | .reprint | .ruled _ => s1

/-- What the Presort Unit does when a record finishes or its classification is withdrawn: a counted record
lowers its fine entry, any other leaves the census untouched (R125, R126). -/
def State.withdraw (r : Piece) (s : State) : State :=
  match r.census with
  | .counted => s.countFalls (s.profile.sort.finePrefix r.key)
  | .uncounted | .reprint | .ruled _ => s

/-- An amended key: nothing when the record was counted and stays counted under the same fine prefix; otherwise
the old classification is withdrawn and the record is classified again (R125). `old` is the record before
the amendment and `new` after it. -/
def State.reclassify (old new : Piece) (s : State) : State :=
  let t := s.profile.sort
  if old.census == .counted && s.classification new.key new.id.reprint == .counted
      && t.finePrefix old.key == t.finePrefix new.key then s
  else (s.withdraw old).classify new

/-- A record as finishing leaves it (R19, steps 1 to 3). -/
def Piece.finish (d : Disposition) (r : Piece) : Piece :=
  { r with
    state := .finished
    disposition := some (if r.cancelPending then .cancelled else d)
    tag := none }

/-- Finishing a record that is not FINISHED: state, disposition, tag; the outcome order, with OUTCOMES when it
was empty; then the census (R19). A record already FINISHED is left unchanged. -/
def State.finish (id : PieceId) (d : Disposition) (s : State) : State :=
  match s.piece? id with
  | none => s
  | some r =>
    if r.state == .finished then s
    else
      let s1 := (s.onPiece id (Piece.finish d)).onRun fun t => { t with outcomes := t.outcomes ++ [id] }
      let s2 := if s.run.outcomes.isEmpty then s1.notify .plan .outcomes else s1
      s2.withdraw r

/-- Finishing a list of records one after another with one added cause each (R3, R36, R49). -/
def State.finishAll (ids : List PieceId) (c : Cause) (d : Disposition) (s : State) : State :=
  ids.foldl (fun s id => (s.addCause id c).finish id d) s

/-- The run reaches CLOSED: every OPEN tray begins closing with reason RUN_END, every census entry is removed,
and RUN_STATE(CLOSED) goes to both ports, in the order in which R4 lists them. DEDUCED, notes/assumptions/14.md. -/
def State.closeNow (s : State) : State :=
  (((s.onRun fun t => { t with runState := .closed }).closeAllTrays).onCensus fun _ => []).notifyBoth
    (.runState .closed)

/-- Whether the forming record, the ready record and the track queue are all empty (R3, R4). -/
def State.lineEmpty (s : State) : Bool :=
  s.checker.forming.isNone && s.checker.ready.isNone && s.track.entries.isEmpty

/-- The test the Run Table makes after every event that removes a collation record or a track entry (R4). -/
def State.drainTest (s : State) : State :=
  if s.run.runState == .draining && s.lineEmpty then s.closeNow else s

end Sys2Proof.Machine
end

