-- ==== Sys2Proof/Machine/Feeders.lean ====
section
/-! DEFINITION. The Insert Dispatcher (chapter 4): feeder states, the release hold they may lift (R48), pull
sets, pull results, substitution and close-out; and the make-up over a piece's inserts (R61). -/

namespace Sys2Proof.Machine

/-! ### Feeder states -/

def State.feeder (s : State) (k : Nat) : Feeder := nth s.feeders (k - 1)

def State.onFeeder (k : Nat) (f : Feeder → Feeder) (s : State) : State :=
  s.onFeeders fun v => setNth v (k - 1) (f (nth v (k - 1)))

/-- The head table entry of feeder `k`'s head address (R76). -/
def State.feederHeadEntry (s : State) (k : Nat) : Option HeadEntry :=
  (s.profile.feederHead k).map fun a => nth s.heads.table a

/-- The fields of a feeder status word (R208). -/
def statusJam (w : Half) : Bool := w.getLsbD 0
def statusEmpty (w : Half) : Bool := w.getLsbD 1
def statusLow (w : Half) : Bool := w.getLsbD 2
def statusRefill (w : Half) : Nat := w.toNat / 16 % 16

/-- The state of a feeder: the first row of the table of R80 whose condition holds. -/
def State.derivedFeederState (s : State) (k : Nat) : FeederState :=
  if !(s.profile.feeder k).enabled then .disabled
  else match s.feederHeadEntry k with
    | none => .offline
    | some e =>
      if e.state != .present then .offline
      else match e.lastStatus with
        | none => .offline
        | some w =>
          if statusJam w then .jammed
          else if statusEmpty w || (s.feeder k).missRun == 3 then .empty
          else if statusLow w then .low
          else .ready

/-- A feeder is usable when its state is READY or LOW and it carries a code (R80). -/
def State.usable (s : State) (k : Nat) : Bool :=
  ((s.feeder k).state == .ready || (s.feeder k).state == .low) && (s.profile.feeder k).code != 0

/-- The lowest-numbered usable feeder above `after` that carries a code and satisfies a further condition
(R86, R92). -/
def State.findFeeder (s : State) (after code : Nat) (ok : Nat → Bool) : Option Nat :=
  feederNumbers.find? fun k => after < k && s.usable k && s.profile.carries k code && ok k

/-- The required codes of a record that no usable feeder carries (R45, R86). -/
def State.unavailable (s : State) (r : Piece) : List Nat :=
  (r.inserts.filter fun i => i.required && (s.findFeeder 0 i.code fun _ => true).isNone).map
    InsertEntry.code

/-! ### The release hold (R48) -/

/-- The record whose collation stands in the ready record. -/
def State.readyPiece (s : State) : Option Piece :=
  match s.checker.ready with
  | some c => match c.owner with
    | .piece id => s.piece? id
    | .orphan => none
  | none => none

/-- The condition of the hold has cleared: the hold becomes NONE and HOLD_CLEARED goes to the track port. -/
def State.clearHold (s : State) : State :=
  (s.onChecker fun c => { c with releaseHold := .free }).notify .track .holdCleared

/-- The test of an outstanding FEEDER hold: it clears when every required code of the held piece has a usable
feeder, or when the feeder policy has become DIVERT. -/
def State.testFeederHold (s : State) : State :=
  if s.checker.releaseHold == .feeder then
    match s.readyPiece with
    | some r =>
      if (s.unavailable r).isEmpty || s.profile.limits.feederPolicy == .divert then s.clearHold else s
    | none => s
  else s

/-- The test of an outstanding TRACK_FULL hold, whenever a track entry leaves the queue. -/
def State.testTrackHold (s : State) : State :=
  if s.checker.releaseHold == .trackFull && s.track.entries.length < 32 then s.clearHold else s

/-- Deriving the state of feeder `k` again: a change replaces the state held, sends FEEDER_STATE to both ports,
and has an outstanding FEEDER hold tested (R81). -/
def State.derive (k : Nat) (s : State) : State :=
  let st := s.derivedFeederState k
  if (s.feeder k).state == st then s
  else
    ((s.onFeeder k fun f => { f with state := st }).notifyBoth
      (.feederState k st (s.feeder k).missRun)).testFeederHold

/-- The state of every feeder derived again, feeders 1 to 8 in number order, in which their FEEDER_STATE notices stand:
DEDUCED, notes/assumptions/22.md. -/
def State.deriveAll (s : State) : State := feederNumbers.foldl (fun s k => s.derive k) s

/-- A report of a feeder's head: a status word whose refill count differs from the last one seen makes the miss
run 0 (R83); then the state is derived again (R81). -/
def State.feederReport (k : Nat) (w : Option Half) (s : State) : State :=
  let s1 := match w with
    | some w =>
      if (s.feeder k).lastRefill == statusRefill w then s
      else s.onFeeder k fun f => { f with lastRefill := statusRefill w, missRun := 0 }
    | none => s
  s1.derive k

/-! ### Make-up (R61 to R66) -/

def State.stockOfPiece (s : State) (stock : Nat) : Stock := nth s.profile.stocks stock

/-- The mass and caliper of one insert of feeder `k`. -/
def Profile.insertValues (f : Profile) (k : Nat) : Nat × Nat := ((f.feeder k).mass, (f.feeder k).caliper)

/-- The values of a feeder carrying a code; all such feeders carry the same (R61). -/
def Profile.codeValues (f : Profile) (code : Nat) : Nat × Nat :=
  match feederNumbers.find? fun k => f.carries k code with
  | some k => f.insertValues k
  | none => (0, 0)

/-- Mass and thickness over a list of inserts (R62, R63). -/
def State.makeUpOver (s : State) (sheets stock panels : Nat) (inserts : List (Nat × Nat)) : Nat × Nat :=
  (makeUpMass sheets (nth s.sheetMass stock) inserts s.profile.envelope,
   makeUpThickness sheets (s.stockOfPiece stock).caliper panels inserts s.profile.envelope)

/-- The planned make-up of a record, or why it cannot be made (R13, R64). -/
def State.plan (s : State) (sheets stock : Nat) (inserts : List InsertEntry) : Except LoadCause MakeUp :=
  match foldPlan (s.stockOfPiece stock) s.profile.envelope s.profile.limits.foldLimit with
  | none => .error .noFit
  | some p =>
    let x := s.makeUpOver sheets stock p (inserts.map fun i => s.profile.codeValues i.code)
    if s.profile.envelope.throat < x.2 then .error .overThick
    else if s.profile.limits.massCeiling < x.1 then .error .overMass
    else .ok ⟨p, x.1, x.2⟩

/-- The inserts counted over a pull list: PENDING and TAKEN once, DOUBLE twice, MISS and PASSED not (R61). At a
FOLD verdict every entry is PENDING; after close-out none is. -/
def Profile.pulledValues (f : Profile) (pulls : List PullEntry) : List (Nat × Nat) :=
  pulls.flatMap fun e => match e.result with
    | .pending | .taken => [f.insertValues e.feeder]
    | .double => [f.insertValues e.feeder, f.insertValues e.feeder]
    | .miss | .passed => []

/-- The make-up recomputed over the pull list and the planned panels: expected mass and thickness (R65, R66). -/
def State.expectedOver (s : State) (r : Piece) : Nat × Nat :=
  s.makeUpOver r.sheets r.stock r.planned.panels (s.profile.pulledValues r.pulls)

/-! ### Pull sets (R86, R87) -/

/-- The pull set of a record, as (feeder, code) pairs in feeder order. -/
def State.pullSet (s : State) (r : Piece) : List (Nat × Nat) :=
  let found := r.inserts.filterMap fun i => (s.findFeeder 0 i.code fun _ => true).map fun k => (k, i.code)
  feederNumbers.flatMap fun k => found.filter fun x => x.1 == k

/-- The optional codes that no usable feeder carries, in insert-list order. -/
def State.skippedCodes (s : State) (r : Piece) : List Nat :=
  (r.inserts.filter fun i => !i.required && (s.findFeeder 0 i.code fun _ => true).isNone).map
    InsertEntry.code

/-! ### Pull results (R88 to R93) -/

/-- What follows a pull result (R93). -/
inductive PullAction where
  | none
  | pull (k : Nat)
  | missing (code : Nat)
  | skipped (code : Nat)
deriving DecidableEq, Repr

def PullAction.values : PullAction → List Value
  | .none => [.code .pullAction 0]
  | .pull k => [.code .pullAction 1, byteV k]
  | .missing c => [.code .pullAction 2, byteV c]
  | .skipped c => [.code .pullAction 3, byteV c]

/-- The PENDING entry of a record that names a feeder. -/
def Piece.pendingPull (r : Piece) (k : Nat) : Option PullEntry :=
  r.pulls.find? fun e => e.feeder == k && e.result == .pending

/-- The PENDING entry naming a feeder takes a result (R89 to R91). -/
def Piece.setPull (k : Nat) (res : PullResult) (r : Piece) : Piece :=
  { r with pulls := r.pulls.map fun e =>
      if e.feeder == k && e.result == .pending then { e with result := res } else e }

/-- A skipped code joins the skipped codes, each at most once (R85). -/
def Piece.addSkipped (code : Nat) (r : Piece) : Piece :=
  if r.skipped.contains code then r else { r with skipped := r.skipped ++ [code] }

/-- Whether a code is a required code of the record. -/
def Piece.requires (r : Piece) (code : Nat) : Bool := r.inserts.any fun i => i.code == code && i.required

/-- The substitution search for a code after feeder `k`, and what follows from it (R92). -/
def State.substitute (id : PieceId) (k code : Nat) (s : State) : State × PullAction :=
  match s.piece? id with
  | none => (s, .none)
  | some r =>
    match s.findFeeder k code fun j => !r.pulls.any fun e => e.feeder == j with
    | some j =>
      (s.onPiece id fun r => { r with pulls := r.pulls ++ [⟨j, code, .pending, .substitute⟩] }, .pull j)
    | none =>
      if r.requires code then (s.addCause id .missingInsert, .missing code)
      else (s.onPiece id (Piece.addSkipped code), .skipped code)

/-- The taken count saturates at 16,777,215 (R84). -/
def takenCeiling : Nat := 16777215

/-- TAKEN or DOUBLE: the entry takes the result, the taken count rises, the miss run becomes 0, which derives the
state again when it was not already 0, and DOUBLE adds DOUBLE_INSERT (R89). -/
def State.pullDelivered (id : PieceId) (k : Nat) (res : PullResult) (s : State) : State :=
  let s1 := (s.onPiece id (Piece.setPull k res)).onFeeder k fun f =>
    { f with takenCount := min (f.takenCount + if res == .double then 2 else 1) takenCeiling
             missRun := 0 }
  let s2 := if (s.feeder k).missRun == 0 then s1 else s1.derive k
  if res == .double then s2.addCause id .doubleInsert else s2

/-- A taken PULL_RESULT for the PENDING entry `e` of a record (R89 to R91). -/
def State.pullReport (id : PieceId) (e : PullEntry) (res : PullResult) (s : State) : State × PullAction :=
  match res with
  | .taken | .double => (s.pullDelivered id e.feeder res, .none)
  | .miss =>
    (((s.onPiece id (Piece.setPull e.feeder .miss)).onFeeder e.feeder fun f =>
      { f with missRun := min (f.missRun + 1) 3 }).derive e.feeder).substitute id e.feeder e.code
  | .passed | .pending => (s.onPiece id (Piece.setPull e.feeder .passed)).substitute id e.feeder e.code

/-! ### Close-out (R96) -/

/-- Whether a code has an entry with result TAKEN or DOUBLE. -/
def Piece.delivered (r : Piece) (code : Nat) : Bool :=
  r.pulls.any fun e => e.code == code && (e.result == .taken || e.result == .double)

/-- Every entry still PENDING becomes PASSED (R96, step 1). -/
def Piece.passPending (r : Piece) : Piece :=
  { r with pulls := r.pulls.map fun e => if e.result == .pending then { e with result := .passed } else e }

/-- The feeders whose entries the close-out turns to PASSED (R96), in pull-list order, in which a substitute stands
behind the release entries. DESIGN CHOICE, notes/assumptions/33.md. -/
def Piece.pendingFeeders (r : Piece) : List Nat :=
  (r.pulls.filter fun e => e.result == .pending).map PullEntry.feeder

/-- The required codes without a delivered entry, in insert-list order (R96, step 2). -/
def Piece.missingCodes (r : Piece) : List Nat :=
  (r.inserts.filter fun i => i.required && !r.delivered i.code).map InsertEntry.code

/-- The optional codes without a delivered entry and not yet skipped, in insert-list order (R96, step 3). -/
def Piece.newlySkipped (r : Piece) : List Nat :=
  (r.inserts.filter fun i => !i.required && !r.delivered i.code && !r.skipped.contains i.code).map
    InsertEntry.code

/-- A record after close-out (R96, steps 1 to 3). -/
def Piece.closeOut (r : Piece) : Piece :=
  let r1 := r.passPending
  let r2 := if r1.missingCodes.isEmpty then r1 else r1.addCause .missingInsert
  { r2 with skipped := r2.skipped ++ r1.newlySkipped }

/-- The recomputation at ENVELOPED: expected values, OVER_MASS and OVER_THICK, and the band (R66). -/
def State.recompute (s : State) (r : Piece) : Piece :=
  let x := s.expectedOver r
  let r1 := { r with expected := some x }
  let r2 := if s.profile.limits.massCeiling < x.1 then r1.addCause .overMass else r1
  let r3 := if s.profile.envelope.throat < x.2 then r2.addCause .overThick else r2
  { r3 with band := some (bandOf s.profile.bands x.1) }

end Sys2Proof.Machine
end

