-- ==== Sys2Proof/Machine/Gate.lean ====
section
/-! DEFINITION. The gate: the gate decision (R146 to R150), the stall and its re-evaluation (R151, R152), the
hand-on to the entries behind (R109), the exit (R153, R154), and the stage order (R102, R103). -/

namespace Sys2Proof.Machine

/-! ### The gate decision -/

/-- A gate decision: BIN(b) or DIVERT, or STALL with the level and group of the piece (R107). -/
inductive GateAnswer where
  | decided (d : GateDecision)
  | stall (g : TrayGroup)
deriving DecidableEq, Repr

/-- Opening a tray for a piece and reserving its place, or STALL when no bin can take one (R149). -/
def State.openOrStall (g : TrayGroup) (tag m : Nat) (s : State) : State × GateAnswer :=
  match s.binForTray g with
  | some b => ((s.openTray b g).reserve b tag m, .decided (.bin b))
  | none => (s, .stall g)

/-- The count and the mass condition of the fit test (R148). -/
def Tray.fitsCount (t : Tray) (l : SortSettings) : Bool := t.count + t.reserved + 1 ≤ l.trayPieceLimit
def Tray.fitsMass (t : Tray) (l : SortSettings) (m : Nat) : Bool :=
  t.mass + t.reservedMass + m ≤ l.trayMassLimit

/-- The decision for a piece of a level and group: the fit test of the OPEN tray, or a new tray (R146 step 3,
R148, R149). -/
def State.placeInTray (g : TrayGroup) (tag m : Nat) (s : State) : State × GateAnswer :=
  match s.openTrayBin g with
  | none => s.openOrStall g tag m
  | some b =>
    match (s.bin b).tray with
    | none => s.openOrStall g tag m
    | some t =>
      if t.fitsCount s.profile.sort then
        if t.fitsMass s.profile.sort m then (s.reserve b tag m, .decided (.bin b))
        else (s.beginClosing b .fullMass).openOrStall g tag m
      else (s.beginClosing b .fullCount).openOrStall g tag m

/-- The gate decision for the entry under `tag` with piece record `r` (R146). -/
def State.gateDecision (tag : Nat) (r : Piece) (s : State) : State × GateAnswer :=
  if !r.faults.isEmpty || r.cancelPending then (s, .decided .divert)
  else (s.levelAnswer r).1.placeInTray (s.levelAnswer r).2 tag r.finalMass

/-- The decision for a track entry; an entry whose record is missing occurs in no reachable state (R99) and is
diverted. DEDUCED, notes/assumptions/12.md. -/
def State.decideEntry (e : TrackEntry) (s : State) : State × GateAnswer :=
  match s.piece? e.piece with
  | some r => s.gateDecision e.tag r
  | none => (s, .decided .divert)

/-- An entry becomes GATED with its decision (R107 to R109). -/
def State.setGated (tag : Nat) (d : GateDecision) (s : State) : State :=
  s.onEntry tag fun e => { e with stage := .gated, stalled := false, decision := some d }

/-- The entry stalls: the stall is recorded and BIN_WAIT goes to both ports (R107, R151). -/
def State.recordStall (tag : Nat) (g : TrayGroup) (s : State) : State :=
  let dedicated := match g with
    | .rule k => (binNumbers.find? fun b => s.profile.dedicatedSlot b == some k).map fun b =>
        (b, (s.bin b).state)
    | .fine _ | .area _ | .mixed => none
  ((s.onEntry tag fun e => { e with stalled := true }).onBins fun m =>
    { m with stall := some ⟨tag, g⟩ }).notifyBoth (.binWait tag g dedicated)

/-- The hand-on over the entries behind a gated one, oldest first: each that is decision pending is decided,
with GATE_GO to the track port; it stops at an entry that stalls or is not decision pending (R109). -/
def State.handOn : List Nat → State → State
  | [], s => s
  | tag :: rest, s =>
    match s.entry? tag with
    | none => s
    | some e =>
      if e.stage == .atGate && !e.stalled then
        let x := s.decideEntry e
        match x.2 with
        | .decided d => ((x.1.setGated tag d).notify .track (.gateGo tag d)).handOn rest
        | .stall g => x.1.recordStall tag g
      else s

/-- The tags of the entries younger than one, oldest first. -/
def State.younger (s : State) (tag : Nat) : List Nat :=
  ((s.track.entries.dropWhile fun e => e.tag != tag).drop 1).map TrackEntry.tag

/-- What a re-evaluation of an entry that ends in STALL leaves: the level answer, an area entry or CENSUS_FULL that it
recorded among it, stands (R132, R133, R147). -/
def State.levelAsked (e : TrackEntry) (s : State) : State :=
  match s.piece? e.piece with
  | some r => (s.levelAnswer r).1
  | none => s

/-- Re-evaluating the stalled entry: the decision reached, which ends the stall. One that gives STALL again changes
nothing (R152) but what its level answer recorded, which stands (R132, R147): that R152's words leave room for it is
DEDUCED, notes/assumptions/16.md. `announce` sends the decision as GATE_GO; a repeated AT_GATE carries it in its
response instead (R108). -/
def State.reevaluate (announce : Bool) (s : State) : State × Option GateDecision :=
  match s.bins.stall with
  | none => (s, none)
  | some x =>
    match s.entry? x.tag with
    | none => (s, none)
    | some e =>
      let y := s.decideEntry e
      match y.2 with
      | .stall _ => (s.levelAsked e, none)
      | .decided d =>
        let s2 := (y.1.onBins fun m => { m with stall := none }).setGated x.tag d
        let s3 := if announce then s2.notify .track (.gateGo x.tag d) else s2
        (s3.handOn (s3.younger x.tag), some d)

/-- Whether some bin has become FREE between two states. -/
def binFreed (before after : State) : Bool :=
  binNumbers.any fun b => (before.bin b).state != .free && (after.bin b).state == .free

/-- The one re-evaluation after an event that has made a bin FREE while an entry is stalled (R143, R152).
DEDUCED, notes/assumptions/16.md. -/
def State.afterEvent (s before : State) : State :=
  if binFreed before s then (s.reevaluate true).1 else s

/-! ### Stage order -/

/-- Whether a stage has been reached (R102). -/
def Stage.reached (target st : Stage) : Bool := target.rank ≤ st.rank

/-- The preceding stage of an event's stage (R102). -/
def State.precedingStage (s : State) : Stage → Stage
  | .released | .folded => .released
  | .enveloped => .folded
  | .weighed => .enveloped
  | .atGate => if s.profile.limits.scaleInLine then .weighed else .enveloped
  | .gated => .atGate

/-- The oldest entry that has not reached a stage: the one a stage event has to name (R103). -/
def State.expectedEntry (s : State) (target : Stage) : Option TrackEntry :=
  s.track.entries.find? fun e => !target.reached e.stage

/-- The entry a stage event moves, when the tag names the expected entry at the preceding stage (R103, step 3). -/
def State.movable (s : State) (target : Stage) (tag : Nat) : Option TrackEntry :=
  match s.expectedEntry target with
  | some e => if e.tag == tag && e.stage == s.precedingStage target then some e else none
  | none => none

/-- The refusal OUT_OF_ORDER of a stage event: the sticky flag, and the entry the event had to name (R103). -/
def State.refuseOrder (target : Stage) (s : State) : State × Reply :=
  (s.raise .outOfOrder, refuse .outOfOrder (expectedEntryV (s.expectedEntry target)))

/-! ### Exit -/

/-- Counting a piece into the tray of its reservation (R153, steps 1 to 3). -/
def Tray.countPiece (r : Piece) (m : Nat) (t : Tray) : Tray :=
  { t with
    reserved := t.reserved - 1
    count := t.count + 1
    reservedMass := t.reservedMass - m
    mass := t.mass + m
    bandCounts := match r.band with
      | some b => setNth t.bandCounts (b - 1) (nth t.bandCounts (b - 1) + 1)
      | none => t.bandCounts
    firstSeq := t.firstSeq.or (some r.id.seq)
    lastSeq := some r.id.seq }

/-- An exit into the bin decided: the reservation becomes a counted piece, the record takes the tray and bin and
finishes BINNED, and a CLOSING tray with nothing reserved becomes CLOSED (R153). -/
def State.exitIntoBin (tag b : Nat) (r : Piece) (s : State) : State :=
  match s.reservation? tag with
  | none => s.finish r.id .binned
  | some x =>
    let s1 := (s.onReservedTray b x (Tray.countPiece r x.mass)).dropReservation tag
    ((s1.onPiece r.id fun r => { r with tray := some (x.trayId, b) }).finish r.id .binned).closeIfEmptied b

/-- An exit by the divert path: after a BIN decision GATE_JAM is added and the reservation released; then the
record finishes DIVERTED (R154). -/
def State.exitDiverted (tag : Nat) (id : PieceId) (decision : GateDecision) (s : State) : State :=
  match decision with
  | .bin b => ((s.addCause id .gateJam).releaseReservation tag b).finish id .diverted
  | .divert => s.finish id .diverted

/-- The entry leaves the queue and its tag is free (R111, R114). -/
def State.removeEntry (tag : Nat) (s : State) : State :=
  s.onTrack fun q => { q with entries := q.entries.filter fun e => e.tag != tag }

/-! ### Tags (R101) -/

/-- The tag issued next: the first that no entry holds, from the allocator position upward and on from 0 after
63. With all 64 held, which R100 rules out, the position itself. -/
def TrackQueue.nextTag (q : TrackQueue) : Nat :=
  (((List.range 64).map fun i => (q.allocator + i) % 64).find? fun t =>
    !q.entries.any fun e => e.tag == t).getD q.allocator

end Sys2Proof.Machine
end

