-- ==== Sys2Proof/Machine/Collation.lean ====
section
/-! DEFINITION. The Collation Checker (chapter 2): sheet judgement, orphans and loss of sync, release verdicts,
and resynchronisation. -/

namespace Sys2Proof.Machine

/-! ### Collations -/

/-- A collation as it opens for a piece (R35) or as an orphan (R37). -/
def Collation.openPiece (id : PieceId) : Collation := ⟨.piece id, none, [], 0, 0, [], false⟩
def Collation.openOrphan (identity : Option PieceId) (highest : Nat) : Collation :=
  ⟨.orphan, identity, [], highest, 1, [], false⟩

/-- One more sheet joined; the number saturates at 255 (R26). -/
def Collation.join (c : Collation) : Collation := { c with joined := min (c.joined + 1) 255 }

/-- A collation fault, each held once (R26, R28). -/
def Collation.addFault (f : Cause) (c : Collation) : Collation :=
  if c.faults.contains f then c else { c with faults := c.faults ++ [f] }

/-- A collation is clean when it has ended without faults and has accepted every index from 1 to the sheet
count; an orphan is never clean (R28). -/
def Collation.clean (c : Collation) (sheets : Nat) : Bool :=
  c.ended && c.faults.isEmpty && c.owner != .orphan
    && (List.range sheets).all (fun i => c.accepted.contains (i + 1))

/-- What the forming record holds (R26, R41). -/
def Checker.openForming (k : Checker) : Option Collation := k.forming.filter fun c => !c.ended
def Checker.waiting (k : Checker) : Bool := k.forming.elim false Collation.ended

/-- Whether a sheet joins an open collation; a sheet that does not would end it (R31, R33, R34, R38). -/
def SheetReport.joins (sh : SheetReport) (c : Collation) : Bool :=
  match sh with
  | .noRead => true
  | .mark m => match c.owner with
    | .piece id => m.id == id
    | .orphan => m.index != 1 && c.identity == some m.id

/-- Whether a sheet would be a start sheet (R29). -/
def State.wouldStart (s : State) (sh : SheetReport) : Bool :=
  match s.checker.openForming with
  | some c => !sh.joins c
  | none => true

/-- Whether a sheet would end the open forming record (R30, step 4). -/
def State.wouldEnd (s : State) (sh : SheetReport) : Bool :=
  match s.checker.openForming with
  | some c => !sh.joins c
  | none => false

/-! ### What a sheet did -/

/-- The outcome of a sheet (R30). -/
inductive SheetOutcome where
  | accepted
  | fault (c : Cause)
  | joined
deriving DecidableEq, Repr

/-- The outcome in the response of SHEET: a fault by its cause number (R206); ACCEPTED and JOINED have no code. -/
def SheetOutcome.value : SheetOutcome → Value
  | .accepted => .code .sheetOutcome 0
  | .fault c => byteV c.number
  | .joined => .code .sheetOutcome 1

/-- Whether the forming record ended, and where its collation went (R30). -/
inductive EndPlace where
  | notEnded | toReady | waits
deriving DecidableEq, Repr

def EndPlace.code : EndPlace → Nat
  | .notEnded => 0
  | .toReady => 1
  | .waits => 2

/-- The report of a taken sheet (R30). -/
structure SheetDone where
  owner    : Owner
  outcome  : SheetOutcome
  skipped  : Nat
  endPlace : EndPlace
  lostSync : Bool
deriving DecidableEq, Repr

def SheetDone.values (d : SheetDone) : List Value :=
  ownerV (some d.owner) ++
    [d.outcome.value, .code .count d.skipped, .code .endPlace d.endPlace.code,
     flagV d.lostSync]

/-! ### Sheets that join -/

/-- The judgement of a sheet that joins a piece collation: its outcome by the first case of R31 that applies. -/
def judgeMark (sheets highest : Nat) (m : Mark) : SheetOutcome :=
  if m.printed != sheets || sheets < m.index then .fault .markMismatch
  else if m.index == highest + 1 then .accepted
  else if highest + 1 < m.index then .fault .missingSheet
  else .fault .duplicateSheet

/-- A fault found by sheet judgement is added to the collation, and to the piece's fault set (R28). -/
def SheetOutcome.fault? : SheetOutcome → Option Cause
  | .fault c => some c
  | .accepted | .joined => none

/-- The collation after a sheet has joined it: sheets joined, highest index, accepted set and faults (R31), and
ended when the index equals the sheet count (R32). -/
def Collation.joinMark (sheets : Nat) (m : Mark) (c : Collation) : Collation :=
  let out := judgeMark sheets c.highest m
  let c1 := match out with
    | .accepted => { c with accepted := c.accepted ++ [m.index] }
    | .fault f => c.addFault f
    | .joined => c
  { c1.join with highest := max c.highest m.index, ended := m.index == sheets }

/-- An ended collation moves to the ready record when that is empty, and otherwise waits (R41). -/
def Checker.settleForming (k : Checker) : Checker :=
  if k.waiting && k.ready.isNone then { k with ready := k.forming, forming := none } else k

/-- Where the collation of the forming record goes when it ends now (R30, R41). -/
def Checker.endPlace (k : Checker) : EndPlace :=
  if k.waiting then if k.ready.isNone then .toReady else .waits else .notEnded

def State.setForming (c : Collation) (s : State) : State := s.onChecker fun k => { k with forming := some c }

/-- The causes of a sheet outcome, added to the owner's fault set (R28). -/
def State.addOutcome (id : PieceId) (out : SheetOutcome) (s : State) : State :=
  match out.fault? with
  | some c => s.addCause id c
  | none => s

/-- A readable sheet judged against an open piece collation (R31, R32). -/
def State.joinPiece (id : PieceId) (c : Collation) (m : Mark) (skipped : Nat) (s : State) :
    State × SheetDone :=
  let sheets := (s.piece? id).elim 0 Piece.sheets
  let out := judgeMark sheets c.highest m
  let s1 := (s.addOutcome id out).setForming (c.joinMark sheets m)
  (s1.onChecker Checker.settleForming, ⟨.piece id, out, skipped, s1.checker.endPlace, false⟩)

/-- A sheet that joins the open collation `c` (R31, R33, R38). -/
def State.joinSheet (sh : SheetReport) (c : Collation) (s : State) : State × SheetDone :=
  match c.owner, sh with
  | .piece id, .mark m => s.joinPiece id c m 0
  | .piece id, .noRead =>
    ((s.addCause id .unreadable).setForming (c.join.addFault .unreadable),
      ⟨.piece id, .fault .unreadable, 0, .notEnded, false⟩)
  | .orphan, .mark m =>
    (s.setForming { c.join with highest := max c.highest m.index }, ⟨.orphan, .joined, 0, .notEnded, false⟩)
  | .orphan, .noRead => (s.setForming c.join, ⟨.orphan, .joined, 0, .notEnded, false⟩)

/-! ### Start sheets -/

/-- The forming record opens for a piece: the record becomes COLLATING, the cursor is set just after it, and
the orphan run count becomes 0 (R35, R36). -/
def State.openFor (id : PieceId) (s : State) : State :=
  (s.onPiece id fun r => { r with state := .collating }).onChecker fun k =>
    { k with forming := some (Collation.openPiece id), cursor := s.position id + 1, orphanRun := 0 }

/-- Intake enters SYNC_LOST: the state, the sticky flag, and a notice to each port (R40). -/
def State.enterSyncLost (s : State) : State :=
  ((s.onChecker fun k => { k with intake := .syncLost }).raise .syncLost).notifyBoth .syncLost

/-- A start sheet opens an orphan and raises the orphan run count, which is compared with the orphan limit
(R37, R39). -/
def State.startOrphan (sh : SheetReport) (s : State) : State × SheetDone :=
  let c := match sh with
    | .noRead => Collation.openOrphan none 0
    | .mark m => Collation.openOrphan (some m.id) m.index
  let s1 := s.onChecker fun k => { k with forming := some c, orphanRun := k.orphanRun + 1 }
  if s.profile.limits.orphanLimit ≤ s1.checker.orphanRun then
    (s1.enterSyncLost, ⟨.orphan, .joined, 0, .notEnded, true⟩)
  else (s1, ⟨.orphan, .joined, 0, .notEnded, false⟩)

/-- The LOADED records that stand before a start sheet's piece: none for the expected piece, and `none` when the
sheet belongs to no LOADED record within reach (R35, R36). -/
def State.skippedBefore (s : State) (id : PieceId) : Option (List PieceId) :=
  let ahead := s.loadedAhead.map Piece.id
  let k := ahead.idxOf id
  if k < ahead.length ∧ k ≤ s.profile.limits.resyncReach then some (ahead.take k) else none

/-- A start sheet (R35 to R37). -/
def State.startSheet (sh : SheetReport) (s : State) : State × SheetDone :=
  match sh with
  | .noRead => s.startOrphan sh
  | .mark m =>
    match s.skippedBefore m.id with
    | none => s.startOrphan sh
    | some ids =>
      ((s.finishAll ids .skippedAhead .notFed).openFor m.id).joinPiece m.id (Collation.openPiece m.id) m
        ids.length

/-- The open forming record ends on a sheet that does not join it: a piece collation without faults gains
MISSING_SHEET, and the collation moves to ready (R34, R38). -/
def State.endForming (c : Collation) (s : State) : State :=
  let s1 := match c.owner with
    | .piece id =>
      if c.faults.isEmpty then
        (s.addCause id .missingSheet).setForming { c.addFault .missingSheet with ended := true }
      else s.setForming { c with ended := true }
    | .orphan => s.setForming { c with ended := true }
  s1.onChecker Checker.settleForming

/-- The judgement of a taken sheet (R31 to R38). When it ends the open collation, the report describes the new
one and its end-of-record fields describe the one that ended (R30). -/
def State.judgeSheet (sh : SheetReport) (s : State) : State × SheetDone :=
  match s.checker.openForming with
  | none => s.startSheet sh
  | some c =>
    if sh.joins c then s.joinSheet sh c
    else
      let s1 := s.endForming c
      let x := s1.startSheet sh
      (x.1, { x.2 with endPlace := .toReady })

/-- The refusals of SHEET, in order (R30). -/
def State.sheetRefusal (sh : SheetReport) (s : State) : Option Result :=
  if s.run.runState == .closed then some .wrongState
  else if s.checker.intake == .syncLost then some .syncLost
  else if s.run.runState == .draining && s.wouldStart sh then some .wrongState
  else if (s.wouldStart sh && s.checker.waiting) || (s.wouldEnd sh && s.checker.ready.isSome) then
    some .holdSheet
  else none

/-- SHEET (R30). -/
def sheetBody (pl : List Byte) (s : State) : State × Reply :=
  match sheetReportOf pl with
  | none => (s, refuse .badArg)
  | some sh =>
    match s.sheetRefusal sh with
    | some r => (s, refuse r)
    | none =>
      let x := s.judgeSheet sh
      (x.1.afterEvent s, done x.2.values)

/-! ### Release -/

/-- A verdict of RELEASE (R43 to R46). -/
inductive Verdict where
  | fold (tag panels : Nat) (feeders : List Nat)
  | divert (piece : Option PieceId) (cause : Option Cause) (cancelled : Bool) (joined : Nat)
  | hold (h : ReleaseHold) (codes : List Nat)
deriving DecidableEq, Repr

def ReleaseHold.rank : ReleaseHold → Nat
  | .free => 0
  | .feeder => 1
  | .trackFull => 2

def Verdict.values : Verdict → List Value
  | .fold tag panels feeders => [.code .releaseVerdict 0, byteV tag, byteV panels] ++ byteListV feeders
  | .divert piece cause cancelled joined =>
    [.code .releaseVerdict 1] ++ ownerV (piece.map .piece) ++
      [byteV (cause.elim 0 Cause.number), flagV cancelled, .code .sheetsJoined joined]
  | .hold h codes =>
    [.code .releaseVerdict 2, .code .releaseHold h.rank] ++ if h == .feeder then byteListV codes else []

/-- The ready record empties by a verdict other than HOLD: the release hold becomes NONE without notice (R48), a
waiting collation moves in, and the Run Table makes the test of R4 (R47). -/
def State.emptyReady (s : State) : State :=
  (s.onChecker fun k => { k with ready := none, releaseHold := .free }.settleForming).drainTest

/-- A HOLD verdict: the collation stays and the release hold takes the cause (R45, R46, R48). -/
def State.setHold (h : ReleaseHold) (s : State) : State := s.onChecker fun k => { k with releaseHold := h }

/-- The effects of a FOLD verdict, in the order of R46: tag and entry, pull list, expected make-up, record, ready
record. -/
def State.foldPiece (r : Piece) (s : State) : State :=
  let tag := s.track.nextTag
  let s1 := s.onTrack fun q =>
    { entries := q.entries ++ [⟨tag, r.id, .released, false, none⟩]
      allocator := if tag == 63 then 0 else tag + 1 }
  let r1 := { r with
    pulls := (s.pullSet r).map fun x => ⟨x.1, x.2, .pending, .release⟩
    skipped := s.skippedCodes r }
  (s1.onPiece r.id fun r =>
    { r with
      pulls := r1.pulls
      skipped := r1.skipped
      expected := some (s.expectedOver r1)
      state := .onTrack
      tag := some tag }).emptyReady

/-- The verdict for a clean collation whose piece has no cancel-pending (R45, R46). -/
def State.releaseClean (r : Piece) (joined : Nat) (s : State) : State × Verdict :=
  if !(s.unavailable r).isEmpty then
    match s.profile.limits.feederPolicy with
    | .hold => (s.setHold .feeder, .hold .feeder (s.unavailable r))
    | .divert =>
      (((s.addCause r.id .feederUnavailable).finish r.id .diverted).emptyReady,
        .divert (some r.id) (some .feederUnavailable) false joined)
  else if 32 ≤ s.track.entries.length then (s.setHold .trackFull, .hold .trackFull [])
  else
    (s.foldPiece r, .fold s.track.nextTag r.planned.panels ((s.pullSet r).map Prod.fst))

/-- The verdict for the collation in the ready record (R44 to R46). A collation whose record is missing occurs in
no reachable state (R26) and is diverted as an orphan is. -/
def State.releaseVerdict (c : Collation) (s : State) : State × Verdict :=
  match c.owner with
  | .orphan => (s.emptyReady, .divert none none false c.joined)
  | .piece id =>
    match s.piece? id with
    | none => (s.emptyReady, .divert none none false c.joined)
    | some r =>
      if !c.clean r.sheets || r.cancelPending then
        ((s.finish id .diverted).emptyReady,
          .divert (some id) r.faults.head? r.cancelPending c.joined)
      else s.releaseClean r c.joined

/-- RELEASE with flush ends the open forming record: a piece collation gains MISSING_SHEET, an orphan ends as it
stands, and it moves to the ready record (R43). -/
def State.flushForming (c : Collation) (s : State) : State :=
  let s1 := match c.owner with
    | .piece id => (s.addCause id .missingSheet).setForming { c.addFault .missingSheet with ended := true }
    | .orphan => s.setForming { c with ended := true }
  s1.onChecker Checker.settleForming

/-- RELEASE (R43). A flush byte that is neither 0 nor 1 is refused BAD_ARG before anything else, the ready record
occupied or not: R203 leaves it to R43, which names no refusal for it. DESIGN CHOICE, notes/assumptions/29.md. In
CLOSED with both records empty the refusal is NOTHING_READY, as R43 says of every RELEASE there, and so before the
first OPEN_RUN too: the chapter that owns a request names its result code (00_scope.md, section 1.4), and R24 refuses a
release there 'by the rules of the requests concerned'. DEDUCED, notes/assumptions/28.md. -/
def releaseBody (pl : List Byte) (s : State) : State × Reply :=
  match yesNoAt pl 0 with
  | none => (s, refuse .badArg)
  | some flush =>
    match s.checker.ready with
    | some c =>
      let x := s.releaseVerdict c
      (x.1.afterEvent s, done x.2.values)
    | none =>
      match s.checker.openForming with
      | none => (s, refuse .nothingReady)
      | some c =>
        if flush then
          let s1 := s.flushForming c
          match s1.checker.ready with
          | some c1 =>
            let x := s1.releaseVerdict c1
            (x.1.afterEvent s, done x.2.values)
          | none => (s1, refuse .nothingReady)
        else (s, refuse .nothingReady)

/-! ### Resynchronisation and purge -/

/-- Whether a collation record is empty or holds an orphan (R49, step 1). -/
def emptyOrOrphan (c : Option Collation) : Bool := c.elim true fun c => c.owner == .orphan

/-- The LOADED records before a place in load order (R49). -/
def State.loadedBefore (s : State) (n : Nat) : List PieceId :=
  ((s.run.pieces.take n).filter fun r => r.state == .loaded).map Piece.id

/-- The effects of a taken RESYNC naming record `id` (R49). -/
def State.resyncTo (id : PieceId) (s : State) : State :=
  let n := s.position id
  let ids := s.loadedBefore n
  let s1 := s.onChecker fun k => { k with forming := none, ready := none }
  let s2 := s1.finishAll ids .skippedByResync .notFed
  let s3 := s2.onChecker fun k => { k with cursor := n, orphanRun := 0, intake := .inSync }
  s3.notify .plan (.resyncDone id.seq ids.length)

/-- RESYNC (R49). -/
def resyncBody (pl : List Byte) (s : State) : State × Reply :=
  if !(emptyOrOrphan s.checker.forming && emptyOrOrphan s.checker.ready) then (s, refuse .wrongState)
  else match s.newest (fieldAt pl 0 3) with
    | none => (s, refuse .notFound)
    | some r =>
      if r.state == .loaded then
        ((s.resyncTo r.id).afterEvent s, done [wordV (s.loadedBefore (s.position r.id)).length])
      else (s, refuse .notFound)

/-- PURGE of one collation record: a piece gains PURGED and finishes, an orphan is dropped (R50). -/
def State.purgeCollation (c : Option Collation) (s : State) : State :=
  match c.map Collation.owner with
  | some (.piece id) => (s.addCause id .purged).finish id .diverted
  | some .orphan | none => s

/-- PURGE of both collation records, the ready record first; the release hold becomes NONE (R50). -/
def State.purgeCollations (s : State) : State :=
  ((s.purgeCollation s.checker.ready).purgeCollation s.checker.forming).onChecker fun k =>
    { k with forming := none, ready := none, releaseHold := .free }

/-- The number of piece collations, and of orphans, in the two records. -/
def Checker.countOwners (k : Checker) (orphans : Bool) : Nat :=
  ([k.ready, k.forming].filterMap id).countP fun c => (c.owner == .orphan) == orphans

end Sys2Proof.Machine
end

