-- ==== Sys2Proof/Machine/Track.lean ====
section
/-! DEFINITION. The station reports of the track port (chapter 5, with R67 to R70, R88 to R93 and R153 to R154):
FOLDED, PULL_RESULT, ENVELOPED, WEIGHED, AT_GATE, EXITED and PURGE. -/

namespace Sys2Proof.Machine

/-- The stage of an entry changes (R102). -/
def State.setStage (tag : Nat) (st : Stage) (s : State) : State :=
  s.onEntry tag fun e => { e with stage := st }

/-! ### FOLDED -/

/-- The fold report of a piece: the panels done are compared with the planned fold panels (R104). -/
def State.foldReport (e : TrackEntry) (panels : Nat) (s : State) : State × Reply :=
  let planned := (s.piece? e.piece).elim 0 fun r => r.planned.panels
  let s1 := s.setStage e.tag .folded
  ((if planned == panels then s1 else s1.addCause e.piece .foldMismatch),
    done [byteV planned, byteV panels, flagV (planned != panels)])

/-- FOLDED (R103, R104). -/
def foldedBody (pl : List Byte) (s : State) : State × Reply :=
  let tag := byteAt pl 0
  let panels := byteAt pl 1
  if 63 < tag ∨ panels = 0 ∨ 4 < panels then (s, refuse .badArg)
  else match s.movable .folded tag with
    | none => s.refuseOrder .folded
    | some e => s.foldReport e panels

/-! ### PULL_RESULT -/

/-- The answer of a taken PULL_RESULT (R93); the causes added are a 24-bit set: DESIGN CHOICE,
notes/assumptions/30.md. -/
def State.pullAnswer (before after : State) (id : PieceId) (k : Nat) (res : PullResult)
    (action : PullAction) : List Value :=
  [byteV k, byteV res.code, byteV (after.feeder k).missRun, byteV (after.feeder k).state.code]
    ++ action.values ++ [faultsV (newCauses (before.piece? id) (after.piece? id))]

/-- PULL_RESULT (R88 to R93). -/
def pullResultBody (pl : List Byte) (s : State) : State × Reply :=
  let tag := byteAt pl 0
  let k := byteAt pl 1
  match pullResultOf (byteAt pl 2) with
  | none => (s, refuse .badArg)
  | some res =>
    if 63 < tag ∨ k = 0 ∨ 8 < k then (s, refuse .badArg)
    else match (s.entry? tag).filter fun e => e.stage == .folded with
      | none => (s.raise .outOfOrder, refuse .outOfOrder)
      | some e =>
        match (s.piece? e.piece).bind fun r => r.pendingPull k with
        | none => (s, refuse .notPlanned)
        | some pull =>
          let x := s.pullReport e.piece pull res
          (x.1, done (State.pullAnswer s x.1 e.piece k res x.2))

/-! ### ENVELOPED -/

/-- The close-out and recomputation of a record at ENVELOPED (R66, R96, R105). -/
def State.envelopePiece (s : State) (r : Piece) : Piece := s.recompute r.closeOut

/-- The answer of ENVELOPED: the dispatcher's part, then the calculator's (R66, R96, R105); the causes added are a
24-bit set, and the feeders closed out stand in pull-list order: DESIGN CHOICE, notes/assumptions/30.md and 33.md. -/
def State.envelopeAnswer (s : State) (r : Piece) : List Value :=
  let r1 := r.passPending
  let r2 := s.envelopePiece r
  byteListV r.pendingFeeders ++ byteListV r1.missingCodes ++ byteListV r1.newlySkipped
    ++ [triV (r2.expected.elim 0 Prod.fst), wordV (r2.expected.elim 0 Prod.snd),
        byteV (r2.band.getD 0), faultsV (newCauses (some r.closeOut) (some r2))]

/-- The effects of a taken ENVELOPED: the stage, the close-out, the recomputation (R105). -/
def State.envelopeReport (e : TrackEntry) (s : State) : State × Reply :=
  let s1 := s.setStage e.tag .enveloped
  match s.piece? e.piece with
  | none => (s1, done)
  | some r => (s1.onPiece e.piece s.envelopePiece, done (s.envelopeAnswer r))

/-- ENVELOPED (R103, R105). -/
def envelopedBody (pl : List Byte) (s : State) : State × Reply :=
  if 63 < byteAt pl 0 then (s, refuse .badArg)
  else match s.movable .enveloped (byteAt pl 0) with
    | none => s.refuseOrder .enveloped
    | some e => s.envelopeReport e

/-! ### WEIGHED -/

/-- The weigh results (R67). -/
inductive WeighResult where
  | agreed | mismatch | unweighed | expectedUsed
deriving DecidableEq, Repr

def WeighResult.code : WeighResult → Nat
  | .agreed => 0
  | .mismatch => 1
  | .unweighed => 2
  | .expectedUsed => 3

/-- A reading above 1,048,575 mg is judged as OVERRANGE (R67). -/
def ScaleReport.judged : ScaleReport → ScaleReport
  | .mass m => if massSaturation < m then .overrange else .mass m
  | .overrange => .overrange
  | .noWeight => .noWeight

/-- The judgement of a scale report against a record: the record after it, and the weigh result (R68 to R70). -/
def State.weighPiece (s : State) (report : ScaleReport) (r : Piece) : Piece × WeighResult :=
  let l := s.profile.limits
  let x := r.expected.elim 0 Prod.fst
  match report.judged with
  | .mass m =>
    let agrees := massDifference m x ≤ weighTolerance l x
    let r1 := { r with measured := some m }
    let r2 := if agrees then r1 else r1.addCause .weightMismatch
    let r3 := if l.massCeiling < m then r2.addCause .overMass else r2
    ({ r3 with band := some (bandOf s.profile.bands m) }, if agrees then .agreed else .mismatch)
  | .overrange => (r.addCause .weightMismatch, .mismatch)
  | .noWeight =>
    if l.weighRequired then (r.addCause .unweighed, .unweighed) else (r, .expectedUsed)

/-- The answer of WEIGHED (R67); the causes added are a 24-bit set: DESIGN CHOICE,
notes/assumptions/30.md. -/
def State.weighAnswer (s : State) (report : ScaleReport) (r : Piece) : List Value :=
  let x := s.weighPiece report r
  [.code .weighResult x.2.code,
   .code .tolerance (weighTolerance s.profile.limits (r.expected.elim 0 Prod.fst)),
   triV x.1.finalMass, byteV (x.1.band.getD 0), faultsV (newCauses (some r) (some x.1))]

/-- The effects of a taken WEIGHED: the stage, then the judgement (R106). -/
def State.weighReport (e : TrackEntry) (report : ScaleReport) (s : State) : State × Reply :=
  let s1 := s.setStage e.tag .weighed
  match s.piece? e.piece with
  | none => (s1, done)
  | some r => (s1.onPiece e.piece fun r => (s.weighPiece report r).1, done (s.weighAnswer report r))

/-- WEIGHED (R103, R106). -/
def weighedBody (pl : List Byte) (s : State) : State × Reply :=
  match scaleReportOf pl with
  | none => (s, refuse .badArg)
  | some report =>
    if 63 < byteAt pl 0 then (s, refuse .badArg)
    else if !s.profile.limits.scaleInLine then (s, refuse .wrongState)
    else match s.movable .weighed (byteAt pl 0) with
      | none => s.refuseOrder .weighed
      | some e => s.weighReport e report

/-! ### AT_GATE -/

/-- What AT_GATE answers: a decision, STALL or WAIT (R107, R108). -/
inductive GateVerdict where
  | decided (d : GateDecision)
  | stall
  | wait
deriving DecidableEq, Repr

def GateVerdict.values : GateVerdict → List Value
  | .decided d => [byteV d.code]
  | .stall => [.code .gateVerdict 0]
  | .wait => [.code .gateVerdict 1]

/-- Whether every entry older than one is GATED (R107). -/
def State.olderGated (s : State) (tag : Nat) : Bool :=
  (s.track.entries.takeWhile fun e => e.tag != tag).all fun e => e.stage == .gated

/-- The decision for an entry that has just reached AT_GATE, every older one being GATED (R107), and the hand-on
that follows it (R109). -/
def State.decideAtGate (tag : Nat) (s : State) : State × GateVerdict :=
  match s.entry? tag with
  | none => (s, .wait)
  | some e =>
    let x := s.decideEntry e
    match x.2 with
    | .decided d => ((x.1.setGated tag d).handOn (x.1.younger tag), .decided d)
    | .stall g => (x.1.recordStall tag g, .stall)

/-- AT_GATE naming the entry that reaches the gate now (R107). -/
def State.reachGate (tag : Nat) (s : State) : State × GateVerdict :=
  if s.olderGated tag then (s.setStage tag .atGate).decideAtGate tag
  else (s.setStage tag .atGate, .wait)

/-- AT_GATE naming an entry already at AT_GATE: a stalled one is re-evaluated, a decision-pending one waits
(R108). -/
def State.repeatGate (e : TrackEntry) (s : State) : State × GateVerdict :=
  if e.stalled then
    let x := s.reevaluate false
    (x.1, x.2.elim .stall .decided)
  else (s, .wait)

/-- AT_GATE (R103, R107, R108). -/
def atGateBody (pl : List Byte) (s : State) : State × Reply :=
  let tag := byteAt pl 0
  if 63 < tag then (s, refuse .badArg)
  else match (s.entry? tag).filter fun e => e.stage == .atGate with
    | some e =>
      let x := s.repeatGate e
      (x.1.afterEvent s, done x.2.values)
    | none =>
      match s.movable .atGate tag with
      | none => s.refuseOrder .atGate
      | some _ =>
        let x := s.reachGate tag
        (x.1.afterEvent s, done x.2.values)

/-! ### EXITED -/

/-- Whether a reported outcome agrees with the gate decision: BIN(b) after the same BIN(b), and DIVERTED after
either (R110, step 3). -/
def exitAgrees (reported decided : GateDecision) : Bool :=
  reported == .divert || reported == decided

/-- The exit of the queue head applied to its tray and its record (R111, step 1). -/
def State.applyExit (e : TrackEntry) (d reported : GateDecision) (s : State) : State :=
  match s.piece? e.piece, reported with
  | some r, .bin b => s.exitIntoBin e.tag b r
  | some _, .divert => s.exitDiverted e.tag e.piece d
  | none, _ => s

/-- The effects of a taken EXITED, in the order of R111. -/
def State.exitReport (e : TrackEntry) (d reported : GateDecision) (s : State) : State :=
  (((s.applyExit e d reported).removeEntry e.tag).testTrackHold).drainTest

/-- The answer of EXITED: the disposition, and the tray id of a binned piece (R111). -/
def State.exitAnswer (s : State) (id : PieceId) : List Value :=
  match s.piece? id with
  | some r =>
    byteV (r.disposition.elim 0 Disposition.code) ::
      if r.disposition == some .binned then [wordV (r.tray.elim 0 Prod.fst)] else []
  | none => []

/-- EXITED (R110, R111). -/
def exitedBody (pl : List Byte) (s : State) : State × Reply :=
  match exitOutcomeOf pl with
  | none => (s, refuse .badArg)
  | some reported =>
    if 63 < byteAt pl 0 then (s, refuse .badArg)
    else
      let out := (s.raise .outOfOrder, refuse .outOfOrder (expectedEntryV s.track.entries.head?))
      match s.track.entries.head? with
      | none => out
      | some e =>
        match e.decision with
        | none => out
        | some d =>
          if e.tag != byteAt pl 0 || e.stage != .gated then out
          else if exitAgrees reported d then
            let s1 := s.exitReport e d reported
            (s1.afterEvent s, done (s1.exitAnswer e.piece))
          else (s, refuse .badArg)

/-! ### PURGE -/

/-- The stall ends without a decision (R114). -/
def State.endStall (s : State) : State :=
  (s.onTrack fun q => { q with entries := q.entries.map fun e => { e with stalled := false } }).onBins
    fun m => { m with stall := none }

/-- PURGE of one track entry, in the order of R114. -/
def State.purgeEntry (e : TrackEntry) (s : State) : State :=
  let s1 := s.addCause e.piece .purged
  let s2 := match e.decision with
    | some (.bin b) => s1.releaseReservation e.tag b
    | some .divert | none => s1
  (s2.finish e.piece .diverted).removeEntry e.tag

def State.purgeEntries (es : List TrackEntry) (s : State) : State :=
  es.foldl (fun s e => s.purgeEntry e) s

/-- The effects of a taken PURGE (R114 to R116). -/
def State.purgeAll (s : State) : State :=
  (s.endStall.purgeEntries s.track.entries).purgeCollations.drainTest.notifyBoth
    (.purgeDone s.track.entries.length (s.checker.countOwners false) (s.checker.countOwners true))

/-- PURGE (R113 to R116). -/
def purgeBody (_ : List Byte) (s : State) : State × Reply :=
  if s.run.lineState == .stopped then
    (s.purgeAll.afterEvent s,
      done [byteV s.track.entries.length, byteV (s.checker.countOwners false),
        byteV (s.checker.countOwners true)])
  else (s, refuse .wrongState)

end Sys2Proof.Machine
end

