-- ==== Sys2Proof/Machine/RunControl.lean ====
section
/-! DEFINITION. Runs, loading, amending, cancelling and outcomes (chapter 1). -/

namespace Sys2Proof.Machine

/-! ### LINE_STATE, OPEN_RUN, CLOSE_RUN -/

/-- LINE_STATE (R1). -/
def lineStateBody (pl : List Byte) (s : State) : State × Reply :=
  match lineStateOf (byteAt pl 0) with
  | none => (s, refuse .badArg)
  | some x => (s.onRun fun t => { t with lineState := x }, done)

/-- The effects of a taken OPEN_RUN (R2). -/
def State.openRunWith (n : Nat) (s : State) : State :=
  (((s.onRun fun t => { t with runState := .opened, runNumber := n }).onCensus fun _ => []).onBins
    fun m => { m with trayCounter := 1 }).notifyBoth (.runState .opened)

/-- OPEN_RUN (R2). -/
def openRunBody (pl : List Byte) (s : State) : State × Reply :=
  if s.run.runState != .closed then (s, refuse .wrongState)
  else if fieldAt pl 0 2 = 0 then (s, refuse .badArg)
  else (s.openRunWith (fieldAt pl 0 2), done)

/-- The records in state LOADED, in load order. -/
def State.loadedIds (s : State) : List PieceId :=
  (s.run.pieces.filter fun r => r.state == .loaded).map Piece.id

/-- The effects of a taken CLOSE_RUN: every LOADED record finishes NOT_FED, and the run becomes CLOSED or
DRAINING (R3). -/
def State.closeRun (s : State) : State :=
  let s1 := s.finishAll s.loadedIds .runClosed .notFed
  if s1.lineEmpty then s1.closeNow else s1.onRun fun t => { t with runState := .draining }

/-- CLOSE_RUN (R3). -/
def closeRunBody (_ : List Byte) (s : State) : State × Reply :=
  if s.run.runState == .opened then
    let s1 := s.closeRun
    (s1.afterEvent s, done [byteV s1.run.runState.code, .code .count s.loadedIds.length])
  else (s, refuse .wrongState)

/-! ### LOAD_PIECES -/

/-- The capacity of the piece table (R5). -/
def tableCapacity : Nat := 4096

/-- The range check of a record (R11). -/
def PieceSpec.inRange (f : Profile) (x : PieceSpec) : Bool :=
  x.id.seq != 0 && x.id.reprint ≤ 3 && x.sheets != 0 && x.sheets ≤ 24
    && x.stock ≤ 3 && (nth f.stocks x.stock).configured
    && x.insertCount ≤ 8 && x.inserts.all (fun i => i.code != 0)
    && decide ((x.inserts.map InsertEntry.code).Nodup)
    && x.key.all (· ≤ 9)

/-- The duplicate rule: no earlier record of the batch carries the number, and every record of the table that
carries it is FINISHED with a lower reprint count (R12). -/
def State.duplicateFree (s : State) (earlier : List Nat) (id : PieceId) : Bool :=
  !earlier.contains id.seq
    && s.run.pieces.all fun r => r.id.seq != id.seq || (r.state == .finished && r.id.reprint < id.reprint)

/-- The checks that LOAD_PIECES and AMEND_PIECE share, between which the duplicate rule stands: ranges and the
accumulator limit; known codes and the planned make-up (R10, R15). -/
def State.checkRanges (s : State) (x : PieceSpec) : Option LoadCause :=
  if !x.inRange s.profile then some .badArg
  else if s.profile.limits.accumulatorLimit < x.sheets then some .tooManySheets
  else none

def State.checkMakeUp (s : State) (x : PieceSpec) : Except LoadCause MakeUp :=
  if x.inserts.any fun i => !feederNumbers.any fun k => s.profile.carries k i.code then
    .error .unknownInsert
  else s.plan x.sheets x.stock x.inserts

/-- The six checks of record `i` of a batch (R10). -/
def State.judgeRecord (s : State) (earlier : List Nat) (i : Nat) (x : PieceSpec) :
    Except LoadCause MakeUp :=
  match s.checkRanges x with
  | some c => .error c
  | none =>
    if !s.duplicateFree earlier x.id then .error .duplicate
    else match s.checkMakeUp x with
      | .error c => .error c
      | .ok m => if tableCapacity < s.run.pieces.length + i then .error .full else .ok m

/-- The records of a batch judged in order, from record `i` on: the planned make-ups, or the index and cause of
the first failing record (R10). -/
def State.judgeBatch (s : State) : List Nat → Nat → List PieceSpec →
    Except (Nat × LoadCause) (List (PieceSpec × MakeUp))
  | _, _, [] => .ok []
  | earlier, i, x :: xs =>
    match s.judgeRecord earlier i x with
    | .error c => .error (i, c)
    | .ok m =>
      match s.judgeBatch (x.id.seq :: earlier) (i + 1) xs with
      | .error e => .error e
      | .ok ms => .ok ((x, m) :: ms)

/-- A piece record at load (R6). Its census reference is set when it is classified. -/
def PieceSpec.record (x : PieceSpec) (run : Nat) (m : MakeUp) : Piece where
  id := x.id
  run := run
  sheets := x.sheets
  stock := x.stock
  inserts := x.inserts
  key := x.key
  state := .loaded
  cancelPending := false
  faults := []
  planned := m
  expected := none
  measured := none
  band := none
  pulls := []
  skipped := []
  tag := none
  census := .uncounted
  tray := none
  disposition := none

/-- Appending a record to the end of the table and classifying it (R14). -/
def State.appendPiece (x : PieceSpec × MakeUp) (s : State) : State :=
  let r := x.1.record s.run.runNumber x.2
  (s.onRun fun t => { t with pieces := t.pieces ++ [r] }).classify r

/-- Appending the records of a batch in batch order (R14). -/
def State.appendAll (xs : List (PieceSpec × MakeUp)) (s : State) : State :=
  xs.foldl (fun s x => s.appendPiece x) s

/-- LOAD_PIECES (R9, R10, R14). -/
def loadPiecesBody (pl : List Byte) (s : State) : State × Reply :=
  match batchOf pl with
  | none => (s, refuse .badArg)
  | some xs =>
    if s.run.runState != .opened then (s, refuse .wrongState)
    else match s.judgeBatch [] 1 xs with
      | .error e => (s, refuse .loadRefused [byteV e.1, byteV e.2.code])
      | .ok ms => ((s.appendAll ms).afterEvent s, done [byteV ms.length])

/-! ### AMEND_PIECE -/

/-- The record as it would stand amended, for the checks (R15). -/
def Amendment.spec (a : Amendment) (r : Piece) : PieceSpec where
  id := r.id
  sheets := r.sheets
  stock := r.stock
  key := a.key.getD r.key
  insertCount := (a.inserts.map Prod.fst).getD r.inserts.length
  inserts := (a.inserts.map Prod.snd).getD r.inserts

/-- The checks of R10 re-run on an amended record, without the duplicate rule and the room check (R15). -/
def State.judgeAmended (s : State) (x : PieceSpec) : Except LoadCause MakeUp :=
  match s.checkRanges x with
  | some c => .error c
  | none => s.checkMakeUp x

/-- An amended record (R15). -/
def Amendment.apply (a : Amendment) (m : MakeUp) (r : Piece) : Piece :=
  { r with inserts := (a.spec r).inserts, key := (a.spec r).key, planned := m }

/-- The effects of a taken AMEND_PIECE (R15, R125). DESIGN CHOICE, notes/assumptions/17.md. -/
def State.amend (a : Amendment) (m : MakeUp) (r : Piece) (s : State) : State :=
  let s1 := s.onPiece r.id (a.apply m)
  if (a.spec r).key == r.key then s1 else s1.reclassify r (a.apply m r)

/-- AMEND_PIECE (R15, R16). The refusals are tried in the order in which R15 lists them: with neither part present the
answer is BAD_ARG, and ACCESS_FAULT is not set, whether or not the number names a locked record. DESIGN CHOICE,
notes/assumptions/31.md. -/
def amendPieceBody (pl : List Byte) (s : State) : State × Reply :=
  let a := amendmentOf pl
  if a.inserts.isNone && a.key.isNone then (s, refuse .badArg)
  else match s.newest a.seq with
    | none => (s, refuse .notFound)
    | some r =>
      if r.state != .loaded then (s.raise .accessFault, refuse .locked)
      else match s.judgeAmended (a.spec r) with
        | .error c => (s, refuse .loadRefused [byteV 1, byteV c.code])
        | .ok m => ((s.amend a m r).afterEvent s, done)

/-! ### CANCEL_PIECE -/

/-- The verdicts of CANCEL_PIECE (R17). -/
def cancelledV : List Value := [.code .cancelVerdict 0]
def pendingV : List Value := [.code .cancelVerdict 1]

/-- Setting cancel-pending: it lifts a release hold on the piece, and re-evaluates the stalled entry of the
piece, at once (R18). -/
def State.setCancelPending (id : PieceId) (s : State) : State :=
  let s1 := s.onPiece id fun r => { r with cancelPending := true }
  let held := s1.checker.releaseHold != .free && s1.checker.ready.elim false fun c => c.owner == .piece id
  let s2 := if held then s1.clearHold else s1
  if s2.track.entries.any fun e => e.piece == id && e.stage == .atGate && e.stalled then
    (s2.reevaluate true).1
  else s2

/-- Whether the piece's entry is GATED (R17). -/
def State.isGated (s : State) (id : PieceId) : Bool :=
  s.track.entries.any fun e => e.piece == id && e.stage == .gated

/-- CANCEL_PIECE (R17). DEDUCED, notes/assumptions/13.md. -/
def cancelPieceBody (pl : List Byte) (s : State) : State × Reply :=
  match s.newest (fieldAt pl 0 3) with
  | none => (s, refuse .notFound)
  | some r =>
    match r.state with
    | .finished => (s, refuse .wrongState)
    | .loaded => ((s.finish r.id .cancelled).afterEvent s, done cancelledV)
    | .collating | .onTrack =>
      if r.cancelPending then (s, done pendingV)
      else if s.isGated r.id then (s, refuse .tooLate)
      else ((s.setCancelPending r.id).afterEvent s, done pendingV)

/-! ### Outcomes -/

/-- READ_OUTCOMES: the oldest outcome records, up to 8 (R21, R206). -/
def State.outcomeRecords (s : State) (n : Nat) : List Piece :=
  (s.run.outcomes.take n).filterMap fun id => s.piece? id

def outcomesAnswer (s : State) : List Value :=
  byteV (s.outcomeRecords 8).length :: (s.outcomeRecords 8).flatMap Piece.values

/-- Removing the `n` oldest outcome records; the cursor stays between the same two remaining records (R5, R22). -/
def State.ackOutcomes (n : Nat) (s : State) : State :=
  let gone := s.run.outcomes.take n
  let keep := fun r : Piece => !gone.contains r.id
  (s.onRun fun t => { t with pieces := t.pieces.filter keep, outcomes := t.outcomes.drop n }).onChecker
    fun k => { k with cursor := ((s.run.pieces.take k.cursor).filter keep).length }

/-- ACK_OUTCOMES (R22). -/
def ackOutcomesBody (pl : List Byte) (s : State) : State × Reply :=
  let n := fieldAt pl 0 2
  if n = 0 ∨ s.run.outcomes.length < n then (s, refuse .badArg)
  else (s.ackOutcomes n, done [.code .count (s.run.outcomes.length - n)])

/-- READ_PIECE (R23, R206). -/
def readPieceBody (pl : List Byte) (s : State) : State × Reply :=
  match s.newest (fieldAt pl 0 3) with
  | none => (s, refuse .notFound)
  | some r => (s, done r.values)

end Sys2Proof.Machine
end

