-- ==== Sys2Proof/Machine/SortControl.lean ====
section
/-! DEFINITION. The requests of the Presort Unit and the Bin Manager: SET_SORT, SET_KEY_RULE, READ_CENSUS
(chapter 6), READ_TRAYS, ACK_TRAYS and READ_BINS (chapter 7). -/

namespace Sys2Proof.Machine

/-- Whether the new tray limits are below what a tray the Bin Manager holds already has (R119, step 3). -/
def State.traysExceed (s : State) (l : SortSettings) : Bool :=
  s.heldTrays.any fun t =>
    l.trayPieceLimit < t.count + t.reserved || l.trayMassLimit < t.mass + t.reservedMass

/-- SET_SORT (R119). -/
def setSortBody (pl : List Byte) (s : State) : State × Reply :=
  let l := sortSettingsOf pl
  if s.run.runState != .closed && l != s.profile.sort then (s, refuse .wrongState)
  else if !l.inRange then (s, refuse .badArg)
  else if s.traysExceed l then (s, refuse .inUse)
  else (s.onActive fun f => { f with sort := l }, done l.values)

/-- Whether another enabled slot names the bin (R122, step 3). -/
def Profile.binTaken (f : Profile) (k b : Nat) : Bool :=
  slotNumbers.any fun j => j != k && (f.keyRule j).enabled && (f.keyRule j).bin == b

/-- The profile with slot `k` replaced. -/
def Profile.withKeyRule (f : Profile) (k : Nat) (x : KeyRule) : Profile :=
  { f with keyRules := setNth f.keyRules (k - 1) x }

/-- The refusals of SET_KEY_RULE after its ranges (R122, steps 3 to 5). -/
def State.keyRuleRefusal (s : State) (k : Nat) (x : KeyRule) : Option Result :=
  if !x.enabled then none
  else if s.profile.binTaken k x.bin then some .binTaken
  else if binNumbers.all fun b => ((s.profile.withKeyRule k x).dedicatedSlot b).isSome then some .noPool
  else if (s.bin x.bin).tray.elim false fun t => t.group != .rule k then some .inUse
  else none

/-- SET_KEY_RULE (R122). -/
def setKeyRuleBody (pl : List Byte) (s : State) : State × Reply :=
  if s.run.runState != .closed then (s, refuse .wrongState)
  else match keyRuleOf pl with
    | none => (s, refuse .badArg)
    | some (k, x) =>
      match s.keyRuleRefusal k x with
      | some r => (s, refuse r)
      | none =>
        let s1 := s.onActive fun f => f.withKeyRule k x
        (s1, done (x.values ++ binNumbers.map fun b => byteV ((s1.profile.dedicatedSlot b).getD 0)))

/-- The census entries that follow a starting point in key order (R135). -/
def State.censusAfter (s : State) (start : Option (List Nat)) : List CensusEntry :=
  match start with
  | none => s.census
  | some d => s.census.filter fun e => digitsBefore d e.digits

/-- The level codes of R207. -/
def FineLevel.code : FineLevel → Nat
  | .undecided => 0
  | .fine => 1
  | .coarse => 2

def AreaLevel.code : AreaLevel → Nat
  | .area => 3
  | .mixed => 4

/-- A census entry in 8 bytes (R207). -/
def State.censusEntryV (s : State) (e : CensusEntry) : List Value :=
  match e.kind with
  | .fine n l => [byteV 0, byteV l.code] ++ digitsV e.digits ++ [wordV n]
  | .area l => [byteV 1, byteV l.code] ++ digitsV e.digits ++ [wordV (s.eligible e.digits)]

/-- READ_CENSUS (R135). -/
def readCensusBody (pl : List Byte) (s : State) : State × Reply :=
  match censusStartOf s.profile.sort pl with
  | none => (s, refuse .badArg)
  | some start =>
    let es := s.censusAfter start
    (s, done (((es.take 16).flatMap s.censusEntryV) ++
      [.code .count s.census.length, byteV s.profile.sort.fineLength, byteV s.profile.sort.areaLength,
       flagV (16 < es.length)]))

/-- READ_TRAYS (R158, R209). -/
def traysAnswer (s : State) : List Value :=
  let ts := s.bins.closedTrays.take 4
  [byteV ts.length, byteV s.bins.closedTrays.length, byteV s.bins.delivery.length] ++ ts.flatMap Tray.values

/-- The effects of a taken ACK_TRAYS: the records are removed, waiting trays delivered, and a stalled entry
re-evaluated once (R159). -/
def State.ackTrays (n : Nat) (s : State) : State :=
  let s1 := s.onBins fun m => { m with closedTrays := m.closedTrays.drop n }
  ((s1.deliverWaiting s1.bins.delivery.length).reevaluate true).1

/-- ACK_TRAYS (R159). -/
def ackTraysBody (pl : List Byte) (s : State) : State × Reply :=
  let n := byteAt pl 0
  if n = 0 ∨ 64 < n ∨ s.bins.closedTrays.length < n then (s, refuse .badArg)
  else
    let s1 := s.ackTrays n
    (s1, done [byteV s1.bins.closedTrays.length, byteV s1.bins.delivery.length])

/-- One bin of READ_BINS, 51 bytes (R209). -/
def State.binV (s : State) (b : Nat) : List Value :=
  [byteV (s.bin b).state.code, byteV ((s.profile.dedicatedSlot b).getD 0)] ++
    match (s.bin b).tray with
    | some t => byteV 1 :: t.values
    | none => [byteV 0, .num 48 0]

/-- READ_BINS (R160, R209). -/
def binsAnswer (s : State) : List Value :=
  binNumbers.flatMap s.binV ++ [byteV s.bins.reservations.length]
    ++ (s.bins.reservations.flatMap fun r => [byteV r.tag, wordV r.trayId, quadV r.mass])
    ++ stallV s.bins.stall
    ++ [wordV s.bins.trayCounter, byteV s.bins.closedTrays.length, byteV s.bins.delivery.length]

end Sys2Proof.Machine
end

