-- ==== Sys2Proof/Machine/HeadLine.lean ====
section
/-! DEFINITION. The Head Line Controller (chapter 8): transactions, polling, the dispatch to the owner blocks, the
access slots, the line arbiter, and the requests HEAD_ACCESS, READ_SLOT, READ_HEADS and SET_HEAD_MAP. -/

namespace Sys2Proof.Machine

/-! ### The head line -/

/-- The bytes of a head-line request, its check last (R208). Bits 4 to 6 of the first byte, which R208 does not name, are
sent as 0: DESIGN CHOICE, notes/assumptions/20.md. -/
def Access.bytes (a : Access) : List Byte :=
  let body := [BitVec.ofNat 8 (a.address + if a.write.isSome then 128 else 0), BitVec.ofNat 8 a.index]
    ++ match a.write with
      | some w => toBytes 2 w.toNat
      | none => []
  body ++ [crc8 body]

/-- The outcome of a reply, and the data word of a read replied to: CHECK_ERROR unless the length suits the
request and the refusal bit, the check passes, and address and index are echoed (R166, R208). DESIGN CHOICE,
notes/assumptions/20.md. -/
def Access.judgeReply (a : Access) (bs : List Byte) : LineOutcome × Option Half :=
  let refused := (byteAt bs 0).testBit 6
  let length := if !refused && a.write.isNone then 5 else 3
  if bs.length != length || crc8 bs != 0 || byteAt bs 0 % 16 != a.address || byteAt bs 1 != a.index then
    (.checkError, none)
  else if refused then (.nak, none)
  else (.reply, if a.write.isNone then some (BitVec.ofNat 16 (fieldAt bs 2 2)) else none)

/-- The entry of head address `a`. -/
def State.head (s : State) (a : Nat) : HeadEntry := nth s.heads.table a

def State.onHead (a : Nat) (f : HeadEntry → HeadEntry) (s : State) : State :=
  s.onHeads fun h => { h with table := setNth h.table a (f (nth h.table a)) }

/-- The lowest mapped address above `a`, continuing from 0 after 15, so that `a` itself comes last; 0 when no
address is mapped (R164, R168). -/
def Profile.nextMapped (f : Profile) (a : Nat) : Nat :=
  ((headAddresses.map fun i => (a + 1 + i) % 16).find? f.mapped).getD 0

/-! ### The arbiter (R178) -/

/-- A transaction begins: its request is sent at once (R166). -/
def HeadLine.begin (t : Transaction) (h : HeadLine) : HeadLine :=
  { h with line := some t, sent := t.access.bytes }

/-- The access a slot waits with. -/
def Slot.waiting? : Slot → Option Access
  | .waiting a => some a
  | .idle | .active _ | .complete _ _ _ => none

/-- The slot granted the line: WAITING becomes ACTIVE, and the grant is remembered (R174, R178). -/
def HeadLine.grant (p : Port) (a : Access) (h : HeadLine) : HeadLine :=
  { h with slots := h.slots.modify p fun _ => .active a, lastGranted := p }.begin ⟨.slot p, a, false⟩

/-- The next poll: the identity read that is due, or the status poll at the poll position (R168, R178). DEDUCED,
notes/assumptions/21.md. -/
def HeadLine.poll (h : HeadLine) : HeadLine :=
  match h.identityDue with
  | some a =>
    { h with identityDue := none, lastPoll := some a }.begin ⟨.identityRead, ⟨a, 1, none⟩, false⟩
  | none =>
    { h with lastPoll := some h.pollPosition }.begin ⟨.statusPoll, ⟨h.pollPosition, 0, none⟩, false⟩

/-- Polling is possible while the poll enable is yes and an address is mapped (R168). -/
def Profile.pollPossible (f : Profile) : Bool := f.pollEnable && headAddresses.any f.mapped

/-- The arbiter's decision on an idle line; a line that carries a transaction is left alone (R178). -/
def HeadLine.arbitrate (f : Profile) (h : HeadLine) : HeadLine :=
  if h.line.isSome then h
  else match h.slots.track.waiting?, h.slots.plan.waiting? with
    | some a, none => h.grant .track a
    | none, some a => h.grant .plan a
    | some a, some b =>
      match h.lastGranted with
      | .track => h.grant .plan b
      | .plan => h.grant .track a
    | none, none => if f.pollPossible then h.poll else h

def State.arbitrate (s : State) : State := s.onHeads (HeadLine.arbitrate s.profile)

/-! ### Dispatch (R173) -/

/-- What is dispatched: a change of an entry's state, or of the status word of a PRESENT entry. -/
inductive HeadChange where
  | state
  | status
deriving DecidableEq, Repr

/-- HEAD_STATE of an address: the status word when PRESENT, the last identity when MISMATCH (R173, step 1). -/
def State.headNotice (s : State) (a : Nat) : Notice :=
  let e := s.head a
  .headState a (nth s.profile.headMap a) e.state
    (match e.state with
      | .present => e.lastStatus
      | .mismatch => e.lastIdentity
      | .absent | .silent => none)

/-- The status word a report to an owner carries: that of a PRESENT head (R173, step 2). -/
def State.reportedWord (s : State) (a : Nat) : Option Half :=
  if (s.head a).state == .present then (s.head a).lastStatus else none

/-- The report to the Bin Manager (R140 to R142). -/
def State.sorterReport (change : HeadChange) (w : Option Half) (s : State) : State :=
  match w, change with
  | some w, .state => s.sorterReturned w
  | some w, .status => s.applySorterStatus w
  | none, _ => s.sorterLost

/-- The report to the owner of an address, if it has one (R76, R140, R173 step 2). -/
def State.tellOwner (change : HeadChange) (a : Nat) (s : State) : State :=
  match nth s.profile.headMap a with
  | .feeder k => if s.profile.feederHead k == some a then s.feederReport k (s.reportedWord a) else s
  | .sorter => if s.profile.sorterHead == some a then s.sorterReport change (s.reportedWord a) else s
  | .none | .reader | .folder | .scale | .gate => s

/-- The dispatch of a change at an address (R173). DEDUCED, notes/assumptions/25.md. -/
def State.dispatch (change : HeadChange) (a : Nat) (s : State) : State :=
  (s.notifyBoth (s.headNotice a)).tellOwner change a

/-! ### Polls (R168 to R172) -/

/-- The poll position moves on from `a`, and an identity read of `a` has ended or is not due (R168). -/
def State.movePoll (a : Nat) (s : State) : State :=
  s.onHeads fun h => { h with pollPosition := s.profile.nextMapped a }

/-- An identity read of `a` is due, with the poll position kept at `a`; while the poll enable is no it is dropped,
with the pending status (R168, R169; notes/assumptions/15.md). -/
def State.identityDue (a : Nat) (s : State) : State :=
  if s.profile.pollEnable then s.onHeads fun h => { h with identityDue := some a, pollPosition := a }
  else (s.onHead a fun e => { e with pendingStatus := none }).onHeads fun h => { h with pollPosition := a }

/-- The entry of an address becomes SILENT (R172). -/
def State.silence (a : Nat) (s : State) : State :=
  ((s.onHead a fun e =>
    { e with state := .silent, failedRun := 0, lastStatus := none, pendingStatus := none }).raise
      .headSilent).dispatch .state a

/-- A status poll of a PRESENT or MISMATCH entry that ended without REPLY: the failed-poll run rises, and at 3 the
entry becomes SILENT (R169, R171, R172). -/
def State.pollFailed (a : Nat) (s : State) : State :=
  let s1 := s.onHead a fun e => { e with failedRun := e.failedRun + 1 }
  if (s1.head a).failedRun == 3 then s1.silence a else s1

/-- A status poll of a PRESENT entry replied to with `w` (R171). -/
def State.statusRead (a : Nat) (w : Half) (s : State) : State :=
  let s1 := s.onHead a fun e => { e with failedRun := 0 }
  if (s.head a).lastStatus == some w then s1
  else (s1.onHead a fun e => { e with lastStatus := some w }).dispatch .status a

/-- The end of a status poll of `a` that is not stale; `w` is the status word of a REPLY (R168, R169, R171). -/
def State.statusPollEnd (a : Nat) (w : Option Half) (s : State) : State :=
  match (s.head a).state, w with
  | .present, some w => (s.statusRead a w).movePoll a
  | .present, none => (s.pollFailed a).movePoll a
  | .mismatch, some w =>
    (s.onHead a fun e => { e with pendingStatus := some w, failedRun := 0 }).identityDue a
  | .mismatch, none => (s.pollFailed a).movePoll a
  | .absent, some w | .silent, some w =>
    (s.onHead a fun e => { e with pendingStatus := some w }).identityDue a
  | .absent, none | .silent, none => s.movePoll a

/-- The kind field of an identity word, and its station field (R208). -/
def identityKind (w : Half) : Nat := w.toNat / 4096
def identityStation (w : Half) : Nat := w.toNat / 256 % 16

/-- Whether an identity word matches an expected kind (R170, R208). -/
def HeadKind.matchesIdentity (k : HeadKind) (w : Half) : Bool :=
  match k with
  | .none => false
  | .feeder n => identityKind w == 1 && identityStation w == n
  | .reader => identityKind w == 2
  | .folder => identityKind w == 3
  | .scale => identityKind w == 4
  | .gate => identityKind w == 5
  | .sorter => identityKind w == 6

/-- An identity read of `a` replied to with `w` (R170). -/
def State.identify (a : Nat) (w : Half) (s : State) : State :=
  let s1 := s.onHead a fun e => { e with lastIdentity := some w }
  if (nth s.profile.headMap a).matchesIdentity w then
    (s1.onHead a fun e =>
      { e with state := .present, failedRun := 0, lastStatus := e.pendingStatus, pendingStatus := none }).dispatch
        .state a
  else if (s.head a).state == .mismatch then s1.onHead a fun e => { e with pendingStatus := none }
  else (s1.onHead a fun e =>
    { e with state := .mismatch, failedRun := 0, pendingStatus := none }).dispatch .state a

/-- The end of an identity read of `a` that is not stale; without REPLY the pending status becomes absent and
nothing else changes (R169, R170). -/
def State.identityReadEnd (a : Nat) (w : Option Half) (s : State) : State :=
  (match w with
    | some w => s.identify a w
    | none => s.onHead a fun e => { e with pendingStatus := none }).movePoll a

/-! ### The end of a transaction -/

/-- The end of a slot access: the slot becomes COMPLETE, and SLOT_DONE goes to its port (R176). -/
def State.slotEnd (p : Port) (a : Access) (o : LineOutcome) (data : Option Half) (s : State) : State :=
  (s.onHeads fun h => { h with slots := h.slots.modify p fun _ => .complete a o data }).notify p
    (.slotDone a o)

/-- The effects of the transaction on the line ending with an outcome; a stale poll has none (R164, R166). -/
def State.endOf (t : Transaction) (o : LineOutcome) (data : Option Half) (s : State) : State :=
  match t.owner with
  | .slot p => s.slotEnd p t.access o data
  | .statusPoll => if t.stale then s else s.statusPollEnd t.access.address data
  | .identityRead => if t.stale then s else s.identityReadEnd t.access.address data

/-- The transaction on the line ends: its outcome is applied, a stalled entry is re-evaluated when that freed a
bin, and the arbiter decides what begins next (R166, R178). -/
def State.endTransaction (t : Transaction) (o : LineOutcome) (data : Option Half) (s : State) : State :=
  (((s.onHeads fun h => { h with line := none }).endOf t o data).afterEvent s).arbitrate.settle

/-- HEAD_REPLY: a reply judged against the transaction on the line; with the line idle it belongs to no
transaction and is ignored (R166). A reply that is late for its own expired window and starts while the next
transaction is on the line is judged against that next transaction: R166 ignores it as belonging to no transaction, and
judges any reply within the open window by its outcome rows. DESIGN CHOICE, notes/assumptions/26.md. -/
def State.headReply (bytes : List Byte) (s : State) : State :=
  match s.heads.line with
  | none => s
  | some t => s.endTransaction t (t.access.judgeReply bytes).1 (t.access.judgeReply bytes).2

/-- REPLY_WINDOW_EXPIRY: the transaction on the line ends NO_REPLY (R166). DESIGN CHOICE,
notes/assumptions/26.md. -/
def State.windowExpiry (s : State) : State :=
  match s.heads.line with
  | none => s
  | some t => s.endTransaction t .noReply none

/-! ### Requests -/

/-- A slot is busy while WAITING or ACTIVE (R174). -/
def Slot.busy : Slot → Bool
  | .waiting _ | .active _ => true
  | .idle | .complete _ _ _ => false

/-- HEAD_ACCESS on a port (R175). -/
def headAccessBody (p : Port) (pl : List Byte) (s : State) : State × Reply :=
  match accessOf pl with
  | none => (s, refuse .badArg)
  | some a =>
    if (s.heads.slots.get p).busy then (s, refuse .busy)
    else ((s.onHeads fun h => { h with slots := h.slots.modify p fun _ => .waiting a }).arbitrate, done)

def Slot.code : Slot → Nat
  | .idle => 0
  | .waiting _ => 1
  | .active _ => 2
  | .complete _ _ _ => 3

/-- The nine bytes of a slot that is not IDLE (R209). -/
def slotV (code : Nat) (a : Access) (o : Nat) (data : Option Half) : List Value :=
  [byteV code, byteV a.address, byteV a.index, flagV a.write.isSome, halfV a.write, byteV o, halfV data]

/-- READ_SLOT (R177, R209). The outcome byte, and the data word behind it, of a slot that is WAITING or ACTIVE are sent
as 0. DESIGN CHOICE, notes/assumptions/32.md. -/
def Slot.values : Slot → List Value
  | .idle => [byteV 0]
  | .waiting a => slotV 1 a 0 none
  | .active a => slotV 2 a 0 none
  | .complete a o data => slotV 3 a o.code data

def slotAnswer (p : Port) (s : State) : List Value := (s.heads.slots.get p).values

/-- A head entry in 8 bytes (R209). -/
def State.headEntryV (s : State) (a : Nat) : List Value :=
  let e := s.head a
  [byteV (nth s.profile.headMap a).code, byteV e.state.code, byteV e.failedRun,
   byteV (yesNo e.lastStatus.isSome + 2 * yesNo e.lastIdentity.isSome), halfV e.lastStatus,
   halfV e.lastIdentity]

def portCode : Port → Nat
  | .track => 0
  | .plan => 1

/-- READ_HEADS (R179, R209). -/
def headsAnswer (s : State) : List Value :=
  headAddresses.flatMap s.headEntryV ++
    [flagV s.profile.pollEnable, byteV s.heads.pollPosition, addressV s.heads.identityDue,
     byteV s.heads.slots.track.code, byteV s.heads.slots.plan.code, byteV (portCode s.heads.lastGranted)]

/-! ### SET_HEAD_MAP -/

/-- The addresses whose expected kind a new map changes, in address order (R164). -/
def Profile.changedHeads (f : Profile) (m : Vector HeadKind 16) : List Nat :=
  headAddresses.filter fun a => nth f.headMap a != nth m a

/-- The entry of an address whose kind has changed is set as at power-on reset, with HEAD_STATE when it was not
ABSENT (R164, step 2). -/
def State.resetHead (a : Nat) (s : State) : State :=
  let s1 := s.onHead a fun _ => HeadEntry.powerOn
  if (s.head a).state == .absent then s1 else s1.notifyBoth (s1.headNotice a)

def State.resetHeads (changed : List Nat) (s : State) : State :=
  changed.foldl (fun s a => s.resetHead a) s

/-- Whether a transaction is a poll of one of some addresses. -/
def Transaction.pollsOneOf (t : Transaction) (changed : List Nat) : Bool :=
  match t.owner with
  | .slot _ => false
  | .statusPoll | .identityRead => changed.contains t.access.address

/-- A poll on the line for a changed address is marked stale, and an identity read due there is dropped (R164,
step 3). -/
def HeadLine.markStale (changed : List Nat) (h : HeadLine) : HeadLine :=
  { h with
    line := h.line.map fun t => if t.pollsOneOf changed then { t with stale := true } else t
    identityDue := h.identityDue.filter fun a => !changed.contains a }

/-- The poll position after a change of some kind (R164, step 4). -/
def HeadLine.reposition (f : Profile) (h : HeadLine) : HeadLine :=
  { h with pollPosition := match h.identityDue, h.lastPoll with
      | some a, _ => a
      | none, some a => f.nextMapped a
      | none, none => f.lowestMapped }

/-- With the poll enable at no, an identity read that is due is dropped (R168). -/
def State.dropDue (s : State) : State :=
  if s.profile.pollEnable then s
  else match s.heads.identityDue with
    | some a =>
      (s.onHead a fun e => { e with pendingStatus := none }).onHeads fun h => { h with identityDue := none }
    | none => s

/-- The Bin Manager is told of the new map: when the sorter head has moved, the leaving of the old head, and the
return of the new one when it is PRESENT (R142, R164 step 5). DEDUCED, notes/assumptions/22.md. -/
def State.sorterMoved (old : Option Nat) (s : State) : State :=
  if s.profile.sorterHead == old then s
  else match s.sorterStatus with
    | some w => s.sorterLost.sorterReturned w
    | none => s.sorterLost

/-- The effects of a taken SET_HEAD_MAP, in the order of R164. -/
def State.withHeadMap (m : Vector HeadKind 16) (enable : Bool) (s : State) : State :=
  let changed := s.profile.changedHeads m
  let s1 := s.onActive fun f => { f with headMap := m, pollEnable := enable }
  let s2 := s1.resetHeads changed
  let s3 := s2.onHeads (HeadLine.markStale changed)
  let s4 := if changed.isEmpty then s3 else s3.onHeads (HeadLine.reposition s3.profile)
  (s4.dropDue.deriveAll.sorterMoved s.profile.sorterHead).arbitrate

/-- SET_HEAD_MAP (R164). -/
def setHeadMapBody (pl : List Byte) (s : State) : State × Reply :=
  match headMapOf pl with
  | none => (s, refuse .badArg)
  | some (m, enable) =>
    if s.run.runState != .closed && !(s.profile.changedHeads m).isEmpty then (s, refuse .wrongState)
    else
      let s1 := (s.withHeadMap m enable).afterEvent s
      (s1, done ((feederNumbers.map fun k => addressV (s1.profile.feederHead k)) ++
        [addressV s1.profile.sorterHead]))

end Sys2Proof.Machine
end

