-- ==== Sys2Proof/Machine/SettingsControl.lean ====
section
/-! DEFINITION. The settings of the Make-up Calculator and the feeders (SET_STOCK, SET_ENVELOPE, SET_LIMITS,
SET_BANDS, chapter 3; SET_FEEDER, READ_FEEDERS, chapter 4), and the saving of profiles (section 9.8). -/

namespace Sys2Proof.Machine

/-! ### Chapter 3 -/

/-- The fold plan of a stock record under the present envelope record and fold limit (R55, R56, R60). -/
def Profile.foldPlanOf (f : Profile) (id : Nat) : Option Nat :=
  foldPlan (nth f.stocks id) f.envelope f.limits.foldLimit

/-- The effects of a taken SET_STOCK: the record, and its sheet mass recomputed (R54, R55). -/
def State.withStock (id : Nat) (k : Stock) (s : State) : State :=
  (s.onActive fun f => { f with stocks := setNth f.stocks id k }).onSheetMass fun v =>
    setNth v id (stockSheetMass k)

/-- SET_STOCK (R55). -/
def setStockBody (pl : List Byte) (s : State) : State × Reply :=
  if s.run.runState != .closed then (s, refuse .wrongState)
  else match stockOf pl with
    | none => (s, refuse .badArg)
    | some (id, k) =>
      let s1 := s.withStock id k
      (s1, done [.code .sheetMass (stockSheetMass k), foldPlanV (s1.profile.foldPlanOf id)])

/-- The stock ids (R54). -/
def stockIds : List Nat := [0, 1, 2, 3]

/-- The fold plan of each configured stock record, with its id (R56). -/
def Profile.foldPlansV (f : Profile) : List Value :=
  (stockIds.filter fun id => (nth f.stocks id).configured).flatMap fun id =>
    [byteV id, foldPlanV (f.foldPlanOf id)]

/-- SET_ENVELOPE (R56). -/
def setEnvelopeBody (pl : List Byte) (s : State) : State × Reply :=
  if s.run.runState != .closed then (s, refuse .wrongState)
  else match envelopeOf pl with
    | none => (s, refuse .badArg)
    | some e =>
      if s.run.pieces.any fun r => e.throat < r.planned.thickness then (s, refuse .inUse)
      else
        let s1 := s.onActive fun f => { f with envelope := e }
        (s1, done s1.profile.foldPlansV)

/-- Whether a new limits record differs in a field that may change in CLOSED only (R57, step 3). -/
def Limits.differsClosed (l old : Limits) : Bool :=
  l.foldLimit != old.foldLimit || l.massCeiling != old.massCeiling || l.scaleInLine != old.scaleInLine
    || l.accumulatorLimit != old.accumulatorLimit

/-- Whether a mass ceiling is below the planned mass of a record, or the final mass of a BINNED one (R57, step 4). -/
def State.ceilingInUse (s : State) (ceiling : Nat) : Bool :=
  s.run.pieces.any fun r =>
    ceiling < r.planned.mass || (r.disposition == some .binned && ceiling < r.finalMass)

/-- The refusals of SET_LIMITS after its ranges (R57, steps 2 to 4). -/
def State.limitsRefusal (s : State) (l : Limits) : Option Result :=
  if s.profile.bands.getLast?.getD 0 < l.massCeiling then some .badArg
  else if s.run.runState != .closed && l.differsClosed s.profile.limits then some .wrongState
  else if s.ceilingInUse l.massCeiling then some .inUse
  else none

/-- The effects of a taken SET_LIMITS: the record, and the test of an outstanding FEEDER hold when the feeder policy
has changed (R57, R58). -/
def State.withLimits (l : Limits) (s : State) : State :=
  let s1 := s.onActive fun f => { f with limits := l }
  if l.feederPolicy == s.profile.limits.feederPolicy then s1 else s1.testFeederHold

/-- SET_LIMITS (R57). -/
def setLimitsBody (pl : List Byte) (s : State) : State × Reply :=
  match limitsOf pl with
  | none => (s, refuse .badArg)
  | some l =>
    match s.limitsRefusal l with
    | some r => (s, refuse r)
    | none => (s.withLimits l, done)

/-- SET_BANDS (R59). -/
def setBandsBody (pl : List Byte) (s : State) : State × Reply :=
  if s.run.runState != .closed then (s, refuse .wrongState)
  else match bandsOf pl with
    | none => (s, refuse .badArg)
    | some bands =>
      if bands.getLast?.getD 0 < s.profile.limits.massCeiling then (s, refuse .badArg)
      else (s.onActive fun f => { f with bands := bands }, done)

/-! ### Feeders -/

/-- Whether another feeder carries the new code at another mass or caliper (R77, step 3). -/
def Profile.feederClash (f : Profile) (k : Nat) (x : FeederSetting) : Bool :=
  feederNumbers.any fun j => j != k && f.carries j x.code
    && ((f.feeder j).mass != x.mass || (f.feeder j).caliper != x.caliper)

/-- Whether some record has a pull entry naming a feeder (R77, step 4). -/
def State.feederPulled (s : State) (k : Nat) : Bool :=
  s.run.pieces.any fun r => r.pulls.any fun e => e.feeder == k

/-- The refusals of SET_FEEDER after its ranges (R77, steps 2 to 4). -/
def State.feederRefusal (s : State) (k : Nat) (x : FeederSetting) : Option Result :=
  let old := s.profile.feeder k
  if s.run.runState != .closed
      && (x.code != old.code || x.mass != old.mass || x.caliper != old.caliper) then some .wrongState
  else if s.profile.feederClash k x then some .mismatch
  else if x.code != old.code && s.feederPulled k then some .inUse
  else none

/-- The effects of a taken SET_FEEDER (R78). -/
def State.withFeeder (k : Nat) (x : FeederSetting) (s : State) : State :=
  (s.onActive fun f => { f with feeders := setNth f.feeders (k - 1) x }).derive k

/-- SET_FEEDER (R77, R78). -/
def setFeederBody (pl : List Byte) (s : State) : State × Reply :=
  match feederSettingOf pl with
  | none => (s, refuse .badArg)
  | some (k, x) =>
    match s.feederRefusal k x with
    | some r => (s, refuse r)
    | none => (s.withFeeder k x, done [byteV ((s.withFeeder k x).feeder k).state.code])

/-- A feeder record in 14 bytes (R209). -/
def State.feederV (s : State) (k : Nat) : List Value :=
  let x := s.profile.feeder k
  let f := s.feeder k
  [byteV x.code, triV x.mass, wordV x.caliper, flagV x.enabled, addressV (s.profile.feederHead k),
   byteV f.state.code, byteV f.missRun, triV f.takenCount, byteV f.lastRefill]

/-- READ_FEEDERS (R79, R209). -/
def feedersAnswer (s : State) : List Value := feederNumbers.flatMap s.feederV

/-! ### Saving -/

/-- The stored profile is valid when its marker is present and its check byte agrees with its contents (R197). -/
def Stored.valid (t : Stored) : Bool :=
  t.marker && crc8 (Config.profileImage t.contents) == t.check

/-- A taken SAVE_SETTINGS: the snapshot is made and the marker erased (R198, steps 1 and 2). -/
def Settings.beginSave (t : Settings) : Settings :=
  { t with save := some t.active, stored := { t.stored with marker := false } }

/-- SAVE_SETTINGS (R198). -/
def saveSettingsBody (_ : List Byte) (s : State) : State × Reply :=
  if s.settings.save.isSome then (s, refuse .busy)
  else (s.onSettings Settings.beginSave, done)

/-- The stored profile after a save that ends OK (R198, steps 3 and 4). -/
def Stored.written (f : Profile) : Stored := ⟨true, f, crc8 (Config.profileImage f)⟩

/-- The stored profile after a save that failed or was abandoned: no marker, and contents that the manual does
not give (R198). DEDUCED, notes/assumptions/23.md. -/
def Stored.torn (n : Nat) : Stored := ⟨false, Config.tornContents n, Config.tornCheck n⟩

/-- SAVE_END: the save in progress ends OK or FAILED, with SAVE_DONE to the plan port (R198). -/
def State.endSave (r : SaveResult) (s : State) : State :=
  match s.settings.save with
  | none => s
  | some f =>
    (match r with
      | .ok => s.onSettings fun t => { t with save := none, stored := Stored.written f }
      | .failed =>
        ((s.onSettings fun t => { t with save := none, stored := Stored.torn s.free }).onFree (· + 1)).raise
          .saveFailed).notify .plan (.saveDone r)

end Sys2Proof.Machine
end

