-- ==== Sys2Proof/Machine/Ports.lean ====
section
/-! DEFINITION. The port logic (chapter 9): transfers, broken frames and unknown kinds, STATUS and its reports,
notices, flags, attention masks and default reports. -/

namespace Sys2Proof.Machine

/-! ### Transfers -/

/-- The port status byte (R182, R202). -/
def State.statusByte (s : State) (p : Port) : Byte :=
  BitVec.ofNat 8 ((intakeCapacity - (s.port p).intake.length) + 8 * (s.port p).responses.length
    + 64 * yesNo (s.attention p) + 128 * yesNo s.settings.starting)

/-- The bytes shifted out in a transfer: the port status byte, then `bytes`. -/
def State.shiftOut (p : Port) (bytes : List Byte) (s : State) : State :=
  let status := s.statusByte p
  s.onPort p fun q => { q with shifted := status :: bytes }

/-- The acknowledgements of a SEND (R183, R202). -/
inductive Acknowledgement where
  | taken | notTaken | starting
deriving DecidableEq, Repr

def Acknowledgement.code : Acknowledgement → Byte
  | .taken => 0x01
  | .notTaken => 0x02
  | .starting => 0x03

/-- How a SEND that begins now is acknowledged (R183, R199). -/
def State.acknowledge (s : State) (p : Port) : Acknowledgement :=
  if s.settings.starting then .starting
  else if (s.port p).intake.length < intakeCapacity then .taken
  else .notTaken

/-- The acknowledgement, then zeros: one byte out for each byte clocked in after the transfer code (R202). -/
def Acknowledgement.shifted (a : Acknowledgement) : List Byte → List Byte
  | [] => []
  | _ :: rest => a.code :: rest.map fun _ => 0

/-- A frame joins the end of the intake, and a broken one sets the port's flag at once (R183, R184). -/
def State.joinIntake (p : Port) (f : List Byte) (s : State) : State :=
  let s1 := s.onPort p fun q => { q with intake := q.intake ++ [f] }
  if frameBroken f then s1.raise (frameErrorFlag p) else s1

/-- A SEND transfer with the bytes after its transfer code; one that carries no frame byte gives up its place
(R183). DESIGN CHOICE, notes/assumptions/4.md and 9.md. -/
def State.sendTransfer (p : Port) (bytes : List Byte) (s : State) : State :=
  let a := s.acknowledge p
  let s1 := s.shiftOut p (a.shifted bytes)
  (if a == .taken && !bytes.isEmpty then s1.joinIntake p bytes else s1).settle

/-- What a FETCH shifts out behind a response frame, whose bytes the manual does not give: free values. DESIGN
CHOICE, notes/assumptions/9.md. -/
def State.fetchRest (s : State) (n : Nat) : List Byte :=
  (List.range n).map fun i => Config.fetchTail (s.free + i)

/-- A FETCH transfer with `n` bytes clocked after its transfer code: the oldest response leaves the queue when
its last byte has been shifted out (R187); with none waiting, or while the part is starting, zeros (R187, R199).
DESIGN CHOICE, notes/assumptions/4.md and 9.md. -/
def State.fetchTransfer (p : Port) (n : Nat) (s : State) : State :=
  match s.settings.starting, (s.port p).responses with
  | false, r :: rest =>
    let f := r.frame
    if f.length ≤ n then
      ((s.shiftOut p (f ++ s.fetchRest (n - f.length))).onPort p fun q => { q with responses := rest }).onFree
        (· + (n - f.length))
    else s.shiftOut p (f.take n)
  | _, _ => s.shiftOut p (List.replicate n 0)

/-- A status transfer: the port status byte and then zeros (R182). -/
def State.statusTransfer (p : Port) (n : Nat) (s : State) : State := s.shiftOut p (List.replicate n 0)

/-! ### Frames that are no request -/

/-- The oldest frame is broken and its turn comes: BAD_FRAME, with nothing else done (R184). DEDUCED,
notes/assumptions/10.md. -/
def State.answerBroken (p : Port) (s : State) : State :=
  match s.dueFrame p with
  | none => s
  | some f => if frameBroken f then (s.dropFrame p).answerFrame p f (refuse .badFrame) else s

/-- The oldest frame carries a kind code used by no request: NOT_PERMITTED, with nothing done (R186, step 1). -/
def State.answerUnknown (p : Port) (s : State) : State :=
  match s.dueFrame p with
  | none => s
  | some f =>
    if !frameBroken f && (RequestKind.ofCode (frameKind f)).isNone then
      (s.dropFrame p).answerFrame p f (refuse .notPermitted)
    else s

/-! ### STATUS -/

/-- The RUN report (R188). -/
def State.runReport (s : State) : List Value :=
  [byteV s.run.runState.code, wordV s.run.runNumber, byteV s.run.lineState.code,
   .code .count s.run.pieces.length, .code .count s.run.outcomes.length,
   .code .count (s.countPieces .loaded), .code .count (s.countPieces .collating),
   .code .count (s.countPieces .onTrack),
   flagV s.holdOutput, flagV s.stallCondition, flagV s.syncCondition, flagV s.releaseCondition,
   flagV s.settings.save.isSome, flagV s.settings.stored.valid]

/-- A collation record in the TRACK report: whether it is empty, open, waiting or ready, then what it holds (R51). Its
collation faults are sent as the 24-bit fault set of R206, not as cause numbers. DESIGN CHOICE,
notes/assumptions/30.md. -/
def collationV (status : Nat) : Option Collation → List Value
  | none => [.code .recordStatus 0]
  | some c =>
    .code .recordStatus status :: ownerV (some c.owner) ++
      [.code .sheetsJoined c.joined, byteV c.highest, faultsV c.faults]

/-- The Collation Checker in the TRACK report (R51). -/
def State.checkerReport (s : State) : List Value :=
  let k := s.checker
  collationV (if k.waiting then 2 else 1) k.forming ++ collationV 3 k.ready
    ++ ownerV (s.expectedPiece.map fun r => .piece r.id)
    ++ [.code .orphanRun k.orphanRun, byteV s.profile.limits.orphanLimit,
        .code .intakeState (if k.intake == .syncLost then 1 else 0),
        .code .releaseHold k.releaseHold.rank]

/-- Whether a piece carries cancel-pending or a non-empty fault set (R112). -/
def State.marked (s : State) (id : PieceId) : Bool :=
  (s.piece? id).elim false fun r => r.cancelPending || !r.faults.isEmpty

/-- A track entry in the TRACK report (R112); an absent gate decision is sent as zeros (R202). -/
def State.trackEntryV (s : State) (e : TrackEntry) : List Value :=
  [byteV e.tag, triV e.piece.seq, byteV e.piece.reprint, stageV e.stage, flagV e.stalled,
   byteV (e.decision.elim 0 GateDecision.code), flagV (s.marked e.piece)]

/-- The TRACK report (R51, R112, R188). -/
def State.trackReport (s : State) : List Value :=
  s.checkerReport ++ [.code .count s.track.entries.length, .code .allocator s.track.allocator]
    ++ s.track.entries.flatMap s.trackEntryV

/-- The FLAGS report of a port (R188). -/
def State.flagsReport (s : State) (p : Port) : List Value :=
  [flagSetV s.flags, flagSetV (s.profile.attentionMask.get p), flagV (s.attention p),
   byteV (s.port p).notices.length, byteV (s.profile.defaultReport.get p).code]

/-- The BINS report (R160, R188). -/
def State.binsReport (s : State) : List Value :=
  (binNumbers.flatMap fun b =>
    [byteV (s.bin b).state.code, wordV ((s.bin b).tray.elim 0 Tray.id),
     wordV ((s.bin b).tray.elim 0 Tray.count), wordV ((s.bin b).tray.elim 0 Tray.reserved)])
  ++ stallV s.bins.stall ++ [byteV s.bins.closedTrays.length, byteV s.bins.delivery.length]

def State.report (s : State) (p : Port) : Report → List Value
  | .run => s.runReport
  | .track => s.trackReport
  | .flags => s.flagsReport p
  | .bins => s.binsReport

/-- The report a STATUS payload names: the port's default report when the payload is empty (R188). -/
def State.reportAsked (s : State) (p : Port) (pl : List Byte) : Option Report :=
  if pl.isEmpty then some (s.profile.defaultReport.get p) else reportOf (byteAt pl 0)

/-- STATUS (R188). -/
def statusBody (p : Port) (pl : List Byte) (s : State) : State × Reply :=
  match s.reportAsked p pl with
  | none => (s, refuse .badArg)
  | some r => (s, done (s.report p r))

/-! ### Notices, flags, masks and reports -/

/-- READ_NOTICES: the oldest notices of the port, up to 8, are removed and returned (R193, R204). -/
def readNoticesBody (p : Port) (_ : List Byte) (s : State) : State × Reply :=
  let ns := (s.port p).notices
  (s.onPort p fun q => { q with notices := q.notices.drop 8 },
   done ([byteV (ns.take 8).length, byteV (ns.drop 8).length] ++ (ns.take 8).flatMap Notice.values))

/-- CLEAR_FLAGS (R191). -/
def clearFlagsBody (pl : List Byte) (s : State) : State × Reply :=
  match flagSetOf pl with
  | none => (s, refuse .badArg)
  | some x => (s.onFlags (· &&& ~~~x), done [flagSetV (s.flags &&& ~~~x)])

/-- SET_ATTENTION_MASK (R194). -/
def setAttentionMaskBody (p : Port) (pl : List Byte) (s : State) : State × Reply :=
  match flagSetOf pl with
  | none => (s, refuse .badArg)
  | some x =>
    (s.onActive fun f => { f with attentionMask := f.attentionMask.modify p fun _ => x },
     done [flagSetV x])

/-- SET_DEFAULT_REPORT (R189). -/
def setDefaultReportBody (p : Port) (pl : List Byte) (s : State) : State × Reply :=
  match reportOf (byteAt pl 0) with
  | none => (s, refuse .badArg)
  | some r =>
    (s.onActive fun f => { f with defaultReport := f.defaultReport.modify p fun _ => r }, done)

end Sys2Proof.Machine
end

