-- ==== Sys2Proof/Machine/Resets.lean ====
section
/-! DEFINITION. The resets: RUN_RESET (R196, with the run-reset rules R25, R53, R98, R118, R137, R162), power-on
reset (R199) and the end of the power-on load (R199 to R201, with the power-on rules of each block). -/

namespace Sys2Proof.Machine

/-! ### Run reset -/

/-- The Run Table at a run reset (R25). -/
def State.resetRunTable (s : State) : State :=
  (if s.run.pieces.isEmpty then s else s.raise .outcomesDiscarded).onRun fun t =>
    { t with runState := .closed, pieces := [], outcomes := [] }

/-- Trays, delivery queue, closed-tray list, reservations and stall are dropped (R162, steps 1 and 2), and the tray
id counter becomes 1 (step 5). -/
def BinManager.dropTrays (m : BinManager) : BinManager :=
  { m with
    table := Vector.ofFn fun i => { m.table[i] with tray := none }
    delivery := []
    closedTrays := []
    reservations := []
    stall := none
    trayCounter := 1 }

/-- A FREE, OPEN or FULL_WAIT bin becomes CLEARING (R162, step 3). -/
def State.clearBin (b : Nat) (s : State) : State :=
  if (s.bin b).state == .free || (s.bin b).state == .opened || (s.bin b).state == .fullWait then
    s.setBinState b .clearing
  else s

/-- The release test of a CLEARING bin (R162, step 4). -/
def State.testCleared (b : Nat) (s : State) : State :=
  if (s.bin b).state == .clearing then s.releaseTest b else s

/-- Steps 3 and 4 of R162 over all bins. Each goes through bins 1 to 6 in number order: R162 and R196 give the BIN_STATE
notices of one step no order among the bins. DEDUCED, notes/assumptions/22.md. -/
def State.clearBins (s : State) : State := binNumbers.foldl (fun s b => s.clearBin b) s

def State.testAllCleared (s : State) : State := binNumbers.foldl (fun s b => s.testCleared b) s

/-- The Bin Manager at a run reset (R162). -/
def State.resetBins (s : State) : State := (s.onBins BinManager.dropTrays).clearBins.testAllCleared

/-- The Insert Dispatcher at a run reset (R98). The order among its FEEDER_STATE notices is DEDUCED,
notes/assumptions/22.md. -/
def State.resetFeeders (s : State) : State :=
  (s.onFeeders fun v => Vector.ofFn fun i => { v[i] with missRun := 0, takenCount := 0 }).deriveAll

/-- The effects of a taken RUN_RESET; the notices of the bins stand first, then those of the feeders, then
RUN_STATE(CLOSED) (R196). -/
def State.runReset (s : State) : State :=
  (((((s.resetRunTable.onChecker fun _ => Checker.powerOn).onTrack fun _ => TrackQueue.powerOn).onCensus
    fun _ => []).resetBins).resetFeeders).notifyBoth (.runState .closed)

/-- RUN_RESET (R196). -/
def runResetBody (_ : List Byte) (s : State) : State × Reply :=
  if s.run.lineState == .stopped then (s.runReset, done [.code .count s.run.pieces.length])
  else (s, refuse .wrongState)

/-! ### Power-on reset -/

/-- The stored profile at power-on: a save in progress is abandoned, and leaves no marker (R198). -/
def Settings.afterPowerOn (n : Nat) (t : Settings) : Settings :=
  { t with
    stored := if t.save.isSome then Stored.torn n else t.stored
    save := none
    starting := true }

/-- Every block at its power-on values, from the active profile `f`; the head line is idle and the arbiter has not
yet decided (R24, R52, R73, R97, R117, R136, R161, R180, R201). -/
def State.powerOnValues (f : Profile) (flags : FlagSet) (s : State) : State :=
  { s with
    run := RunTable.powerOn
    checker := Checker.powerOn
    sheetMass := sheetMasses f
    feeders := powerOnFeeders f
    track := TrackQueue.powerOn
    census := []
    bins := BinManager.powerOn
    heads := HeadLine.powerOn f
    ports := ⟨PortState.powerOn, PortState.powerOn⟩
    flags := flags }

/-- POWER_ON_RESET: the part is starting, with every queue, access, transaction and save gone. The power-on values
of the blocks are taken at once, from the profile still active, and again when the load ends (R199;
notes/assumptions/18.md). -/
def State.powerOnReset (s : State) : State :=
  ((s.powerOnValues s.profile 0).onSettings (Settings.afterPowerOn s.free)).onFree
    (fun n => if s.settings.save.isSome then n + 1 else n) |>.settle

/-- The flag the load sets when it finds the stored profile invalid (R199, R201). -/
def loadFlags (t : Stored) : FlagSet := if t.valid then 0 else StickyFlag.profileDefaulted.bit

/-- The profile the load makes active (R199). -/
def loadedProfile (t : Stored) : Profile := if t.valid then t.contents else factoryProfile

/-- POWER_ON_LOAD_END: the profile loaded becomes active, each block takes its power-on values from it, and the
arbiter begins the first status poll (R180, R199 to R201). A part that is not starting has no load to end. -/
def State.loadEnd (s : State) : State :=
  if s.settings.starting then
    let f := loadedProfile s.settings.stored
    (((s.powerOnValues f (loadFlags s.settings.stored)).onSettings fun t =>
      { t with active := f, starting := false }).arbitrate).settle
  else s

end Sys2Proof.Machine
end

