-- ==== Sys2Proof/Machine/BothPorts.lean ====
section
/-! DEFINITION. The meanings of the requests permitted on both ports: each is one request of R186, over the body that
makes its changes. -/

namespace Sys2Proof.Machine

/-- STATUS (R188): the oldest frame of the port's intake executed as this request (R186). -/
def execStatus (p : Port) (s : State) : Host.Outcome State Fault Refusal :=
  .next (serve .status p (statusBody p) s)

/-- READ_NOTICES (R193): the oldest frame of the port's intake executed as this request (R186). -/
def execReadNotices (p : Port) (s : State) : Host.Outcome State Fault Refusal :=
  .next (serve .readNotices p (readNoticesBody p) s)

/-- CLEAR_FLAGS (R191): the oldest frame of the port's intake executed as this request (R186). -/
def execClearFlags (p : Port) (s : State) : Host.Outcome State Fault Refusal :=
  .next (serve .clearFlags p clearFlagsBody s)

/-- SET_ATTENTION_MASK (R194): the oldest frame of the port's intake executed as this request (R186). -/
def execSetAttentionMask (p : Port) (s : State) : Host.Outcome State Fault Refusal :=
  .next (serve .setAttentionMask p (setAttentionMaskBody p) s)

/-- SET_DEFAULT_REPORT (R189): the oldest frame of the port's intake executed as this request (R186). -/
def execSetDefaultReport (p : Port) (s : State) : Host.Outcome State Fault Refusal :=
  .next (serve .setDefaultReport p (setDefaultReportBody p) s)

/-- HEAD_ACCESS (R175): the oldest frame of the port's intake executed as this request (R186). -/
def execHeadAccess (p : Port) (s : State) : Host.Outcome State Fault Refusal :=
  .next (serve .headAccess p (headAccessBody p) s)

/-- READ_SLOT (R177): the oldest frame of the port's intake executed as this request (R186). -/
def execReadSlot (p : Port) (s : State) : Host.Outcome State Fault Refusal :=
  .next (serve .readSlot p (readBody (slotAnswer p)) s)

/-- READ_PIECE (R23): the oldest frame of the port's intake executed as this request (R186). -/
def execReadPiece (p : Port) (s : State) : Host.Outcome State Fault Refusal :=
  .next (serve .readPiece p readPieceBody s)

/-- READ_FEEDERS (R79): the oldest frame of the port's intake executed as this request (R186). -/
def execReadFeeders (p : Port) (s : State) : Host.Outcome State Fault Refusal :=
  .next (serve .readFeeders p (readBody feedersAnswer) s)

/-- READ_BINS (R160): the oldest frame of the port's intake executed as this request (R186). -/
def execReadBins (p : Port) (s : State) : Host.Outcome State Fault Refusal :=
  .next (serve .readBins p (readBody binsAnswer) s)

/-- READ_HEADS (R179): the oldest frame of the port's intake executed as this request (R186). -/
def execReadHeads (p : Port) (s : State) : Host.Outcome State Fault Refusal :=
  .next (serve .readHeads p (readBody headsAnswer) s)

/-- READ_CENSUS (R135): the oldest frame of the port's intake executed as this request (R186). -/
def execReadCensus (p : Port) (s : State) : Host.Outcome State Fault Refusal :=
  .next (serve .readCensus p readCensusBody s)

/-- RUN_RESET (R196): the oldest frame of the port's intake executed as this request (R186). -/
def execRunReset (p : Port) (s : State) : Host.Outcome State Fault Refusal :=
  .next (serve .runReset p runResetBody s)

end Sys2Proof.Machine
end

