-- ==== Sys2Proof/WellFormed.lean ====
section
/-! DEFINITION. Which commands are well formed. A status transfer's code is neither of the two transfer
codes that have a meaning of their own (R182, R202), and a reply on the head line holds at least one byte
(R166: the window ends at the START of a reply). Every other command is well formed whatever its operands:
R183 takes any bytes after a SEND code, and a FETCH may be ended after any number of bytes (R187). -/

namespace Sys2Proof

/-- The transfer code of SEND (R202). -/
def sendCode : Byte := 0x5A

/-- The transfer code of FETCH (R202). -/
def fetchCode : Byte := 0xA5

/-- The check of one command. -/
def Instr.wellFormed : Instr → Bool
  | .statusTransfer _ code _ => code != sendCode && code != fetchCode
  | .headReply bytes => !bytes.isEmpty
  | .send _ _ | .fetch _ _ | .badFrame _ | .unknownRequestKind _ | .status _ | .readNotices _
  | .clearFlags _ | .setAttentionMask _ | .setDefaultReport _ | .headAccess _ | .readSlot _
  | .readPiece _ | .readFeeders _ | .readBins _ | .readHeads _ | .readCensus _ | .runReset _
  | .lineState _ | .sheet _ | .release _ | .folded _ | .pullResult _ | .enveloped _ | .weighed _
  | .atGate _ | .exited _ | .purge _ | .resync _ | .openRun _ | .closeRun _ | .loadPieces _
  | .amendPiece _ | .cancelPiece _ | .readOutcomes _ | .ackOutcomes _ | .readTrays _ | .ackTrays _
  | .setStock _ | .setEnvelope _ | .setFeeder _ | .setBands _ | .setSort _ | .setKeyRule _
  | .setLimits _ | .setHeadMap _ | .saveSettings _ | .saveEnd _ | .powerOnReset | .powerOnLoadEnd
  | .replyWindowExpiry => true

end Sys2Proof
end

