-- ==== Sys2Proof/Machine/Events.lean ====
section
/-! DEFINITION. The meanings of the transfers, of the frames that are no request, and of the events that no
processor sends: the end of a save, the resets, and the end of a head-line transaction. -/

namespace Sys2Proof.Machine

/-- SEND (R183). -/
def execSend (p : Port) (bytes : List Byte) (s : State) : Host.Outcome State Fault Refusal :=
  .next (s.sendTransfer p bytes)

/-- FETCH (R187). -/
def execFetch (p : Port) (n : Nat) (s : State) : Host.Outcome State Fault Refusal :=
  .next (s.fetchTransfer p n)

/-- STATUS_TRANSFER (R182); `code` is taken in and read by nothing. A code that is SEND's or FETCH's makes the
transfer that kind, and a command that names one here is no status transfer: nothing happens. DESIGN CHOICE,
notes/assumptions/27.md. -/
def execStatusTransfer (p : Port) (code : Byte) (n : Nat) (s : State) : Host.Outcome State Fault Refusal :=
  if (Instr.statusTransfer p code n).wellFormed then .next (s.statusTransfer p n) else .next s

/-- BAD_FRAME (R184). -/
def execBadFrame (p : Port) (s : State) : Host.Outcome State Fault Refusal := .next (s.answerBroken p)

/-- UNKNOWN_REQUEST_KIND (R186). -/
def execUnknownRequestKind (p : Port) (s : State) : Host.Outcome State Fault Refusal :=
  .next (s.answerUnknown p)

/-- SAVE_END (R198). -/
def execSaveEnd (r : SaveResult) (s : State) : Host.Outcome State Fault Refusal := .next (s.endSave r).settle

/-- POWER_ON_RESET (R199). -/
def execPowerOnReset (s : State) : Host.Outcome State Fault Refusal := .next s.powerOnReset

/-- POWER_ON_LOAD_END (R201). -/
def execPowerOnLoadEnd (s : State) : Host.Outcome State Fault Refusal := .next s.loadEnd

/-- HEAD_REPLY (R166). An empty reply is none: the window ends at the START of a reply. DESIGN CHOICE,
notes/assumptions/27.md. -/
def execHeadReply (bytes : List Byte) (s : State) : Host.Outcome State Fault Refusal :=
  if (Instr.headReply bytes).wellFormed then .next (s.headReply bytes) else .next s

/-- REPLY_WINDOW_EXPIRY (R166). -/
def execReplyWindowExpiry (s : State) : Host.Outcome State Fault Refusal := .next s.windowExpiry

end Sys2Proof.Machine
end

