-- ==== Sys2Proof/Machine/PlanPort.lean ====
section
/-! DEFINITION. The meanings of the requests of the plan port: each is one request of R186, over the body that makes its
changes. -/

namespace Sys2Proof.Machine

/-- OPEN_RUN (R2): the oldest frame of the port's intake executed as this request (R186). -/
def execOpenRun (p : Port) (s : State) : Host.Outcome State Fault Refusal :=
  .next (serve .openRun p openRunBody s)

/-- CLOSE_RUN (R3): the oldest frame of the port's intake executed as this request (R186). -/
def execCloseRun (p : Port) (s : State) : Host.Outcome State Fault Refusal :=
  .next (serve .closeRun p closeRunBody s)

/-- LOAD_PIECES (R10): the oldest frame of the port's intake executed as this request (R186). -/
def execLoadPieces (p : Port) (s : State) : Host.Outcome State Fault Refusal :=
  .next (serve .loadPieces p loadPiecesBody s)

/-- AMEND_PIECE (R15): the oldest frame of the port's intake executed as this request (R186). -/
def execAmendPiece (p : Port) (s : State) : Host.Outcome State Fault Refusal :=
  .next (serve .amendPiece p amendPieceBody s)

/-- CANCEL_PIECE (R17): the oldest frame of the port's intake executed as this request (R186). -/
def execCancelPiece (p : Port) (s : State) : Host.Outcome State Fault Refusal :=
  .next (serve .cancelPiece p cancelPieceBody s)

/-- READ_OUTCOMES (R21): the oldest frame of the port's intake executed as this request (R186). -/
def execReadOutcomes (p : Port) (s : State) : Host.Outcome State Fault Refusal :=
  .next (serve .readOutcomes p (readBody outcomesAnswer) s)

/-- ACK_OUTCOMES (R22): the oldest frame of the port's intake executed as this request (R186). -/
def execAckOutcomes (p : Port) (s : State) : Host.Outcome State Fault Refusal :=
  .next (serve .ackOutcomes p ackOutcomesBody s)

/-- READ_TRAYS (R158): the oldest frame of the port's intake executed as this request (R186). -/
def execReadTrays (p : Port) (s : State) : Host.Outcome State Fault Refusal :=
  .next (serve .readTrays p (readBody traysAnswer) s)

/-- ACK_TRAYS (R159): the oldest frame of the port's intake executed as this request (R186). -/
def execAckTrays (p : Port) (s : State) : Host.Outcome State Fault Refusal :=
  .next (serve .ackTrays p ackTraysBody s)

/-- SET_STOCK (R55): the oldest frame of the port's intake executed as this request (R186). -/
def execSetStock (p : Port) (s : State) : Host.Outcome State Fault Refusal :=
  .next (serve .setStock p setStockBody s)

/-- SET_ENVELOPE (R56): the oldest frame of the port's intake executed as this request (R186). -/
def execSetEnvelope (p : Port) (s : State) : Host.Outcome State Fault Refusal :=
  .next (serve .setEnvelope p setEnvelopeBody s)

/-- SET_FEEDER (R77): the oldest frame of the port's intake executed as this request (R186). -/
def execSetFeeder (p : Port) (s : State) : Host.Outcome State Fault Refusal :=
  .next (serve .setFeeder p setFeederBody s)

/-- SET_BANDS (R59): the oldest frame of the port's intake executed as this request (R186). -/
def execSetBands (p : Port) (s : State) : Host.Outcome State Fault Refusal :=
  .next (serve .setBands p setBandsBody s)

/-- SET_SORT (R119): the oldest frame of the port's intake executed as this request (R186). -/
def execSetSort (p : Port) (s : State) : Host.Outcome State Fault Refusal :=
  .next (serve .setSort p setSortBody s)

/-- SET_KEY_RULE (R122): the oldest frame of the port's intake executed as this request (R186). -/
def execSetKeyRule (p : Port) (s : State) : Host.Outcome State Fault Refusal :=
  .next (serve .setKeyRule p setKeyRuleBody s)

/-- SET_LIMITS (R57): the oldest frame of the port's intake executed as this request (R186). -/
def execSetLimits (p : Port) (s : State) : Host.Outcome State Fault Refusal :=
  .next (serve .setLimits p setLimitsBody s)

/-- SET_HEAD_MAP (R164): the oldest frame of the port's intake executed as this request (R186). -/
def execSetHeadMap (p : Port) (s : State) : Host.Outcome State Fault Refusal :=
  .next (serve .setHeadMap p setHeadMapBody s)

/-- SAVE_SETTINGS (R198): the oldest frame of the port's intake executed as this request (R186). -/
def execSaveSettings (p : Port) (s : State) : Host.Outcome State Fault Refusal :=
  .next (serve .saveSettings p saveSettingsBody s)

end Sys2Proof.Machine
end

