-- ==== Sys2Proof/Machine/TrackPort.lean ====
section
/-! DEFINITION. The meanings of the requests of the track port: each is one request of R186, over the body that makes
its changes. -/

namespace Sys2Proof.Machine

/-- LINE_STATE (R1): the oldest frame of the port's intake executed as this request (R186). -/
def execLineState (p : Port) (s : State) : Host.Outcome State Fault Refusal :=
  .next (serve .lineState p lineStateBody s)

/-- SHEET (R30): the oldest frame of the port's intake executed as this request (R186). -/
def execSheet (p : Port) (s : State) : Host.Outcome State Fault Refusal :=
  .next (serve .sheet p sheetBody s)

/-- RELEASE (R43): the oldest frame of the port's intake executed as this request (R186). -/
def execRelease (p : Port) (s : State) : Host.Outcome State Fault Refusal :=
  .next (serve .release p releaseBody s)

/-- FOLDED (R104): the oldest frame of the port's intake executed as this request (R186). -/
def execFolded (p : Port) (s : State) : Host.Outcome State Fault Refusal :=
  .next (serve .folded p foldedBody s)

/-- PULL_RESULT (R88): the oldest frame of the port's intake executed as this request (R186). -/
def execPullResult (p : Port) (s : State) : Host.Outcome State Fault Refusal :=
  .next (serve .pullResult p pullResultBody s)

/-- ENVELOPED (R105): the oldest frame of the port's intake executed as this request (R186). -/
def execEnveloped (p : Port) (s : State) : Host.Outcome State Fault Refusal :=
  .next (serve .enveloped p envelopedBody s)

/-- WEIGHED (R106): the oldest frame of the port's intake executed as this request (R186). -/
def execWeighed (p : Port) (s : State) : Host.Outcome State Fault Refusal :=
  .next (serve .weighed p weighedBody s)

/-- AT_GATE (R107): the oldest frame of the port's intake executed as this request (R186). -/
def execAtGate (p : Port) (s : State) : Host.Outcome State Fault Refusal :=
  .next (serve .atGate p atGateBody s)

/-- EXITED (R111): the oldest frame of the port's intake executed as this request (R186). -/
def execExited (p : Port) (s : State) : Host.Outcome State Fault Refusal :=
  .next (serve .exited p exitedBody s)

/-- PURGE (R114): the oldest frame of the port's intake executed as this request (R186). -/
def execPurge (p : Port) (s : State) : Host.Outcome State Fault Refusal :=
  .next (serve .purge p purgeBody s)

/-- RESYNC (R49): the oldest frame of the port's intake executed as this request (R186). -/
def execResync (p : Port) (s : State) : Host.Outcome State Fault Refusal :=
  .next (serve .resync p resyncBody s)

end Sys2Proof.Machine
end

