-- ==== Sys2Proof/Machine/Dispatch.lean ====
section
/-! DEFINITION. The meaning of each command: one arm per row of spec/opcode_table.json. -/

namespace Sys2Proof.Machine

def exec (i : Instr) (s : State) : Host.Outcome State Fault Refusal :=
  match i with
  | .send p bytes => Sys2Proof.Machine.execSend p bytes s
  | .fetch p n => Sys2Proof.Machine.execFetch p n s
  | .statusTransfer p code n => Sys2Proof.Machine.execStatusTransfer p code n s
  | .badFrame p => Sys2Proof.Machine.execBadFrame p s
  | .unknownRequestKind p => Sys2Proof.Machine.execUnknownRequestKind p s
  | .status p => Sys2Proof.Machine.execStatus p s
  | .readNotices p => Sys2Proof.Machine.execReadNotices p s
  | .clearFlags p => Sys2Proof.Machine.execClearFlags p s
  | .setAttentionMask p => Sys2Proof.Machine.execSetAttentionMask p s
  | .setDefaultReport p => Sys2Proof.Machine.execSetDefaultReport p s
  | .headAccess p => Sys2Proof.Machine.execHeadAccess p s
  | .readSlot p => Sys2Proof.Machine.execReadSlot p s
  | .readPiece p => Sys2Proof.Machine.execReadPiece p s
  | .readFeeders p => Sys2Proof.Machine.execReadFeeders p s
  | .readBins p => Sys2Proof.Machine.execReadBins p s
  | .readHeads p => Sys2Proof.Machine.execReadHeads p s
  | .readCensus p => Sys2Proof.Machine.execReadCensus p s
  | .runReset p => Sys2Proof.Machine.execRunReset p s
  | .lineState p => Sys2Proof.Machine.execLineState p s
  | .sheet p => Sys2Proof.Machine.execSheet p s
  | .release p => Sys2Proof.Machine.execRelease p s
  | .folded p => Sys2Proof.Machine.execFolded p s
  | .pullResult p => Sys2Proof.Machine.execPullResult p s
  | .enveloped p => Sys2Proof.Machine.execEnveloped p s
  | .weighed p => Sys2Proof.Machine.execWeighed p s
  | .atGate p => Sys2Proof.Machine.execAtGate p s
  | .exited p => Sys2Proof.Machine.execExited p s
  | .purge p => Sys2Proof.Machine.execPurge p s
  | .resync p => Sys2Proof.Machine.execResync p s
  | .openRun p => Sys2Proof.Machine.execOpenRun p s
  | .closeRun p => Sys2Proof.Machine.execCloseRun p s
  | .loadPieces p => Sys2Proof.Machine.execLoadPieces p s
  | .amendPiece p => Sys2Proof.Machine.execAmendPiece p s
  | .cancelPiece p => Sys2Proof.Machine.execCancelPiece p s
  | .readOutcomes p => Sys2Proof.Machine.execReadOutcomes p s
  | .ackOutcomes p => Sys2Proof.Machine.execAckOutcomes p s
  | .readTrays p => Sys2Proof.Machine.execReadTrays p s
  | .ackTrays p => Sys2Proof.Machine.execAckTrays p s
  | .setStock p => Sys2Proof.Machine.execSetStock p s
  | .setEnvelope p => Sys2Proof.Machine.execSetEnvelope p s
  | .setFeeder p => Sys2Proof.Machine.execSetFeeder p s
  | .setBands p => Sys2Proof.Machine.execSetBands p s
  | .setSort p => Sys2Proof.Machine.execSetSort p s
  | .setKeyRule p => Sys2Proof.Machine.execSetKeyRule p s
  | .setLimits p => Sys2Proof.Machine.execSetLimits p s
  | .setHeadMap p => Sys2Proof.Machine.execSetHeadMap p s
  | .saveSettings p => Sys2Proof.Machine.execSaveSettings p s
  | .saveEnd r => Sys2Proof.Machine.execSaveEnd r s
  | .powerOnReset => Sys2Proof.Machine.execPowerOnReset s
  | .powerOnLoadEnd => Sys2Proof.Machine.execPowerOnLoadEnd s
  | .headReply bytes => Sys2Proof.Machine.execHeadReply bytes s
  | .replyWindowExpiry => Sys2Proof.Machine.execReplyWindowExpiry s

end Sys2Proof.Machine
end

