-- ==== Sys2Proof/Safety.lean ====
section
/-! DEFINITION. The terms in which statements speak of the part: when a request is due, what a command changes and
what it leaves unchanged, the notices it sends, and the invariants. -/

namespace Sys2Proof.Machine

/-! ### Requests that are due -/

/-- The command that executes a request of a kind on a port. -/
def RequestKind.command : RequestKind → Port → Instr
  | .status, p => .status p
  | .readNotices, p => .readNotices p
  | .clearFlags, p => .clearFlags p
  | .setAttentionMask, p => .setAttentionMask p
  | .setDefaultReport, p => .setDefaultReport p
  | .headAccess, p => .headAccess p
  | .readSlot, p => .readSlot p
  | .readPiece, p => .readPiece p
  | .readFeeders, p => .readFeeders p
  | .readBins, p => .readBins p
  | .readHeads, p => .readHeads p
  | .readCensus, p => .readCensus p
  | .runReset, p => .runReset p
  | .lineState, p => .lineState p
  | .sheet, p => .sheet p
  | .release, p => .release p
  | .folded, p => .folded p
  | .pullResult, p => .pullResult p
  | .enveloped, p => .enveloped p
  | .weighed, p => .weighed p
  | .atGate, p => .atGate p
  | .exited, p => .exited p
  | .purge, p => .purge p
  | .resync, p => .resync p
  | .openRun, p => .openRun p
  | .closeRun, p => .closeRun p
  | .loadPieces, p => .loadPieces p
  | .amendPiece, p => .amendPiece p
  | .cancelPiece, p => .cancelPiece p
  | .readOutcomes, p => .readOutcomes p
  | .ackOutcomes, p => .ackOutcomes p
  | .readTrays, p => .readTrays p
  | .ackTrays, p => .ackTrays p
  | .setStock, p => .setStock p
  | .setEnvelope, p => .setEnvelope p
  | .setFeeder, p => .setFeeder p
  | .setBands, p => .setBands p
  | .setSort, p => .setSort p
  | .setKeyRule, p => .setKeyRule p
  | .setLimits, p => .setLimits p
  | .setHeadMap, p => .setHeadMap p
  | .saveSettings, p => .saveSettings p

/-- The oldest frame of the port's intake is a request of kind `k` with payload `pl`, and the response queue has
room for its response (R186). That such a frame is executed by a command of its own, waiting in the queue of commands,
is the model's choice: notes/assumptions/3.md. -/
abbrev Due (k : RequestKind) (p : Port) (pl : List Byte) (s : State) : Prop :=
  (s.port p).responses.length < responseCapacity ∧ pl.length ≤ 250
    ∧ (s.port p).intake.head? = some (requestFrame k pl)

/-! ### The payloads in which a sender writes its operands (R203, R205) -/

/-- The values a stock record may hold (R54). -/
def Stock.inRange (k : Stock) : Bool :=
  400 ≤ k.grammage && k.grammage ≤ 3000 && 1000 ≤ k.width && k.width ≤ 4500 && 1000 ≤ k.length
    && k.length ≤ 4500 && 50 ≤ k.caliper && k.caliper ≤ 500

/-- The payload of SET_STOCK. -/
def Stock.bytes (k : Stock) (id : Nat) : List Byte :=
  toBytes 1 id ++ toBytes 1 (yesNo k.configured) ++ toBytes 2 k.grammage ++ toBytes 2 k.width
    ++ toBytes 2 k.length ++ toBytes 2 k.caliper

/-- The values an envelope record may hold (R56). -/
def Envelope.inRange (e : Envelope) : Bool :=
  1000 ≤ e.width && e.width ≤ 4000 && 800 ≤ e.height && e.height ≤ 3500 && e.clearance ≤ 200
    && 500 ≤ e.throat && e.throat ≤ 25000 && e.mass ≤ 100000 && 50 ≤ e.caliper && e.caliper ≤ 1000

/-- The payload of SET_ENVELOPE. -/
def Envelope.bytes (e : Envelope) : List Byte :=
  toBytes 2 e.width ++ toBytes 2 e.height ++ toBytes 1 e.clearance ++ toBytes 2 e.throat
    ++ toBytes 3 e.mass ++ toBytes 2 e.caliper

/-- The values a limits record may hold (R57). -/
def Limits.inRange (l : Limits) : Bool :=
  1 ≤ l.foldLimit && l.foldLimit ≤ 4 && 1 ≤ l.massCeiling && l.massCeiling ≤ 1000000
    && l.toleranceFloor ≤ 50000 && l.tolerancePermille ≤ 200 && 1 ≤ l.accumulatorLimit
    && l.accumulatorLimit ≤ 24 && l.resyncReach ≤ 8 && 1 ≤ l.orphanLimit && l.orphanLimit ≤ 8

/-- The payload of SET_LIMITS. -/
def Limits.bytes (l : Limits) : List Byte :=
  toBytes 1 l.foldLimit ++ toBytes 3 l.massCeiling ++ toBytes 2 l.toleranceFloor
    ++ toBytes 1 l.tolerancePermille ++ toBytes 1 (yesNo l.scaleInLine) ++ toBytes 1 (yesNo l.weighRequired)
    ++ toBytes 1 l.accumulatorLimit ++ toBytes 1 l.resyncReach ++ toBytes 1 l.orphanLimit
    ++ toBytes 1 (yesNo (l.feederPolicy == .divert))

/-- The band tables SET_BANDS may carry, the mass ceiling apart (R59). -/
def bandsInRange (us : List Nat) : Bool :=
  1 ≤ us.length && us.length ≤ 8 && us.all (fun u => 1 ≤ u && u ≤ 1048575) && strictlyRising us

/-- The payload of SET_BANDS. -/
def bandsBytes (us : List Nat) : List Byte := toBytes 1 us.length ++ us.flatMap (toBytes 3)

/-- The values the setting of a feeder may hold (R75). -/
def FeederSetting.inRange (x : FeederSetting) : Bool :=
  x.code ≤ 255 && x.mass ≤ 200000 && x.caliper ≤ 10000

/-- The payload of SET_FEEDER. -/
def FeederSetting.bytes (x : FeederSetting) (k : Nat) : List Byte :=
  toBytes 1 k ++ toBytes 1 x.code ++ toBytes 3 x.mass ++ toBytes 2 x.caliper ++ toBytes 1 (yesNo x.enabled)

/-- The payload of SET_SORT. -/
def SortSettings.bytes (t : SortSettings) : List Byte := answerBytes t.values

/-- The values a key rule slot may hold (R121). -/
def KeyRule.inRange (x : KeyRule) : Bool :=
  x.pattern.length == 8 && x.pattern.all (fun d => d.getD 0 ≤ 9) && 1 ≤ x.bin && x.bin ≤ 6

/-- The payload of SET_KEY_RULE. -/
def KeyRule.bytes (x : KeyRule) (k : Nat) : List Byte := toBytes 1 k ++ answerBytes x.values

/-- The payload of SET_HEAD_MAP. -/
def headMapBytes (m : Vector HeadKind 16) (enable : Bool) : List Byte :=
  m.toList.flatMap (fun k => toBytes 1 k.code) ++ toBytes 1 (yesNo enable)

/-- A head map SET_HEAD_MAP may carry: the station of every FEEDER is 1 to 8 (R163). -/
def headMapInRange (m : Vector HeadKind 16) : Bool :=
  m.toList.all fun k => match k with
    | .feeder n => 1 ≤ n && n ≤ 8
    | .none | .reader | .folder | .scale | .gate | .sorter => true

/-- The payload of HEAD_ACCESS. -/
def Access.payload (a : Access) : List Byte :=
  toBytes 1 a.address ++ toBytes 1 a.index ++ toBytes 1 (yesNo a.write.isSome)
    ++ match a.write with
      | some w => toBytes 2 w.toNat
      | none => []

/-- The accesses HEAD_ACCESS may carry (R175, step 1). -/
def Access.inRange (a : Access) : Bool :=
  a.address ≤ 15 && a.index ≤ 31 && (a.write.isNone || 2 ≤ a.index)

/-- The payload of a SHEET that carries a mark. -/
def Mark.bytes (m : Mark) : List Byte :=
  toBytes 1 1 ++ toBytes 3 m.id.seq ++ toBytes 1 m.id.reprint ++ toBytes 1 m.index ++ toBytes 1 m.printed

/-- The marks SHEET may carry (R30). -/
def Mark.inRange (m : Mark) : Bool :=
  1 ≤ m.id.seq && m.id.seq ≤ 16777215 && m.id.reprint ≤ 3 && 1 ≤ m.index && m.index ≤ 24
    && 1 ≤ m.printed && m.printed ≤ 24

/-- The payload of a SHEET. -/
def SheetReport.bytes : SheetReport → List Byte
  | .noRead => [0]
  | .mark m => m.bytes

/-- A record whose fields its bytes in a LOAD_PIECES payload can hold. -/
def PieceSpec.sendable (x : PieceSpec) : Bool :=
  x.id.seq ≤ 16777215 && x.id.reprint ≤ 255 && x.sheets ≤ 255 && x.stock ≤ 255
    && x.key.length == 8 && x.key.all (· ≤ 15)
    && x.insertCount ≤ 255 && x.inserts.length == min x.insertCount 8 && x.inserts.all (fun i => i.code ≤ 255)

/-- The eight code bytes and the required set of an insert list. -/
def insertBytes (ins : List InsertEntry) : List Byte :=
  (List.range 8).flatMap (fun i => toBytes 1 ((ins[i]?).elim 0 InsertEntry.code))
    ++ toBytes 1 ((List.range 8).map fun i => if (ins[i]?).elim false InsertEntry.required then 2 ^ i else 0).sum

/-- A piece record in a LOAD_PIECES payload. -/
def PieceSpec.bytes (x : PieceSpec) : List Byte :=
  toBytes 3 x.id.seq ++ toBytes 1 x.id.reprint ++ toBytes 1 x.sheets ++ toBytes 1 x.stock
    ++ digitBytes x.key ++ toBytes 1 x.insertCount ++ insertBytes x.inserts

/-- The payload of LOAD_PIECES. -/
def batchBytes (xs : List PieceSpec) : List Byte := toBytes 1 xs.length ++ xs.flatMap PieceSpec.bytes

/-- The payload of AMEND_PIECE. -/
def Amendment.bytes (a : Amendment) : List Byte :=
  toBytes 3 a.seq ++ toBytes 1 (yesNo a.inserts.isSome + 2 * yesNo a.key.isSome)
    ++ digitBytes (a.key.getD []) ++ toBytes 1 (a.inserts.elim 0 Prod.fst)
    ++ insertBytes (a.inserts.elim [] Prod.snd)

/-- An amendment whose fields its bytes can hold. -/
def Amendment.sendable (a : Amendment) : Bool :=
  a.seq ≤ 16777215
    && a.key.elim true (fun ds => ds.length == 8 && ds.all (· ≤ 15))
    && a.inserts.elim true (fun x => x.1 ≤ 255 && x.2.length == min x.1 8 && x.2.all (fun i => i.code ≤ 255))

/-! ### What a command changes -/

/-- The pieces of state a command may change. -/
inductive Block where
  | runState | runNumber | lineState | pieces | outcomes
  | forming | ready | cursor | orphanRun | intakeState | releaseHold
  | sheetMass | feeders | entries | allocator | census
  | bins | delivery | closedTrays | reservations | stall | trayCounter
  | headTable | pollPosition | identityDue | lastPoll | slots | lastGranted | line | sent
  | intake (p : Port) | responses (p : Port) | notices (p : Port) | shifted (p : Port)
  | flags | pins | active | stored | save | starting | free | pending
deriving DecidableEq, Repr

/-- Two states agree on a piece of state. -/
def Block.same (s t : State) : Block → Prop
  | .runState => t.run.runState = s.run.runState
  | .runNumber => t.run.runNumber = s.run.runNumber
  | .lineState => t.run.lineState = s.run.lineState
  | .pieces => t.run.pieces = s.run.pieces
  | .outcomes => t.run.outcomes = s.run.outcomes
  | .forming => t.checker.forming = s.checker.forming
  | .ready => t.checker.ready = s.checker.ready
  | .cursor => t.checker.cursor = s.checker.cursor
  | .orphanRun => t.checker.orphanRun = s.checker.orphanRun
  | .intakeState => t.checker.intake = s.checker.intake
  | .releaseHold => t.checker.releaseHold = s.checker.releaseHold
  | .sheetMass => t.sheetMass = s.sheetMass
  | .feeders => t.feeders = s.feeders
  | .entries => t.track.entries = s.track.entries
  | .allocator => t.track.allocator = s.track.allocator
  | .census => t.census = s.census
  | .bins => t.bins.table = s.bins.table
  | .delivery => t.bins.delivery = s.bins.delivery
  | .closedTrays => t.bins.closedTrays = s.bins.closedTrays
  | .reservations => t.bins.reservations = s.bins.reservations
  | .stall => t.bins.stall = s.bins.stall
  | .trayCounter => t.bins.trayCounter = s.bins.trayCounter
  | .headTable => t.heads.table = s.heads.table
  | .pollPosition => t.heads.pollPosition = s.heads.pollPosition
  | .identityDue => t.heads.identityDue = s.heads.identityDue
  | .lastPoll => t.heads.lastPoll = s.heads.lastPoll
  | .slots => t.heads.slots = s.heads.slots
  | .lastGranted => t.heads.lastGranted = s.heads.lastGranted
  | .line => t.heads.line = s.heads.line
  | .sent => t.heads.sent = s.heads.sent
  | .intake p => (t.port p).intake = (s.port p).intake
  | .responses p => (t.port p).responses = (s.port p).responses
  | .notices p => (t.port p).notices = (s.port p).notices
  | .shifted p => (t.port p).shifted = (s.port p).shifted
  | .flags => t.flags = s.flags
  | .pins => t.pins = s.pins
  | .active => t.settings.active = s.settings.active
  | .stored => t.settings.stored = s.settings.stored
  | .save => t.settings.save = s.settings.save
  | .starting => t.settings.starting = s.settings.starting
  | .free => t.free = s.free
  | .pending => t.pending = s.pending

/-- Every piece of state outside a list is unchanged. -/
def ChangesOnly (bs : List Block) (s t : State) : Prop := ∀ b, b ∉ bs → b.same s t

/-! ### Notices -/

/-- A notice queue after one more notice: appended while it holds fewer than 16, dropped otherwise (R192). -/
def pushNotice (ns : List Notice) (n : Notice) : List Notice :=
  if ns.length < noticeCapacity then ns ++ [n] else ns

/-- A notice queue after several notices, each judged against the room left by those before it (R192). -/
def pushNotices (ns new : List Notice) : List Notice := new.foldl pushNotice ns

/-- The NOTICE_LOST flag of a port, when one of the notices sent to it is dropped (R192). -/
def State.lostFlag (s : State) (p : Port) (new : List Notice) : FlagSet :=
  if (pushNotices (s.port p).notices new).length < (s.port p).notices.length + new.length then
    (noticeLostFlag p).bit
  else 0

/-- What an event does beside its own effects: the notices it sends to the two ports, in order; the sticky flags it
raises; the output lines, which follow; and nothing else outside `bs`. -/
structure Happened (track plan : List Notice) (raised : FlagSet) (bs : List Block) (s t : State) : Prop where
  toTrack : (t.port .track).notices = pushNotices (s.port .track).notices track
  toPlan : (t.port .plan).notices = pushNotices (s.port .plan).notices plan
  flags : t.flags = s.flags ||| raised ||| s.lostFlag .track track ||| s.lostFlag .plan plan
  outputs : t.pins = t.outputs
  frame : ChangesOnly ([.notices .track, .notices .plan, .flags, .pins] ++ bs) s t

/-- What one operation inside a command does: the notices it sends to the two ports, in order; the sticky flags it
raises; and nothing else outside `bs`. The output lines follow at the end of the command. -/
structure Effects (track plan : List Notice) (raised : FlagSet) (bs : List Block) (s t : State) : Prop where
  toTrack : (t.port .track).notices = pushNotices (s.port .track).notices track
  toPlan : (t.port .plan).notices = pushNotices (s.port .plan).notices plan
  flags : t.flags = s.flags ||| raised ||| s.lostFlag .track track ||| s.lostFlag .plan plan
  frame : ChangesOnly ([.notices .track, .notices .plan, .flags] ++ bs) s t

/-- The FEEDER_STATE notices of an event that derives the state of feeder `k` again: one to each port when the state
has changed (R81). -/
def feederNotices (k : Nat) (s t : State) : List Notice :=
  if (t.feeder k).state = (s.feeder k).state then []
  else [.feederState k (t.feeder k).state (t.feeder k).missRun]

/-- Whether a FEEDER hold of `s` is lifted in `t`: every required code of the held piece has a usable feeder, or the
feeder policy is DIVERT (R48). -/
def feederHoldLifts (s t : State) : Bool :=
  s.checker.releaseHold == .feeder && match t.readyPiece with
    | some r => (t.unavailable r).isEmpty || t.profile.limits.feederPolicy == .divert
    | none => false

/-- Whether an event that derives the state of feeder `k` again lifts a FEEDER hold: its change of state has the hold
tested (R48, R81). -/
def feederLifts (k : Nat) (s t : State) : Bool := (t.feeder k).state != (s.feeder k).state && feederHoldLifts s t

/-- HOLD_CLEARED, when a hold is lifted (R48). -/
def holdNotices (lifts : Bool) : List Notice := if lifts then [.holdCleared] else []

/-- The release hold after an event that may lift it (R48). -/
def holdAfter (lifts : Bool) (s : State) : ReleaseHold := if lifts then .free else s.checker.releaseHold

/-- A bin after its OPEN tray `y`, in which places are reserved, has begun closing: the tray is CLOSING with its close
reason, and the bin is FULL_WAIT unless it is FAULT or OFFLINE (R155). -/
def Bin.closing (reason : CloseReason) (y : Tray) (x : Bin) : Bin :=
  ⟨if x.state = .fault ∨ x.state = .offline then x.state else .fullWait,
   some { y with state := .closing, reason := some reason }⟩

/-- The BIN_STATE notices of bin `b` when its OPEN tray `y` begins closing (R143, R155). -/
def Bin.closingNotices (b : Nat) (y : Tray) (x : Bin) : List Notice :=
  if x.state = .fault ∨ x.state = .offline then [] else [.binState b .fullWait (some y.id)]

/-- Whether the release test frees bin `b`, in state `st` and holding no tray: it is FULL_WAIT or CLEARING, and the
last status of the sorter head shows it neither occupied nor faulted (R143). -/
def State.frees (s : State) (b : Nat) (st : BinState) : Bool :=
  (st == .fullWait || st == .clearing)
    && s.sorterStatus.elim false fun w => !shownOccupied w b && !shownFault w b

/-- The census after a record has finished, when its fall has no further effect: the count of its fine entry is lower by 1
when the census counts it (R126, R127). -/
def State.censusLess (s : State) (r : Piece) : List CensusEntry :=
  if r.census = .counted then
    s.census.map fun e =>
      if e.kind.isFine = true ∧ e.digits = r.key.take s.profile.sort.fineLength then e.onCount (· - 1) else e
  else s.census

/-- Finishing a record ends no group and removes no census entry: the census does not count it, or its fine count is at
least 2 and its fall does not take the eligible count of an AREA entry from above 0 to 0 (R127 to R129). -/
def State.FallsQuietly (s : State) (r : Piece) : Prop :=
  r.census = .counted →
    let d := r.key.take s.profile.sort.fineLength
    let a := d.take s.profile.sort.areaLength
    (∃ n l, findFine s.census d = some (n, l) ∧ 2 ≤ n)
      ∧ ¬ (findArea s.census a = some .area ∧ 0 < eligibleCount s.profile.sort.fineMinimum a s.census
        ∧ eligibleCount s.profile.sort.fineMinimum a (s.censusLess r) = 0)

/-- The groups a tray may have that takes a piece: a fine or an area group only as the census counts the piece in it
(R132, R133). -/
def State.OwnGroup (s : State) (r : Piece) : TrayGroup → Prop
  | .mixed | .rule _ => True
  | .fine d => r.census = .counted ∧ d = r.key.take s.profile.sort.fineLength
  | .area a => r.census = .counted ∧ a = (r.key.take s.profile.sort.fineLength).take s.profile.sort.areaLength

/-- The frame executed leaves the intake, and its response joins the response queue (R186). That a refusal whose rule
names no values carries an empty payload is the model's reading: notes/assumptions/10.md. -/
def Answered (p : Port) (k : RequestKind) (r : Result) (answer : List Value) (s t : State) : Prop :=
  (t.port p).intake = (s.port p).intake.drop 1
    ∧ (t.port p).responses = (s.port p).responses ++ [⟨k.code, r, answer⟩]

/-- The blocks every executed request changes. -/
def requestBlocks (p : Port) : List Block := [.intake p, .responses p]

/-! ### Invariants -/

/-- The queues of both ports are within their capacities (R183, R186, R192). -/
def PortsBounded (s : State) : Prop :=
  ∀ p, (s.port p).intake.length ≤ intakeCapacity ∧ (s.port p).responses.length ≤ responseCapacity
    ∧ (s.port p).notices.length ≤ noticeCapacity

/-- The attention outputs and the hold output show the conditions they stand for (R194, R195). -/
def OutputsFollow (s : State) : Prop := s.pins = s.outputs

/-- The track queue holds at most 32 entries with distinct tags of 0 to 63, and the allocator position is 0 to 63
(R100, R101). -/
def TrackBounded (s : State) : Prop :=
  s.track.entries.length ≤ 32 ∧ (s.track.entries.map TrackEntry.tag).Nodup
    ∧ (∀ e ∈ s.track.entries, e.tag ≤ 63) ∧ s.track.allocator ≤ 63

/-- The stage order of R100 and R102: no entry stands at a later stage than an older one, and a stalled entry is at the
gate behind entries that are all GATED (R107, R151). -/
def StagesOrdered (s : State) : Prop :=
  (s.track.entries.Pairwise fun x y => y.stage.rank ≤ x.stage.rank)
    ∧ ∀ w, s.bins.stall = some w → ∃ pre e post, s.track.entries = pre ++ e :: post ∧ e.tag = w.tag
      ∧ e.stage = .atGate ∧ e.stalled = true ∧ ∀ x ∈ pre, x.stage = .gated

/-- The piece table holds at most 4,096 records, the census at most 512 entries, and the closed-tray list at most 64
records (R5, R127, R157). -/
def CapacitiesHeld (s : State) : Prop :=
  s.run.pieces.length ≤ 4096 ∧ s.census.length ≤ 512 ∧ s.bins.closedTrays.length ≤ 64

/-- No two records of the piece table have the same sequence number and reprint count (R12). -/
def PiecesDistinct (s : State) : Prop := (s.run.pieces.map Piece.id).Nodup

end Sys2Proof.Machine
end

