-- ==== Sys2Proof/Certificates/Slice0/Obligations.lean ====
section
/-! DEFINITION. The statements for the provers. Every statement about a request says: when the request is due
(`Due`), the command that executes it answers a next state, with the response (`Answered`), the new values, the
notices and flags, and everything else unchanged (`Happened`, `ChangesOnly`). -/

open Sys2Proof Sys2Proof.Machine

/-! ### Commands and ports -/

/-- One step runs the command at the front of the queue on the state with the rest of the queue. The queue, in which
commands wait first in first out, is the model's choice (notes/assumptions/11.md), and so is the execution of a due
frame as a command of its own (notes/assumptions/3.md): the manual says nothing of such a queue. -/
def Obligations.StepRunsFrontCommand : Prop :=
  ∀ (c : Instr) (q : List Instr) (s : State), s.pending = c :: q → step s = exec c (s.withPending q)

/-- A request on a port it is not permitted on answers NOT_PERMITTED; one with a payload of a length not allowed is
refused BAD_ARG; nothing else is done (R186 steps 1 and 2, R203). A broken frame answers BAD_FRAME when its turn
comes, and a whole frame of a kind code that no request uses answers NOT_PERMITTED; the kind byte is echoed and
nothing else is done (R184, R186). That these responses carry no payload is the model's reading
(notes/assumptions/10.md). -/
def Obligations.FramesThatCannotRunAreAnswered : Prop :=
  (∀ (k : RequestKind) (p : Port) (pl : List Byte) (s : State), Due k p pl s →
    (k.permitted p = false →
      ∃ t, exec (k.command p) s = .next t ∧ Answered p k .notPermitted [] s t
        ∧ Happened [] [] 0 (requestBlocks p) s t)
    ∧ (k.permitted p = true → k.lengthAllowed pl.length = false →
      ∃ t, exec (k.command p) s = .next t ∧ Answered p k .badArg [] s t
        ∧ Happened [] [] 0 (requestBlocks p) s t))
    ∧ (∀ (p : Port) (f : List Byte) (fs : List (List Byte)) (s : State),
    (s.port p).intake = f :: fs → (s.port p).responses.length < 4 →
    (f.length < 3 ∨ f.length ≠ byteAt f 1 + 3 ∨ 250 < byteAt f 1 ∨ crc8 f ≠ 0 →
      ∃ t, exec (.badFrame p) s = .next t ∧ (t.port p).intake = fs
        ∧ (t.port p).responses = (s.port p).responses ++ [⟨f.getD 0 0, .badFrame, []⟩]
        ∧ Happened [] [] 0 (requestBlocks p) s t)
    ∧ (3 ≤ f.length → f.length = byteAt f 1 + 3 → byteAt f 1 ≤ 250 → crc8 f = 0 →
      (∀ k : RequestKind, k.code ≠ f.getD 0 0) →
      ∃ t, exec (.unknownRequestKind p) s = .next t ∧ (t.port p).intake = fs
        ∧ (t.port p).responses = (s.port p).responses ++ [⟨f.getD 0 0, .notPermitted, []⟩]
        ∧ Happened [] [] 0 (requestBlocks p) s t))

/-- SEND: with a place free, TAKEN, and the bytes join the intake as one frame, a broken one setting the port's
FRAME_ERROR flag; with none free, NOT_TAKEN; while the part is starting, STARTING; a SEND of no frame byte shifts out
the port status byte alone. Only the intake, the flag and the bytes shifted out change (R183, R184, R199, R202). -/
def Obligations.SendTakesAFrameWhenAPlaceIsFree : Prop :=
  ∀ (p : Port) (b : Byte) (bs : List Byte) (s : State),
    (s.settings.starting = false → (s.port p).intake.length < 4 →
      ∃ t, exec (.send p (b :: bs)) s = .next t
        ∧ (t.port p).intake = (s.port p).intake ++ [b :: bs]
        ∧ (t.port p).shifted = s.statusByte p :: 0x01 :: List.replicate bs.length 0
        ∧ Happened [] []
            (if (b :: bs).length < 3 ∨ (b :: bs).length ≠ byteAt (b :: bs) 1 + 3 ∨ 250 < byteAt (b :: bs) 1
                ∨ crc8 (b :: bs) ≠ 0 then (frameErrorFlag p).bit else 0)
            [.intake p, .shifted p] s t)
    ∧ (s.settings.starting = false → 4 ≤ (s.port p).intake.length →
      ∃ t, exec (.send p (b :: bs)) s = .next t
        ∧ (t.port p).shifted = s.statusByte p :: 0x02 :: List.replicate bs.length 0
        ∧ Happened [] [] 0 [.shifted p] s t)
    ∧ (s.settings.starting = true →
      ∃ t, exec (.send p (b :: bs)) s = .next t
        ∧ (t.port p).shifted = s.statusByte p :: 0x03 :: List.replicate bs.length 0
        ∧ Happened [] [] 0 [.shifted p] s t)
    ∧ ∃ t, exec (.send p []) s = .next t ∧ (t.port p).shifted = [s.statusByte p]
        ∧ Happened [] [] 0 [.shifted p] s t

/-- FETCH: all the bytes of the oldest response, its check the last, are shifted out behind the port status byte and
the response leaves the queue; when fewer bytes are clocked it stays, and the bytes clocked are its first; with no
response, or while the part is starting, zeros (R187, R199). -/
def Obligations.FetchShiftsOutTheOldestResponse : Prop :=
  ∀ (p : Port) (n : Nat) (r : Response) (rs : List Response) (s : State),
    (s.settings.starting = false → (s.port p).responses = r :: rs → r.frame.length ≤ n →
      ∃ t rest, exec (.fetch p n) s = .next t
        ∧ (t.port p).shifted = s.statusByte p :: r.frame ++ rest ∧ rest.length = n - r.frame.length
        ∧ (t.port p).responses = rs ∧ ChangesOnly [.shifted p, .responses p, .free] s t)
    ∧ (s.settings.starting = false → (s.port p).responses = r :: rs → n < r.frame.length →
      ∃ t, exec (.fetch p n) s = .next t ∧ (t.port p).shifted = s.statusByte p :: r.frame.take n
        ∧ ChangesOnly [.shifted p] s t)
    ∧ (s.settings.starting = true ∨ (s.port p).responses = [] →
      ∃ t, exec (.fetch p n) s = .next t ∧ (t.port p).shifted = s.statusByte p :: List.replicate n 0
        ∧ ChangesOnly [.shifted p] s t)

/-- A transfer code other than SEND or FETCH makes a status transfer: the port status byte, then zeros, and nothing is
taken from the bytes that follow (R182). The port status byte: bits 0 to 2 the free places of the intake, 3 to 5 the
responses waiting, 6 the attention output, 7 starting (R182, R202). -/
def Obligations.StatusTransferShowsThePort : Prop :=
  (∀ (p : Port) (code : Byte) (n : Nat) (s : State), code ≠ 0x5A → code ≠ 0xA5 →
    ∃ t, exec (.statusTransfer p code n) s = .next t
      ∧ (t.port p).shifted = s.statusByte p :: List.replicate n 0 ∧ ChangesOnly [.shifted p] s t)
    ∧ (∀ (p : Port) (s : State), PortsBounded s →
    (s.statusByte p).toNat % 8 = 4 - (s.port p).intake.length
    ∧ (s.statusByte p).toNat / 8 % 8 = (s.port p).responses.length
    ∧ (s.statusByte p).getLsbD 6 = s.attention p ∧ (s.statusByte p).getLsbD 7 = s.settings.starting)

/-- A frame that passes the check fails it after any one of its bytes has changed, and bytes pass it exactly when
their last byte is the check of those before it (R185). -/
def Obligations.FrameCheckFindsAChangedByte : Prop :=
  (∀ (xs ys : List Byte) (b c : Byte), crc8 (xs ++ b :: ys) = 0 → b ≠ c → crc8 (xs ++ c :: ys) ≠ 0)
    ∧ ∀ (xs : List Byte) (c : Byte), crc8 (xs ++ [c]) = 0 ↔ c = crc8 xs

/-- Decode and encode agree for the batch of LOAD_PIECES: every batch of one to eight records, each field at any value
its bytes hold and with eight half-bytes of key, is read back from its payload (R9, R205). -/
def Obligations.BatchReadsBackFromItsPayload : Prop :=
  ∀ xs : List PieceSpec, 1 ≤ xs.length → xs.length ≤ 8 → (∀ x ∈ xs, x.sendable = true) →
    batchOf (batchBytes xs) = some xs

/-! ### The whole machine -/

/-- The state after reset holds the power-on values of every block (R24, R52, R97, R117, R136, R161, R180, R201) under
the factory profile (R200). That the factory profile is the one loaded, with PROFILE_DEFAULTED set, is the model's
choice of a blank stored profile (notes/assumptions/1.md), and so are bits 4 to 6 of the first byte sent on the head
line, which are 0 (notes/assumptions/20.md). -/
def Obligations.ResetHoldsThePowerOnValues : Prop :=
  let s := State.reset
  s.run = ⟨.closed, 0, .stopped, [], []⟩ ∧ s.checker = ⟨none, none, 0, 0, .inSync, .free⟩
    ∧ (∀ k ∈ feederNumbers, s.feeder k = ⟨.offline, 0, 0, 0⟩) ∧ s.track = ⟨[], 0⟩ ∧ s.census = []
    ∧ (∀ b ∈ binNumbers, s.bin b = ⟨.offline, none⟩) ∧ s.bins.delivery = [] ∧ s.bins.closedTrays = []
    ∧ s.bins.reservations = [] ∧ s.bins.stall = none ∧ s.bins.trayCounter = 1
    ∧ (∀ a ∈ headAddresses, s.head a = ⟨.absent, 0, none, none, none⟩) ∧ s.heads.pollPosition = 1
    ∧ s.heads.identityDue = none ∧ s.heads.slots = ⟨.idle, .idle⟩ ∧ s.heads.lastGranted = .plan
    ∧ s.heads.line = some ⟨.statusPoll, ⟨1, 0, none⟩, false⟩ ∧ s.heads.sent = [0x01, 0x00, 0x15]
    ∧ (∀ p, s.port p = ⟨[], [], [], []⟩) ∧ s.flags = StickyFlag.profileDefaulted.bit
    ∧ s.pins = ⟨⟨false, true⟩, false⟩ ∧ s.profile = factoryProfile ∧ s.settings.save = none
    ∧ s.settings.starting = false ∧ s.pending = []

/-- The state after reset meets every invariant stated here. -/
def Obligations.ResetMeetsTheInvariants : Prop :=
  PortsBounded State.reset ∧ OutputsFollow State.reset ∧ TrackBounded State.reset ∧ StagesOrdered State.reset
    ∧ CapacitiesHeld State.reset ∧ PiecesDistinct State.reset

/-- Every step keeps the two intakes and response queues within 4 and the two notice queues within 16 (R183, R186,
R192). -/
def Obligations.EveryStepKeepsThePortsBounded : Prop :=
  ∀ s t : State, PortsBounded s → step s = .next t → PortsBounded t

/-- After every step the attention outputs and the hold output show the conditions they stand for: a port's attention
output is asserted exactly when a flag of its mask is set or a notice waits (R194), and the hold output exactly while
an entry is stalled, intake is SYNC_LOST, or a release hold is outstanding (R195). -/
def Obligations.EveryStepKeepsTheOutputsFollowing : Prop :=
  (∀ s t : State, OutputsFollow s → step s = .next t → OutputsFollow t)
    ∧ ∀ s : State, OutputsFollow s →
      (∀ p, s.pins.attention.get p = true ↔
        (∃ f : StickyFlag, s.flags.getLsbD f.number = true
            ∧ (s.profile.attentionMask.get p).getLsbD f.number = true)
          ∨ (s.port p).notices ≠ [])
      ∧ (s.pins.hold = true ↔ s.bins.stall ≠ none ∨ s.checker.intake = .syncLost ∨ s.checker.releaseHold ≠ .free)

/-- Every step keeps the track queue within 32 entries with distinct tags of 0 to 63, and the allocator position
within 0 to 63 (R99, R100, R101). It also keeps the stage order: no entry passes an older one, and a stalled entry
stands at the gate behind entries that are all GATED (R100, R102, R107, R151). -/
def Obligations.EveryStepKeepsTheTrackBounded : Prop :=
  (∀ s t : State, TrackBounded s → step s = .next t → TrackBounded t)
    ∧ ∀ s t : State, TrackBounded s → StagesOrdered s → step s = .next t → StagesOrdered t

/-- Every step keeps the piece table within 4,096 records, the census within 512 entries and the closed-tray list
within 64 records (R5, R127, R157). Every step keeps the records of the piece table distinct in sequence number and
reprint count (R12). -/
def Obligations.EveryStepKeepsTheTables : Prop :=
  (∀ s t : State, CapacitiesHeld s → step s = .next t → CapacitiesHeld t)
    ∧ (∀ s t : State, PiecesDistinct s → step s = .next t → PiecesDistinct t)

/-- Every request that is due is executed once: its frame leaves the intake, and exactly one response, echoing its
kind code, joins the response queue (R186). A transfer on one port, and the execution of a frame of one port, leave
the other port's intake, response queue and transfer as they were (R182). -/
def Obligations.PortsExecuteAndAnswerApart : Prop :=
  (∀ (k : RequestKind) (p : Port) (pl : List Byte) (s : State), Due k p pl s →
    ∃ t r, exec (k.command p) s = .next t ∧ (t.port p).intake = (s.port p).intake.drop 1
      ∧ (t.port p).responses = (s.port p).responses ++ [r] ∧ r.kind = k.code)
    ∧ (∀ (p q : Port) (c : Instr) (s t : State), q ≠ p →
    ((∃ k : RequestKind, c = k.command p) ∨ (∃ bs, c = .send p bs) ∨ (∃ n, c = .fetch p n)
      ∨ (∃ code n, c = .statusTransfer p code n) ∨ c = .badFrame p ∨ c = .unknownRequestKind p) →
    exec c s = .next t →
    (t.port q).intake = (s.port q).intake ∧ (t.port q).responses = (s.port q).responses
      ∧ (t.port q).shifted = (s.port q).shifted)

/-- Only their own requests and the power-on events write the active profile, the stored profile, the head table, the
run number and the line state (R1, R2, R165, R197, R198). -/
def Obligations.SettingsAreWrittenByTheirRequestsOnly : Prop :=
  ∀ (c : Instr) (s t : State), exec c s = .next t →
    (t.settings.active ≠ s.settings.active → c = .powerOnLoadEnd
      ∨ ∃ p, c ∈ [.setStock p, .setEnvelope p, .setLimits p, .setBands p, .setFeeder p, .setSort p, .setKeyRule p,
          .setHeadMap p, .setAttentionMask p, .setDefaultReport p])
    ∧ (t.settings.stored ≠ s.settings.stored →
      c = .powerOnReset ∨ (∃ p, c = .saveSettings p) ∨ ∃ r, c = .saveEnd r)
    ∧ (t.heads.table ≠ s.heads.table → c ∈ [.powerOnReset, .powerOnLoadEnd, .replyWindowExpiry]
      ∨ (∃ p, c = .setHeadMap p) ∨ ∃ bs, c = .headReply bs)
    ∧ (t.run.runNumber ≠ s.run.runNumber →
      c ∈ [.powerOnReset, .powerOnLoadEnd] ∨ ∃ p, c = .openRun p)
    ∧ (t.run.lineState ≠ s.run.lineState →
      c ∈ [.powerOnReset, .powerOnLoadEnd] ∨ ∃ p, c = .lineState p)

/-! ### Requests of both ports -/

/-- STATUS returns the port's default report for an empty payload and the report named for one byte 0 to 3, refuses
any other byte BAD_ARG, and changes nothing (R188). The RUN report: run state, run number, line state, the numbers of
records, of waiting outcomes and of records LOADED, COLLATING and ON_TRACK, the hold output and its three conditions,
whether a save runs and whether the stored profile is valid; the FLAGS report: flags, mask, attention output, waiting
notices, default report (R188); the TRACK report: the two collation records, the expected piece, the orphan run and
its limit, intake state and release hold (R51), then the entries' number, the allocator position and each entry
(R112); the BINS report: each bin with its tray's id, count and reserved count, the stall, and the two list sizes
(R160). The order of the collation records, and one mark for a cancelled or faulted piece, are the model's reading
(notes/assumptions/8.md); that collation faults are sent as a fault set is its choice (notes/assumptions/30.md). -/
def Obligations.StatusReturnsAReport : Prop :=
  (∀ (p : Port) (s : State),
    (Due .status p [] s →
      ∃ t, exec (.status p) s = .next t
        ∧ Answered p .status .done (s.report p (s.profile.defaultReport.get p)) s t
        ∧ Happened [] [] 0 (requestBlocks p) s t)
    ∧ (∀ r : Report, Due .status p (toBytes 1 r.code) s →
      ∃ t, exec (.status p) s = .next t ∧ Answered p .status .done (s.report p r) s t
        ∧ Happened [] [] 0 (requestBlocks p) s t)
    ∧ ∀ b : Byte, 4 ≤ b.toNat → Due .status p [b] s →
      ∃ t, exec (.status p) s = .next t ∧ Answered p .status .badArg [] s t
        ∧ Happened [] [] 0 (requestBlocks p) s t)
    ∧ ∀ (p : Port) (s : State),
      let number (st : PieceState) : Nat := (s.run.pieces.filter fun x => x.state == st).length
      let owner : Option Owner → List Value
        | none => [.code .owner 0]
        | some .orphan => [.code .owner 1]
        | some (.piece id) => [.code .owner 2, triV id.seq, byteV id.reprint]
      let record (status : Nat) : Option Collation → List Value
        | none => [.code .recordStatus 0]
        | some c => .code .recordStatus status :: owner (some c.owner)
            ++ [.code .sheetsJoined c.joined, byteV c.highest, faultsV c.faults]
      s.report p .run =
          [byteV s.run.runState.code, wordV s.run.runNumber, byteV s.run.lineState.code,
            .code .count s.run.pieces.length, .code .count s.run.outcomes.length, .code .count (number .loaded),
            .code .count (number .collating), .code .count (number .onTrack),
            flagV (s.bins.stall.isSome || s.checker.intake == .syncLost || s.checker.releaseHold != .free),
            flagV s.bins.stall.isSome, flagV (s.checker.intake == .syncLost), flagV (s.checker.releaseHold != .free),
            flagV s.settings.save.isSome, flagV s.settings.stored.valid]
        ∧ s.report p .flags =
          [wordV s.flags.toNat, wordV (s.profile.attentionMask.get p).toNat, flagV (s.attention p),
            byteV (s.port p).notices.length, byteV (s.profile.defaultReport.get p).code]
        ∧ s.report p .track =
          record (if s.checker.forming.elim false Collation.ended then 2 else 1) s.checker.forming
            ++ record 3 s.checker.ready
            ++ owner (((s.run.pieces.drop s.checker.cursor).find? fun x => x.state == .loaded).map fun x =>
                .piece x.id)
            ++ [.code .orphanRun s.checker.orphanRun, byteV s.profile.limits.orphanLimit,
              .code .intakeState (if s.checker.intake = .syncLost then 1 else 0),
              .code .releaseHold (match s.checker.releaseHold with
                | .free => 0
                | .feeder => 1
                | .trackFull => 2),
              .code .count s.track.entries.length, .code .allocator s.track.allocator]
            ++ (s.track.entries.flatMap fun e =>
              [byteV e.tag, triV e.piece.seq, byteV e.piece.reprint, .code .stage e.stage.rank, flagV e.stalled,
                byteV (match e.decision with
                  | none => 0
                  | some .divert => 0
                  | some (.bin b) => b),
                flagV ((s.piece? e.piece).elim false fun r => r.cancelPending || !r.faults.isEmpty)])
        ∧ s.report p .bins =
          (binNumbers.flatMap fun b =>
              [byteV (s.bin b).state.code, wordV ((s.bin b).tray.elim 0 Tray.id),
                wordV ((s.bin b).tray.elim 0 Tray.count), wordV ((s.bin b).tray.elim 0 Tray.reserved)])
            ++ (match s.bins.stall with
              | none => [byteV 0, byteV 0, byteV 0, quadV 0]
              | some w => [byteV 1, byteV w.tag, byteV w.group.levelCode] ++ groupV w.group)
            ++ [byteV s.bins.closedTrays.length, byteV s.bins.delivery.length]

/-- READ_NOTICES removes the oldest notices of the port's own queue, up to 8, and returns them behind their number and
the number still waiting (R193). Each notice is its code and its fields, an absent field as zeros; a group is the
prefix digits with F hex beyond them, zeros for MIXED, the slot for RULE (R204). That the low half of a kind byte is 0
but for FEEDER is the model's choice (notes/assumptions/32.md). -/
def Obligations.ReadNoticesRemovesTheOldest : Prop :=
  (∀ (p : Port) (s : State), Due .readNotices p [] s →
    ∃ t, exec (.readNotices p) s = .next t
      ∧ Answered p .readNotices .done
          ([byteV (min (s.port p).notices.length 8), byteV ((s.port p).notices.length - 8)]
            ++ ((s.port p).notices.take 8).flatMap Notice.values) s t
      ∧ (t.port p).notices = (s.port p).notices.drop 8 ∧ t.flags = s.flags ∧ t.pins = t.outputs
      ∧ ChangesOnly (requestBlocks p ++ [.notices p, .pins]) s t)
    ∧ (∀ ds : List Nat, (∀ d ∈ ds, d ≤ 15) → groupV (.fine ds) = groupV (.area ds) ∧ groupV (.fine ds) =
        (List.range 4).map fun i => byteV (16 * (ds[2 * i]?).getD 15 + (ds[2 * i + 1]?).getD 15))
    ∧ groupV .mixed = [quadV 0] ∧ (∀ k, groupV (.rule k) = [quadV k])
    ∧ ∀ n : Notice, n.values = match n with
      | .gateGo tag .divert => [byteV 1, byteV tag, byteV 0]
      | .gateGo tag (.bin b) => [byteV 1, byteV tag, byteV b]
      | .holdCleared => [byteV 2]
      | .syncLost => [byteV 3]
      | .binWait tag g none => [byteV 4, byteV tag, byteV g.levelCode] ++ groupV g ++ [byteV 0, byteV 0]
      | .binWait tag g (some (b, st)) =>
        [byteV 4, byteV tag, byteV g.levelCode] ++ groupV g ++ [byteV b, byteV st.code]
      | .binState b st none => [byteV 5, byteV b, byteV st.code, wordV 0]
      | .binState b st (some id) => [byteV 5, byteV b, byteV st.code, wordV id]
      | .feederState k st misses => [byteV 6, byteV k, byteV st.code, byteV misses]
      | .headState a kind st none => [byteV 7, byteV a, byteV kind.code, byteV st.code, wordV 0]
      | .headState a kind st (some w) => [byteV 7, byteV a, byteV kind.code, byteV st.code, wordV w.toNat]
      | .slotDone a o => [byteV 8, byteV a.address, byteV a.index, flagV a.write.isSome, byteV o.code]
      | .runState st => [byteV 9, byteV st.code]
      | .purgeDone track collations orphans => [byteV 10, byteV track, byteV collations, byteV orphans]
      | .outcomes => [byteV 11]
      | .trayClosed id run b none => [byteV 12, wordV id, wordV run, byteV b, byteV 0]
      | .trayClosed id run b (some why) => [byteV 12, wordV id, wordV run, byteV b, byteV why.code]
      | .saveDone .ok => [byteV 13, byteV 0]
      | .saveDone .failed => [byteV 13, byteV 1]
      | .resyncDone seq count => [byteV 14, triV seq, wordV count]

/-- CLEAR_FLAGS clears the flags named, keeps the others, answers DONE with the flags as they then stand, and touches
no other state; a flag number above 12, or a payload of another length, is refused BAD_ARG with nothing cleared; in
every run state, on either port (R191). -/
def Obligations.ClearFlagsClearsTheFlagsNamed : Prop :=
  ∀ (p : Port) (s : State),
    (∀ x : FlagSet, Due .clearFlags p (toBytes 2 x.toNat) s →
      ∃ t, exec (.clearFlags p) s = .next t
        ∧ Answered p .clearFlags .done [wordV (s.flags &&& ~~~x).toNat] s t
        ∧ t.flags = s.flags &&& ~~~x ∧ t.pins = t.outputs
        ∧ ChangesOnly (requestBlocks p ++ [.flags, .pins]) s t)
    ∧ ∀ pl, (pl.length ≠ 2 ∨ 8192 ≤ beNat pl) → Due .clearFlags p pl s →
      ∃ t, exec (.clearFlags p) s = .next t ∧ Answered p .clearFlags .badArg [] s t
        ∧ Happened [] [] 0 (requestBlocks p) s t

/-- SET_ATTENTION_MASK replaces the mask of the port that sent it and answers DONE with the mask, and the attention
output follows; a flag number above 12 is refused BAD_ARG (R194). SET_DEFAULT_REPORT replaces the default report of
the port that sent it; any other payload is refused BAD_ARG (R189). -/
def Obligations.MaskAndReportAreSetForThePort : Prop :=
  ∀ (p : Port) (s : State),
    (∀ x : FlagSet, Due .setAttentionMask p (toBytes 2 x.toNat) s →
      ∃ t, exec (.setAttentionMask p) s = .next t ∧ Answered p .setAttentionMask .done [wordV x.toNat] s t
        ∧ t.profile = { s.profile with attentionMask := s.profile.attentionMask.modify p fun _ => x }
        ∧ Happened [] [] 0 (requestBlocks p ++ [.active]) s t)
    ∧ (∀ pl, (pl.length ≠ 2 ∨ 8192 ≤ beNat pl) → Due .setAttentionMask p pl s →
      ∃ t, exec (.setAttentionMask p) s = .next t ∧ Answered p .setAttentionMask .badArg [] s t
        ∧ Happened [] [] 0 (requestBlocks p) s t)
    ∧ (∀ r : Report, Due .setDefaultReport p (toBytes 1 r.code) s →
      ∃ t, exec (.setDefaultReport p) s = .next t ∧ Answered p .setDefaultReport .done [] s t
        ∧ t.profile = { s.profile with defaultReport := s.profile.defaultReport.modify p fun _ => r }
        ∧ Happened [] [] 0 (requestBlocks p ++ [.active]) s t)
    ∧ ∀ pl, (pl.length ≠ 1 ∨ 4 ≤ beNat pl) → Due .setDefaultReport p pl s →
      ∃ t, exec (.setDefaultReport p) s = .next t ∧ Answered p .setDefaultReport .badArg [] s t
        ∧ Happened [] [] 0 (requestBlocks p) s t

/-- HEAD_ACCESS: on an idle line the access is granted at once, its slot ACTIVE and its bytes on the line, when the
other slot waits for nothing; when the other slot waits too, the slot not granted last is granted the line; on a busy
line the access waits; with the port's slot busy it is refused BUSY; a payload that spells no access in range is
refused BAD_ARG (R175, R178). The bytes of an access are its address with the direction in bit 7, its index, the data
word of a write, and the check over them (R208); that bits 4 to 6 of the first byte are 0 is the model's choice
(notes/assumptions/20.md). -/
def Obligations.HeadAccessIsPlacedInThePortsSlot : Prop :=
  (∀ (p : Port) (a : Access) (s : State), a.inRange = true → Due .headAccess p a.payload s →
    ((s.heads.slots.get p).busy = false → s.heads.line = none →
        (∀ q, (s.heads.slots.get q).waiting? = none) →
      ∃ t, exec (.headAccess p) s = .next t ∧ Answered p .headAccess .done [] s t
        ∧ t.heads.slots = s.heads.slots.modify p (fun _ => .active a) ∧ t.heads.lastGranted = p
        ∧ t.heads.line = some ⟨.slot p, a, false⟩ ∧ t.heads.sent = a.bytes
        ∧ Happened [] [] 0 (requestBlocks p ++ [.slots, .lastGranted, .line, .sent]) s t)
    ∧ (∀ (q : Port) (b : Access), q ≠ p → (s.heads.slots.get p).busy = false → s.heads.line = none →
        s.heads.slots.get q = .waiting b →
      ∃ t, exec (.headAccess p) s = .next t ∧ Answered p .headAccess .done [] s t
        ∧ (s.heads.lastGranted = q → t.heads.slots = s.heads.slots.modify p (fun _ => .active a)
            ∧ t.heads.lastGranted = p ∧ t.heads.line = some ⟨.slot p, a, false⟩ ∧ t.heads.sent = a.bytes)
        ∧ (s.heads.lastGranted = p →
            t.heads.slots = (s.heads.slots.modify p fun _ => .waiting a).modify q (fun _ => .active b)
            ∧ t.heads.lastGranted = q ∧ t.heads.line = some ⟨.slot q, b, false⟩ ∧ t.heads.sent = b.bytes)
        ∧ Happened [] [] 0 (requestBlocks p ++ [.slots, .lastGranted, .line, .sent]) s t)
    ∧ ((s.heads.slots.get p).busy = false → s.heads.line ≠ none →
      ∃ t, exec (.headAccess p) s = .next t ∧ Answered p .headAccess .done [] s t
        ∧ t.heads.slots = s.heads.slots.modify p (fun _ => .waiting a)
        ∧ Happened [] [] 0 (requestBlocks p ++ [.slots]) s t)
    ∧ ((s.heads.slots.get p).busy = true →
      ∃ t, exec (.headAccess p) s = .next t ∧ Answered p .headAccess .busy [] s t
        ∧ Happened [] [] 0 (requestBlocks p) s t))
    ∧ (∀ (p : Port) (pl : List Byte) (s : State), Due .headAccess p pl s →
      (∀ a : Access, a.inRange = true → pl ≠ a.payload) →
      ∃ t, exec (.headAccess p) s = .next t ∧ Answered p .headAccess .badArg [] s t
        ∧ Happened [] [] 0 (requestBlocks p) s t)
    ∧ ∀ a : Access, a.inRange = true →
      a.bytes.length = (if a.write.isSome then 5 else 3) ∧ crc8 a.bytes = 0
        ∧ byteAt a.bytes 0 = a.address + (if a.write.isSome then 128 else 0) ∧ byteAt a.bytes 1 = a.index
        ∧ ∀ w, a.write = some w → byteAt a.bytes 2 * 256 + byteAt a.bytes 3 = w.toNat

/-- The read requests that carry no payload answer DONE with the state they read, laid out as R206 and R209 give it,
and change nothing: READ_FEEDERS (R79), READ_HEADS (R179), READ_SLOT (R177), READ_OUTCOMES, with the records of the
first 8 ids of the outcome order, oldest first (R21), READ_TRAYS (R158). READ_BINS answers DONE with the six bins, the
reservation records, the stall, the tray id counter and the two list sizes, and changes nothing (R160, R209). The
layouts of a piece record (R206), in whose fault set cause number c is bit c - 1, of a tray record and of a slot
(R209) follow. That a kind byte's low half, a slot's outcome and read data, and insert codes and required bits are 0
where they hold nothing is the model's choice (notes/assumptions/32.md). -/
def Obligations.ReadsAnswerAndChangeNothing : Prop :=
  (∀ (p : Port) (s : State),
    (Due .readFeeders p [] s →
      ∃ t, exec (.readFeeders p) s = .next t ∧ Happened [] [] 0 (requestBlocks p) s t
        ∧ Answered p .readFeeders .done (feederNumbers.flatMap fun k =>
            [byteV (s.profile.feeder k).code, triV (s.profile.feeder k).mass, wordV (s.profile.feeder k).caliper,
             flagV (s.profile.feeder k).enabled, byteV ((s.profile.feederHead k).getD 255),
             byteV (s.feeder k).state.code, byteV (s.feeder k).missRun, triV (s.feeder k).takenCount,
             byteV (s.feeder k).lastRefill]) s t)
    ∧ (Due .readHeads p [] s →
      ∃ t, exec (.readHeads p) s = .next t ∧ Happened [] [] 0 (requestBlocks p) s t
        ∧ Answered p .readHeads .done ((headAddresses.flatMap fun a =>
              [byteV (nth s.profile.headMap a).code, byteV (s.head a).state.code, byteV (s.head a).failedRun,
               byteV (yesNo (s.head a).lastStatus.isSome + 2 * yesNo (s.head a).lastIdentity.isSome),
               wordV ((s.head a).lastStatus.elim 0 BitVec.toNat),
               wordV ((s.head a).lastIdentity.elim 0 BitVec.toNat)])
            ++ [flagV s.profile.pollEnable, byteV s.heads.pollPosition, byteV (s.heads.identityDue.getD 255),
                byteV s.heads.slots.track.code, byteV s.heads.slots.plan.code,
                byteV (if s.heads.lastGranted = .track then 0 else 1)]) s t)
    ∧ (Due .readSlot p [] s →
      ∃ t, exec (.readSlot p) s = .next t ∧ Happened [] [] 0 (requestBlocks p) s t
        ∧ Answered p .readSlot .done (s.heads.slots.get p).values s t)
    ∧ (Due .readOutcomes .plan [] s →
      ∃ t, exec (.readOutcomes .plan) s = .next t ∧ Happened [] [] 0 (requestBlocks .plan) s t
        ∧ Answered .plan .readOutcomes .done
            (let oldest := (s.run.outcomes.take 8).filterMap fun id => s.piece? id
            byteV oldest.length :: oldest.flatMap Piece.values) s t)
    ∧ (Due .readTrays .plan [] s →
      ∃ t, exec (.readTrays .plan) s = .next t ∧ Happened [] [] 0 (requestBlocks .plan) s t
        ∧ Answered .plan .readTrays .done ([byteV (s.bins.closedTrays.take 4).length,
              byteV s.bins.closedTrays.length, byteV s.bins.delivery.length]
            ++ (s.bins.closedTrays.take 4).flatMap Tray.values) s t))
    ∧ (∀ (p : Port) (s : State), Due .readBins p [] s →
    ∃ t, exec (.readBins p) s = .next t ∧ Happened [] [] 0 (requestBlocks p) s t
      ∧ Answered p .readBins .done
          ((binNumbers.flatMap fun b =>
              [byteV (s.bin b).state.code, byteV ((s.profile.dedicatedSlot b).getD 0)]
                ++ (s.bin b).tray.elim [byteV 0, .num 48 0] (fun x => byteV 1 :: x.values))
            ++ [byteV s.bins.reservations.length]
            ++ (s.bins.reservations.flatMap fun r => [byteV r.tag, wordV r.trayId, quadV r.mass])
            ++ stallV s.bins.stall
            ++ [wordV s.bins.trayCounter, byteV s.bins.closedTrays.length, byteV s.bins.delivery.length]) s t)
    ∧ (∀ (cs : List Cause) (c : Cause), (faultSet cs).testBit (c.number - 1) = decide (c ∈ cs))
    ∧ (∀ r : Piece, r.values =
        [triV r.id.seq, byteV r.id.reprint, wordV r.run, byteV r.state.code,
          byteV (r.disposition.elim 0 Disposition.code),
          byteV (yesNo r.cancelPending + 2 * yesNo r.expected.isSome + 4 * yesNo r.measured.isSome
            + 8 * yesNo r.band.isSome + 16 * yesNo r.tray.isSome + 32 * yesNo r.tag.isSome),
          byteV r.sheets, byteV r.stock, byteV r.planned.panels] ++ digitsV r.key
        ++ [byteV r.census.code, byteV (r.faults.head?.elim 0 Cause.number), triV (faultSet r.faults),
          triV r.planned.mass, wordV r.planned.thickness, triV (r.expected.elim 0 Prod.fst),
          wordV (r.expected.elim 0 Prod.snd), triV (r.measured.getD 0), byteV (r.band.getD 0),
          wordV (r.tray.elim 0 Prod.fst), byteV (r.tray.elim 0 Prod.snd), byteV (r.tag.getD 0)]
        ++ byteV r.inserts.length :: ((List.range 8).map fun i => byteV ((r.inserts[i]?).elim 0 InsertEntry.code))
        ++ [byteV ((List.range 8).map fun i =>
            if (r.inserts[i]?).elim false InsertEntry.required then 2 ^ i else 0).sum]
        ++ byteV r.pulls.length :: (r.pulls.flatMap fun e =>
          [byteV (e.feeder + 16 * e.result.code + 128 * e.origin.code), byteV e.code])
        ++ byteV r.skipped.length :: r.skipped.map byteV)
    ∧ (∀ y : Tray, y.values =
        [wordV y.id, wordV y.run, byteV y.group.levelCode] ++ groupV y.group
        ++ [wordV y.continuation, byteV y.bin, byteV y.state.code, wordV y.count, wordV y.reserved, quadV y.mass,
          quadV y.reservedMass] ++ y.bandCounts.toList.map wordV
        ++ [triV (y.firstSeq.getD 0), triV (y.lastSeq.getD 0), byteV (y.reason.elim 0 CloseReason.code)])
    ∧ ∀ x : Slot, x.values = match x with
      | .idle => [byteV 0]
      | .waiting a => [byteV 1, byteV a.address, byteV a.index, flagV a.write.isSome,
          wordV (a.write.elim 0 BitVec.toNat), byteV 0, wordV 0]
      | .active a => [byteV 2, byteV a.address, byteV a.index, flagV a.write.isSome,
          wordV (a.write.elim 0 BitVec.toNat), byteV 0, wordV 0]
      | .complete a o data => [byteV 3, byteV a.address, byteV a.index, flagV a.write.isSome,
          wordV (a.write.elim 0 BitVec.toNat), byteV o.code, wordV (data.elim 0 BitVec.toNat)]

/-- READ_PIECE, on either port and in every run state, answers with the newest record of the sequence number, refuses
NOT_FOUND when no record carries it, and changes nothing (R23). -/
def Obligations.ReadPieceReturnsTheNewestRecord : Prop :=
  ∀ (p : Port) (n : Nat) (s : State), n ≤ 16777215 → Due .readPiece p (toBytes 3 n) s →
    (∀ (xs ys : List Piece) (r : Piece), s.run.pieces = xs ++ r :: ys → r.id.seq = n →
        (∀ x ∈ ys, x.id.seq ≠ n) →
      ∃ t, exec (.readPiece p) s = .next t ∧ Answered p .readPiece .done r.values s t
        ∧ Happened [] [] 0 (requestBlocks p) s t)
    ∧ ((∀ x ∈ s.run.pieces, x.id.seq ≠ n) →
      ∃ t, exec (.readPiece p) s = .next t ∧ Answered p .readPiece .notFound [] s t
        ∧ Happened [] [] 0 (requestBlocks p) s t)

/-- READ_CENSUS returns up to 16 entries that follow the starting point in key order, the number of entries, the two
prefix lengths and whether further entries follow, and changes nothing; a starting point that names no entry present
is taken as the place where the entry would stand (R135). An entry is its kind, level, prefix digits with F hex beyond
them, and count, or for an area entry its eligible count (R207). That the level byte of a starting point is not read
is the model's choice, and so is that a kind other than 0 and 1, a digit above 9, and a single byte other than FF hex
are refused BAD_ARG (notes/assumptions/19.md); that the entries stand first, with no number of those returned, is its
reading (notes/assumptions/8.md). -/
def Obligations.ReadCensusReturnsEntriesInKeyOrder : Prop :=
  ∀ (p : Port) (s : State),
    (Due .readCensus p [0xFF] s →
      ∃ t, exec (.readCensus p) s = .next t ∧ Happened [] [] 0 (requestBlocks p) s t
        ∧ Answered p .readCensus .done ((s.census.take 16).flatMap s.censusEntryV
            ++ [.code .count s.census.length, byteV s.profile.sort.fineLength, byteV s.profile.sort.areaLength,
                flagV (decide (16 < s.census.length))]) s t)
    ∧ (∀ (xs ys : List CensusEntry) (e : CensusEntry), s.census = xs ++ e :: ys →
        (s.census.Pairwise fun x y => digitsBefore x.digits y.digits = true) →
        e.digits.length = (if e.kind.isFine then s.profile.sort.fineLength else s.profile.sort.areaLength) →
        s.profile.sort.inRange = true → (∀ d ∈ e.digits, d ≤ 9) →
        Due .readCensus p (toBytes 1 (if e.kind.isFine then 0 else 1) ++ [0] ++ digitBytes e.digits) s →
      ∃ t, exec (.readCensus p) s = .next t ∧ Happened [] [] 0 (requestBlocks p) s t
        ∧ Answered p .readCensus .done ((ys.take 16).flatMap s.censusEntryV
            ++ [.code .count s.census.length, byteV s.profile.sort.fineLength, byteV s.profile.sort.areaLength,
                flagV (decide (16 < ys.length))]) s t)
    ∧ (∀ (xs ys : List CensusEntry) (kind : Nat) (level : Byte) (ds : List Nat), s.census = xs ++ ys → kind ≤ 1 →
        ds.length = (if kind = 0 then s.profile.sort.fineLength else s.profile.sort.areaLength) →
        s.profile.sort.inRange = true → (∀ d ∈ ds, d ≤ 9) →
        (∀ x ∈ xs, digitsBefore ds x.digits = false) → (∀ y ∈ ys, digitsBefore ds y.digits = true) →
        Due .readCensus p (toBytes 1 kind ++ [level] ++ digitBytes ds) s →
      ∃ t, exec (.readCensus p) s = .next t ∧ Happened [] [] 0 (requestBlocks p) s t
        ∧ Answered p .readCensus .done ((ys.take 16).flatMap s.censusEntryV
            ++ [.code .count s.census.length, byteV s.profile.sort.fineLength, byteV s.profile.sort.areaLength,
                flagV (decide (16 < ys.length))]) s t)
    ∧ (∀ pl : List Byte, s.profile.sort.inRange = true → Due .readCensus p pl s →
        (pl.length = 1 ∧ byteAt pl 0 ≠ 255
          ∨ pl.length = 6 ∧ (1 < byteAt pl 0
            ∨ ∃ i < (if byteAt pl 0 = 0 then s.profile.sort.fineLength else s.profile.sort.areaLength),
                9 < (if i % 2 = 0 then byteAt pl (2 + i / 2) / 16 else byteAt pl (2 + i / 2) % 16))) →
      ∃ t, exec (.readCensus p) s = .next t ∧ Answered p .readCensus .badArg [] s t
        ∧ Happened [] [] 0 (requestBlocks p) s t)
    ∧ ∀ e : CensusEntry,
      let prefixV : List Value := [0, 2, 4, 6].map fun i => byteV (e.digits.getD i 15 * 16 + e.digits.getD (i + 1) 15)
      (∀ d ∈ e.digits, d ≤ 9) → s.censusEntryV e = match e.kind with
        | .fine n l => [byteV 0, byteV (match l with
            | .undecided => 0
            | .fine => 1
            | .coarse => 2)] ++ prefixV ++ [wordV n]
        | .area l => [byteV 1, byteV (match l with
            | .area => 3
            | .mixed => 4)] ++ prefixV ++ [wordV (eligibleCount s.profile.sort.fineMinimum e.digits s.census)]

/-- RUN_RESET while the line is STOPPED: the piece table, the outcome order, the collation records, the track queue,
the census, the trays, the reservations and the stall are empty, the run is CLOSED with its number kept, miss runs and
taken counts are 0, every feeder's state is derived again, and the settings, the head line and the stored profile are
untouched (R25, R53, R98, R118, R137, R162, R181, R196). Each FREE, OPEN or FULL_WAIT bin becomes CLEARING, and each
CLEARING bin shown empty and unfaulted FREE (R162). OUTCOMES_DISCARDED is set when the table held a record (R25);
every other sticky flag keeps its value, but for NOTICE_LOST of a port whose notice queue had no room (R192, R196). To
each port, behind the notices queued, go the BIN_STATE notices of the bins that become CLEARING and then of those that
become FREE, then FEEDER_STATE of each feeder whose state changed, and last RUN_STATE(CLOSED) (R98, R162, R196). That
the notices of one step stand in the order of the bins, and the FEEDER_STATE notices in the order of the feeders, is
the model's reading (notes/assumptions/22.md). While the line is RUNNING it is refused WRONG_STATE, with nothing
changed (R196). -/
def Obligations.RunResetEmptiesTheBlocks : Prop :=
  ∀ (p : Port) (s : State), Due .runReset p [] s →
    let seenFree (b : Nat) : Bool := s.sorterStatus.elim false fun w => !shownOccupied w b && !shownFault w b
    let cleared : List Notice := (binNumbers.filter fun b => (s.bin b).state ∈ [.free, .opened, .fullWait]).map fun b =>
      .binState b .clearing none
    let freed : List Notice := (binNumbers.filter fun b => (s.bin b).state ∉ [.fault, .offline] ∧ seenFree b).map fun b =>
      .binState b .free none
    (s.run.lineState = .stopped →
      ∃ t, exec (.runReset p) s = .next t
        ∧ Answered p .runReset .done [.code .count s.run.pieces.length] s t
        ∧ t.run = { s.run with runState := .closed, pieces := [], outcomes := [] }
        ∧ t.checker = ⟨none, none, 0, 0, .inSync, .free⟩ ∧ t.track = ⟨[], 0⟩ ∧ t.census = []
        ∧ t.bins.delivery = [] ∧ t.bins.closedTrays = [] ∧ t.bins.reservations = []
        ∧ t.bins.stall = none ∧ t.bins.trayCounter = 1
        ∧ (∀ b ∈ binNumbers, (t.bin b).tray = none
            ∧ ((s.bin b).state ∈ [.fault, .offline] → (t.bin b).state = (s.bin b).state)
            ∧ ((s.bin b).state ∉ [.fault, .offline] → (t.bin b).state =
                (if seenFree b then .free else .clearing)))
        ∧ (∀ k ∈ feederNumbers, t.feeder k =
            { s.feeder k with missRun := 0, takenCount := 0, state := t.derivedFeederState k })
        ∧ t.pins.hold = false
        ∧ (let notices : List Notice :=
            cleared ++ freed ++ (feederNumbers.flatMap fun k => feederNotices k s t) ++ [.runState .closed]
          Happened notices notices (if s.run.pieces = [] then 0 else StickyFlag.outcomesDiscarded.bit)
            (requestBlocks p ++ [.runState, .pieces, .outcomes, .forming, .ready, .cursor, .orphanRun, .intakeState,
              .releaseHold, .feeders, .entries, .allocator, .census, .bins, .delivery, .closedTrays, .reservations,
              .stall, .trayCounter]) s t))
    ∧ (s.run.lineState = .running →
      ∃ t, exec (.runReset p) s = .next t ∧ Answered p .runReset .wrongState [] s t
        ∧ Happened [] [] 0 (requestBlocks p) s t)

/-! ### Requests of the track port -/

/-- LINE_STATE sets the line state named, in every run state, the value already held included, and answers DONE; a
payload naming anything else is refused BAD_ARG; nothing else changes (R1). OPEN_RUN in CLOSED with a run number of 1
to 65,535: the run is OPEN with that number, the census is empty, the tray id counter is 1, and RUN_STATE(OPEN) goes
to both ports; 0 is refused BAD_ARG; outside CLOSED every number is refused WRONG_STATE (R2). -/
def Obligations.LineAndRunAreOpened : Prop :=
  (∀ s : State,
    (∀ x : LineState, Due .lineState .track (toBytes 1 x.code) s →
      ∃ t, exec (.lineState .track) s = .next t ∧ Answered .track .lineState .done [] s t
        ∧ t.run = { s.run with lineState := x } ∧ Happened [] [] 0 (requestBlocks .track ++ [.lineState]) s t)
    ∧ ∀ pl, (pl.length ≠ 1 ∨ 2 ≤ beNat pl) → Due .lineState .track pl s →
      ∃ t, exec (.lineState .track) s = .next t ∧ Answered .track .lineState .badArg [] s t
        ∧ Happened [] [] 0 (requestBlocks .track) s t)
    ∧ (∀ (n : Nat) (s : State), n ≤ 65535 → Due .openRun .plan (toBytes 2 n) s →
    (s.run.runState = .closed → 1 ≤ n →
      ∃ t, exec (.openRun .plan) s = .next t ∧ Answered .plan .openRun .done [] s t
        ∧ t.run = { s.run with runState := .opened, runNumber := n } ∧ t.census = [] ∧ t.bins.trayCounter = 1
        ∧ Happened [.runState .opened] [.runState .opened] 0
            (requestBlocks .plan ++ [.runState, .runNumber, .census, .trayCounter]) s t)
    ∧ (s.run.runState = .closed → n = 0 →
      ∃ t, exec (.openRun .plan) s = .next t ∧ Answered .plan .openRun .badArg [] s t
        ∧ Happened [] [] 0 (requestBlocks .plan) s t)
    ∧ (s.run.runState ≠ .closed →
      ∃ t, exec (.openRun .plan) s = .next t ∧ Answered .plan .openRun .wrongState [] s t
        ∧ Happened [] [] 0 (requestBlocks .plan) s t))

/-- A readable sheet that belongs to the piece of the open forming record joins it, judged by the first case of R31
that applies; a sheet whose index equals the sheet count ends the collation, which moves to an empty ready record at
once (R28, R30 to R32, R41). A NOREAD sheet joins the open forming record: a piece collation gains UNREADABLE, an
orphan gains nothing, and neither ends (R33). A readable sheet of an open orphan's identity with index above 1 joins
the orphan (R38). -/
def Obligations.SheetsJoinTheOpenCollation : Prop :=
  (∀ (m : Mark) (c : Collation) (r : Piece) (s : State),
    m.inRange = true → Due .sheet .track m.bytes s → s.run.runState ≠ .closed → s.checker.intake = .inSync →
    s.checker.forming = some c → c.ended = false → c.owner = .piece m.id → s.piece? m.id = some r →
    let fault : Option Cause :=
      if m.printed ≠ r.sheets ∨ r.sheets < m.index then some .markMismatch
      else if m.index = c.highest + 1 then none
      else if c.highest + 1 < m.index then some .missingSheet
      else some .duplicateSheet
    let c' : Collation := { c with
      accepted := if fault = none then c.accepted ++ [m.index] else c.accepted
      highest := max c.highest m.index
      joined := min (c.joined + 1) 255
      faults := fault.elim c.faults fun f => if f ∈ c.faults then c.faults else c.faults ++ [f]
      ended := decide (m.index = r.sheets) }
    let moves : Bool := decide (m.index = r.sheets) && s.checker.ready.isNone
    ∃ t, exec (.sheet .track) s = .next t
      ∧ Answered .track .sheet .done
          [.code .owner 2, triV m.id.seq, byteV m.id.reprint,
           fault.elim (.code .sheetOutcome 0) (fun f => byteV f.number), .code .count 0,
           .code .endPlace (if m.index = r.sheets then if moves then 1 else 2 else 0), flagV false] s t
      ∧ t.checker.forming = (if moves then none else some c')
      ∧ t.checker.ready = (if moves then some c' else s.checker.ready)
      ∧ t.run.pieces = s.run.pieces.map
          (fun x => if x.id = m.id then fault.elim x (fun f => x.addCause f) else x)
      ∧ Happened [] [] 0 (requestBlocks .track ++ [.forming, .ready, .pieces]) s t)
    ∧ (∀ (c : Collation) (s : State),
    s.run.runState ≠ .closed → s.checker.intake = .inSync → s.checker.forming = some c → c.ended = false →
    (∀ id, c.owner = .piece id → Due .sheet .track [0] s →
      ∃ t, exec (.sheet .track) s = .next t
        ∧ Answered .track .sheet .done
            [.code .owner 2, triV id.seq, byteV id.reprint, byteV 4, .code .count 0, .code .endPlace 0, flagV false] s t
        ∧ t.checker.forming = some { c with
            joined := min (c.joined + 1) 255
            faults := if Cause.unreadable ∈ c.faults then c.faults else c.faults ++ [.unreadable] }
        ∧ t.run.pieces = s.run.pieces.map (fun x => if x.id = id then x.addCause .unreadable else x)
        ∧ Happened [] [] 0 (requestBlocks .track ++ [.forming, .pieces]) s t)
    ∧ (c.owner = .orphan → Due .sheet .track [0] s →
      ∃ t, exec (.sheet .track) s = .next t
        ∧ Answered .track .sheet .done
            [.code .owner 1, .code .sheetOutcome 1, .code .count 0, .code .endPlace 0, flagV false] s t
        ∧ t.checker.forming = some { c with joined := min (c.joined + 1) 255 }
        ∧ Happened [] [] 0 (requestBlocks .track ++ [.forming]) s t)
    ∧ ∀ m : Mark, c.owner = .orphan → m.inRange = true → m.index ≠ 1 → c.identity = some m.id →
        Due .sheet .track m.bytes s →
      ∃ t, exec (.sheet .track) s = .next t
        ∧ Answered .track .sheet .done
            [.code .owner 1, .code .sheetOutcome 1, .code .count 0, .code .endPlace 0, flagV false] s t
        ∧ t.checker.forming = some { c with joined := min (c.joined + 1) 255, highest := max c.highest m.index }
        ∧ Happened [] [] 0 (requestBlocks .track ++ [.forming]) s t)

/-- A readable start sheet of the expected piece, or of a LOADED record within the resync reach beyond it, opens the
forming record for that piece: the LOADED records before it finish NOT_FED with SKIPPED_AHEAD in load order, the
record becomes COLLATING, the cursor stands just after it and the orphan run count is 0; the sheet is judged as the
first of its collation, by its printed count and its index, and ends the collation when its index is the sheet count
(R35, R36, by R28, R31, R32 and R41). The order of the answer's values is the model's reading
(notes/assumptions/8.md). -/
def Obligations.StartSheetOpensThePiece : Prop :=
  ∀ (m : Mark) (pre post : List Piece) (r : Piece) (s : State),
    m.inRange = true → Due .sheet .track m.bytes s → s.run.runState = .opened → s.checker.intake = .inSync →
    s.checker.forming = none → PiecesDistinct s →
    s.loadedAhead = pre ++ r :: post → r.id = m.id → pre.length ≤ s.profile.limits.resyncReach →
    let fault : Option Cause :=
      if m.printed ≠ r.sheets ∨ r.sheets < m.index then some .markMismatch
      else if m.index = 1 then none
      else some .missingSheet
    let c : Collation :=
      ⟨.piece m.id, none, if fault = none then [1] else [], m.index, 1, fault.toList, decide (m.index = r.sheets)⟩
    let moves : Bool := decide (m.index = r.sheets) && s.checker.ready.isNone
    let add (f : Option Cause) (q : List Cause) : List Cause :=
      f.elim q fun x => if x ∈ q then q else q ++ [x]
    ∃ t, exec (.sheet .track) s = .next t
      ∧ Answered .track .sheet .done
          [.code .owner 2, triV m.id.seq, byteV m.id.reprint,
           fault.elim (.code .sheetOutcome 0) (fun f => byteV f.number), .code .count pre.length,
           .code .endPlace (if m.index = r.sheets then if moves then 1 else 2 else 0), flagV false] s t
      ∧ t.checker.forming = (if moves then none else some c)
      ∧ t.checker.ready = (if moves then some c else s.checker.ready)
      ∧ t.checker.cursor = s.position m.id + 1 ∧ t.checker.orphanRun = 0
      ∧ t.run.outcomes = s.run.outcomes ++ pre.map Piece.id
      ∧ t.run.pieces.map (fun x => (x.id, x.state, x.disposition, x.faults)) = s.run.pieces.map (fun x =>
          if x.id ∈ pre.map Piece.id then
            (x.id, .finished, some (if x.cancelPending then .cancelled else .notFed),
              add (some .skippedAhead) x.faults)
          else if x.id = m.id then (x.id, .collating, x.disposition, add fault x.faults)
          else (x.id, x.state, x.disposition, x.faults))
      ∧ (pre = [] →
          t.run.pieces = s.run.pieces.map (fun x =>
            if x.id = m.id then { x with state := .collating, faults := add fault x.faults } else x)
          ∧ Happened [] [] 0 (requestBlocks .track ++ [.forming, .ready, .cursor, .orphanRun, .pieces]) s t)
      ∧ ChangesOnly (requestBlocks .track ++ [.forming, .ready, .cursor, .orphanRun, .pieces, .outcomes, .census,
          .bins, .delivery, .closedTrays, .reservations, .stall, .trayCounter, .entries, .notices .track,
          .notices .plan, .flags, .pins]) s t

/-- A start sheet that is NOREAD, or readable and of no LOADED record within reach, opens an orphan; when the orphan
run count reaches the orphan limit, intake enters SYNC_LOST at the end of the request, with the sticky flag and a
notice to both ports (R37, R39, R40). -/
def Obligations.StartSheetOpensAnOrphan : Prop :=
  ∀ (sh : SheetReport) (s : State),
    (sh = .noRead ∨ ∃ m : Mark, sh = .mark m ∧ m.inRange = true ∧
      ∀ pre r post, s.loadedAhead = pre ++ r :: post → r.id = m.id → s.profile.limits.resyncReach < pre.length) →
    Due .sheet .track sh.bytes s → s.run.runState = .opened → s.checker.intake = .inSync →
    s.checker.forming = none →
    let c : Collation := match sh with
      | .noRead => ⟨.orphan, none, [], 0, 1, [], false⟩
      | .mark m => ⟨.orphan, some m.id, [], m.index, 1, [], false⟩
    let lost : Bool := decide (s.profile.limits.orphanLimit ≤ s.checker.orphanRun + 1)
    let notices : List Notice := if lost then [.syncLost] else []
    ∃ t, exec (.sheet .track) s = .next t
      ∧ Answered .track .sheet .done
          [.code .owner 1, .code .sheetOutcome 1, .code .count 0, .code .endPlace 0, flagV lost] s t
      ∧ t.checker.forming = some c ∧ t.checker.orphanRun = s.checker.orphanRun + 1
      ∧ t.checker.intake = (if lost then .syncLost else .inSync) ∧ (lost = true → t.pins.hold = true)
      ∧ Happened notices notices (if lost then StickyFlag.syncLost.bit else 0)
          (requestBlocks .track ++ [.forming, .orphanRun, .intakeState]) s t

/-- A readable sheet that does not join the open forming record ends it while the ready record is empty: a faultless
piece collation gains MISSING_SHEET, in the collation and in the piece record, a faulted one and an orphan gain
nothing, and the ended collation stands in the ready record (R28, R34, R38). The same sheet then starts a collation:
of the LOADED record within reach it belongs to, where the records before it finish and the sheet is judged (R35,
R36), or an orphan, which may lose sync (R37, R39, R40). The answer describes the new collation, and its end-of-record
field the one that ended (R30; notes/assumptions/8.md). -/
def Obligations.SheetOfAnotherPieceEndsTheCollation : Prop :=
  ∀ (m : Mark) (c : Collation) (s : State),
    m.inRange = true → Due .sheet .track m.bytes s → s.run.runState = .opened → s.checker.intake = .inSync →
    s.checker.forming = some c → c.ended = false → s.checker.ready = none →
    (∀ id, c.owner = .piece id → m.id ≠ id) →
    (c.owner = .orphan → m.index = 1 ∨ c.identity ≠ some m.id) →
    let ended : Collation := { c with
      ended := true
      faults := if c.owner ≠ .orphan ∧ c.faults = [] then [.missingSheet] else c.faults }
    let gains (x : Piece) : Piece :=
      if c.owner = .piece x.id ∧ c.faults = [] then x.addCause .missingSheet else x
    let add (f : Option Cause) (q : List Cause) : List Cause :=
      f.elim q fun x => if x ∈ q then q else q ++ [x]
    (∀ (pre post : List Piece) (r : Piece), PiecesDistinct s → s.loadedAhead = pre ++ r :: post → r.id = m.id →
        pre.length ≤ s.profile.limits.resyncReach →
      let fault : Option Cause :=
        if m.printed ≠ r.sheets ∨ r.sheets < m.index then some .markMismatch
        else if m.index = 1 then none
        else some .missingSheet
      ∃ t, exec (.sheet .track) s = .next t
        ∧ Answered .track .sheet .done
            [.code .owner 2, triV m.id.seq, byteV m.id.reprint,
             fault.elim (.code .sheetOutcome 0) (fun f => byteV f.number), .code .count pre.length,
             .code .endPlace 1, flagV false] s t
        ∧ t.checker.ready = some ended
        ∧ t.checker.forming = some
            ⟨.piece m.id, none, if fault = none then [1] else [], m.index, 1, fault.toList,
              decide (m.index = r.sheets)⟩
        ∧ t.checker.cursor = s.position m.id + 1 ∧ t.checker.orphanRun = 0
        ∧ t.run.outcomes = s.run.outcomes ++ pre.map Piece.id
        ∧ t.run.pieces.map (fun x => (x.id, x.state, x.disposition, x.faults)) = s.run.pieces.map (fun x =>
            if x.id ∈ pre.map Piece.id then
              (x.id, .finished, some (if x.cancelPending then .cancelled else .notFed),
                add (some .skippedAhead) (gains x).faults)
            else if x.id = m.id then (x.id, .collating, x.disposition, add fault x.faults)
            else (x.id, x.state, x.disposition, (gains x).faults))
        ∧ (pre = [] →
            t.run.pieces = s.run.pieces.map (fun x =>
              if x.id = m.id then { x with state := .collating, faults := add fault x.faults } else gains x)
            ∧ Happened [] [] 0 (requestBlocks .track ++ [.forming, .ready, .cursor, .orphanRun, .pieces]) s t)
        ∧ ChangesOnly (requestBlocks .track ++ [.forming, .ready, .cursor, .orphanRun, .pieces, .outcomes, .census,
            .bins, .delivery, .closedTrays, .reservations, .stall, .trayCounter, .entries, .notices .track,
            .notices .plan, .flags, .pins]) s t)
    ∧ ((∀ pre r post, s.loadedAhead = pre ++ r :: post → r.id = m.id → s.profile.limits.resyncReach < pre.length) →
      let lost : Bool := decide (s.profile.limits.orphanLimit ≤ s.checker.orphanRun + 1)
      let notices : List Notice := if lost then [.syncLost] else []
      ∃ t, exec (.sheet .track) s = .next t
        ∧ Answered .track .sheet .done
            [.code .owner 1, .code .sheetOutcome 1, .code .count 0, .code .endPlace 1, flagV lost] s t
        ∧ t.checker.ready = some ended
        ∧ t.checker.forming = some ⟨.orphan, some m.id, [], m.index, 1, [], false⟩
        ∧ t.checker.orphanRun = s.checker.orphanRun + 1
        ∧ t.checker.intake = (if lost then .syncLost else .inSync)
        ∧ t.run.pieces = s.run.pieces.map gains
        ∧ Happened notices notices (if lost then StickyFlag.syncLost.bit else 0)
            (requestBlocks .track ++ [.forming, .ready, .orphanRun, .intakeState, .pieces]) s t)

/-- The refusals of SHEET in their order, each of which changes nothing: WRONG_STATE in CLOSED, SYNC_LOST, WRONG_STATE
for a start sheet in DRAINING, HOLD_SHEET for a start sheet while a collation waits, or for one that would end the
open collation while the ready record is occupied (R30, R41, R42). A mark outside its ranges, a form other than 0 and
1, and a payload whose length does not suit its form are refused BAD_ARG, with nothing changed (R30, R207). -/
def Obligations.RefusedSheetsChangeNothing : Prop :=
  (∀ (sh : SheetReport) (s : State), (∀ m, sh = .mark m → m.inRange = true) → Due .sheet .track sh.bytes s →
    let start : Prop := ∀ c, s.checker.forming = some c → c.ended = false → sh.joins c = false
    let refused (r : Result) : Prop :=
      ∃ t, exec (.sheet .track) s = .next t ∧ Answered .track .sheet r [] s t
        ∧ Happened [] [] 0 (requestBlocks .track) s t
    (s.run.runState = .closed → refused .wrongState)
    ∧ (s.run.runState ≠ .closed → s.checker.intake = .syncLost → refused .syncLost)
    ∧ (s.run.runState = .draining → s.checker.intake = .inSync → start → refused .wrongState)
    ∧ (s.run.runState = .opened → s.checker.intake = .inSync → start →
        (∃ c, s.checker.forming = some c ∧ (c.ended = true ∨ s.checker.ready.isSome)) → refused .holdSheet))
    ∧ (∀ (pl : List Byte) (s : State), Due .sheet .track pl s →
    (pl ≠ [0] ∧ ∀ m : Mark, m.inRange = true → pl ≠ m.bytes) →
    ∃ t, exec (.sheet .track) s = .next t ∧ Answered .track .sheet .badArg [] s t
      ∧ Happened [] [] 0 (requestBlocks .track) s t)

/-- A clean collation whose piece has no cancel-pending, with every required code at a usable feeder and room on the
track, is given FOLD: the next free tag, a track entry at RELEASED, the pull list and skipped codes, the expected
make-up, the record ON_TRACK with its tag, and the ready record emptied for a waiting collation (R46, R47, R65, R87,
R101). That the number of feeders stands before them in the answer is the model's reading (notes/assumptions/8.md). -/
def Obligations.ReleaseFoldsACleanCollation : Prop :=
  ∀ (flush : Bool) (c : Collation) (r : Piece) (s : State),
    Due .release .track (toBytes 1 (yesNo flush)) s → s.checker.ready = some c → c.owner = .piece r.id →
    s.piece? r.id = some r → c.ended = true → c.faults = [] → (∀ i, 1 ≤ i → i ≤ r.sheets → i ∈ c.accepted) →
    r.cancelPending = false → s.unavailable r = [] → s.track.entries.length < 32 →
    let tag := s.track.nextTag
    let waits := s.checker.waiting
    let pulls : List PullEntry := (s.pullSet r).map fun x => ⟨x.1, x.2, .pending, .release⟩
    ∃ t, exec (.release .track) s = .next t
      ∧ Answered .track .release .done
          ([.code .releaseVerdict 0, byteV tag, byteV r.planned.panels, .code .listLength (s.pullSet r).length]
            ++ (s.pullSet r).map fun x => byteV x.1) s t
      ∧ t.track.entries = s.track.entries ++ [⟨tag, r.id, .released, false, none⟩]
      ∧ t.track.allocator = (if tag = 63 then 0 else tag + 1)
      ∧ t.run.pieces = s.run.pieces.map (fun x => if x.id = r.id then
          { x with
            pulls := pulls
            skipped := s.skippedCodes r
            expected := some
              (makeUpMass r.sheets (nth s.sheetMass r.stock) ((s.pullSet r).map fun x => s.profile.insertValues x.1)
                  s.profile.envelope,
                makeUpThickness r.sheets (nth s.profile.stocks r.stock).caliper r.planned.panels
                  ((s.pullSet r).map fun x => s.profile.insertValues x.1) s.profile.envelope)
            state := .onTrack
            tag := some tag } else x)
      ∧ t.checker.ready = (if waits then s.checker.forming else none)
      ∧ t.checker.forming = (if waits then none else s.checker.forming)
      ∧ t.checker.releaseHold = .free
      ∧ Happened [] [] 0 (requestBlocks .track ++ [.entries, .allocator, .pieces, .ready, .forming, .releaseHold]) s t

/-- The tag a FOLD verdict issues is the first from the allocator position upward, continuing from 0 after 63, that no
entry holds (R101). The pull set names, for each code of the insert list that some usable feeder carries, the lowest-
numbered such feeder, in feeder order; the other required codes are unavailable, the other optional ones are skipped
(R80, R86). The state of a feeder is the first of DISABLED, OFFLINE, JAMMED, EMPTY, LOW, READY whose condition holds
(R80). A report of a feeder's head whose refill count differs from the last one seen makes the miss run 0, and then
the state is derived again, with FEEDER_STATE to both ports on a change (R81, R83). -/
def Obligations.ReleaseChoosesTagAndFeeders : Prop :=
  (∀ q : TrackQueue, q.entries.length ≤ 31 → q.allocator ≤ 63 →
    ∃ k, k < 64 ∧ q.nextTag = (q.allocator + k) % 64 ∧ (∀ e ∈ q.entries, e.tag ≠ q.nextTag)
      ∧ ∀ j < k, ∃ e ∈ q.entries, e.tag = (q.allocator + j) % 64)
    ∧ (∀ (r : Piece) (s : State), (∀ i ∈ r.inserts, i.code ≠ 0) →
    let carries (k c : Nat) : Prop :=
      k ∈ feederNumbers ∧ (s.feeder k).state ∈ [.ready, .low] ∧ (s.profile.feeder k).code = c
    (∀ k c, (k, c) ∈ s.pullSet r ↔
        (∃ i ∈ r.inserts, i.code = c) ∧ carries k c ∧ ∀ j < k, ¬ carries j c)
      ∧ (s.pullSet r).Pairwise (fun x y => x.1 ≤ y.1)
      ∧ (∀ c, c ∈ s.unavailable r ↔ (∃ i ∈ r.inserts, i.code = c ∧ i.required = true) ∧ ∀ k, ¬ carries k c)
      ∧ ∀ c, c ∈ s.skippedCodes r ↔ (∃ i ∈ r.inserts, i.code = c ∧ i.required = false) ∧ ∀ k, ¬ carries k c)
    ∧ (∀ (k : Nat) (s : State), k ∈ feederNumbers →
      let enabled : Prop := (s.profile.feeder k).enabled = true
      let shows (w : Half) : Prop := ∃ a, s.profile.feederHead k = some a ∧ (s.head a).state = .present
        ∧ (s.head a).lastStatus = some w
      (¬ enabled → s.derivedFeederState k = .disabled)
      ∧ (enabled → (∀ w, ¬ shows w) → s.derivedFeederState k = .offline)
      ∧ ∀ w, enabled → shows w →
        let jam : Prop := w.getLsbD 0 = true
        let empty : Prop := w.getLsbD 1 = true ∨ (s.feeder k).missRun = 3
        let low : Prop := w.getLsbD 2 = true
        (jam → s.derivedFeederState k = .jammed)
        ∧ (¬ jam → empty → s.derivedFeederState k = .empty)
        ∧ (¬ jam → ¬ empty → low → s.derivedFeederState k = .low)
        ∧ (¬ jam → ¬ empty → ¬ low → s.derivedFeederState k = .ready))
    ∧ ∀ (k : Nat) (w : Option Half) (s : State), k ∈ feederNumbers →
      let t := s.feederReport k w
      let refill := w.elim (s.feeder k).lastRefill fun x => x.toNat / 16 % 16
      t.feeder k = { s.feeder k with
          lastRefill := refill
          missRun := if refill = (s.feeder k).lastRefill then (s.feeder k).missRun else 0
          state := t.derivedFeederState k }
        ∧ (∀ j ∈ feederNumbers, j ≠ k → t.feeder j = s.feeder j)
        ∧ t.checker.releaseHold = holdAfter (feederLifts k s t) s
        ∧ Effects (feederNotices k s t ++ holdNotices (feederLifts k s t)) (feederNotices k s t) 0
            [.feeders, .releaseHold] s t

/-- A RELEASE that diverts: an orphan is dropped with its sheets joined; a faulted or cancel-pending piece finishes
DIVERTED or CANCELLED with its tag absent and joins the outcome order; a clean piece under feeder policy DIVERT gains
FEEDER_UNAVAILABLE and finishes DIVERTED; the ready record empties for a waiting collation and the release hold is
NONE (R19, R44, R45, R47, R48). With flush and an empty ready record, the open forming record ends first, a piece
gaining MISSING_SHEET, and is judged in the same request, the cursor staying (R43). A DRAINING run whose two records
and track are then empty is CLOSED, with RUN_STATE(CLOSED) to both ports (R4). The fields that these rules do not name
in the answer (an orphan's piece, cause and cancelled mark, the mark of FEEDER_UNAVAILABLE) are the model's reading
(notes/assumptions/8.md), and so is RUN_STATE(CLOSED) as the last notice (notes/assumptions/14.md). -/
def Obligations.ReleaseDivertsOrphansAndFaultedPieces : Prop :=
  ∀ (flush : Bool) (c : Collation) (s : State),
    Due .release .track (toBytes 1 (yesNo flush)) s →
    let finished (x : Piece) : Piece := { x with
      state := .finished
      disposition := some (if x.cancelPending then .cancelled else .diverted)
      tag := none }
    let others : List Block := requestBlocks .track ++ [.runState, .ready, .forming, .releaseHold, .pieces, .outcomes,
      .census, .bins, .delivery, .closedTrays, .reservations, .stall, .trayCounter, .entries, .notices .track,
      .notices .plan, .flags, .pins]
    let closes (t : State) : Prop := s.run.runState = .draining ∧ t.checker.forming = none ∧ t.checker.ready = none
      ∧ s.track.entries = []
    let drained (t : State) : Prop :=
      (closes t → t.run.runState = .closed ∧ t.census = []
        ∧ ∀ q, (t.port q).notices.length < 16 → (t.port q).notices.getLast? = some (.runState .closed))
      ∧ (¬ closes t → t.run.runState = s.run.runState) ∧ ChangesOnly others s t
    let orphaned (t : State) : Prop :=
      Answered .track .release .done
          [.code .releaseVerdict 1, .code .owner 0, byteV 0, flagV false, .code .sheetsJoined c.joined] s t
        ∧ drained t
        ∧ (¬ closes t → Happened [] [] 0 (requestBlocks .track ++ [.ready, .forming, .releaseHold]) s t)
    let diverted (r : Piece) (cause : Nat) (gains : Piece → Piece) (t : State) : Prop :=
      Answered .track .release .done
          [.code .releaseVerdict 1, .code .owner 2, triV r.id.seq, byteV r.id.reprint, byteV cause,
           flagV r.cancelPending, .code .sheetsJoined c.joined] s t
        ∧ t.run.pieces = s.run.pieces.map (fun x => if x.id = r.id then finished (gains x) else x)
        ∧ t.run.outcomes = s.run.outcomes ++ [r.id] ∧ drained t
        ∧ (¬ closes t → r.census ≠ .counted → Happened [] (if s.run.outcomes = [] then [.outcomes] else []) 0
            (requestBlocks .track ++ [.ready, .forming, .releaseHold, .pieces, .outcomes]) s t)
    (s.checker.ready = some c →
      let emptied (t : State) : Prop :=
        t.checker.ready = (if s.checker.waiting then s.checker.forming else none)
          ∧ t.checker.forming = (if s.checker.waiting then none else s.checker.forming)
          ∧ t.checker.releaseHold = .free
      (c.owner = .orphan → ∃ t, exec (.release .track) s = .next t ∧ emptied t ∧ orphaned t)
      ∧ (∀ r : Piece, c.owner = .piece r.id → s.piece? r.id = some r → r.state = .collating → PiecesDistinct s →
          (c.ended = false ∨ c.faults ≠ [] ∨ (∃ i, 1 ≤ i ∧ i ≤ r.sheets ∧ i ∉ c.accepted) ∨ r.cancelPending = true) →
        ∃ t, exec (.release .track) s = .next t ∧ emptied t
          ∧ diverted r (r.faults.head?.elim 0 Cause.number) (fun x => x) t)
      ∧ ∀ r : Piece, c.owner = .piece r.id → s.piece? r.id = some r → r.state = .collating → PiecesDistinct s →
          c.ended = true → c.faults = [] → (∀ i, 1 ≤ i → i ≤ r.sheets → i ∈ c.accepted) → r.cancelPending = false →
          s.unavailable r ≠ [] → s.profile.limits.feederPolicy = .divert →
        ∃ t, exec (.release .track) s = .next t ∧ emptied t
          ∧ diverted r 8 (Piece.addCause .feederUnavailable) t)
    ∧ (flush = true → s.checker.ready = none → s.checker.forming = some c → c.ended = false →
      let emptied (t : State) : Prop :=
        t.checker = { s.checker with forming := none, ready := none, releaseHold := .free }
      (c.owner = .orphan → ∃ t, exec (.release .track) s = .next t ∧ emptied t ∧ orphaned t)
      ∧ ∀ r : Piece, c.owner = .piece r.id → s.piece? r.id = some r → r.state = .collating → PiecesDistinct s →
        ∃ t, exec (.release .track) s = .next t ∧ emptied t
          ∧ diverted r ((r.faults.head?.getD .missingSheet).number) (Piece.addCause .missingSheet) t)

/-- A clean collation is held: HOLD(FEEDER) with the codes under feeder policy HOLD, HOLD(TRACK_FULL) with 32 entries
on the track; the release hold takes the cause, the hold output is asserted, and the collation stays (R45, R46, R48).
With nothing in the ready record, and no flush or nothing open, RELEASE is refused NOTHING_READY (R43). That the
number of codes stands before them in the answer is the model's reading (notes/assumptions/8.md), and so is that
NOTHING_READY is also the answer before the first OPEN_RUN, where R24 has WRONG_STATE (notes/assumptions/28.md). -/
def Obligations.ReleaseHoldsOrFindsNothingReady : Prop :=
  ∀ (flush : Bool) (s : State), Due .release .track (toBytes 1 (yesNo flush)) s →
    (∀ (c : Collation) (r : Piece), s.checker.ready = some c → c.owner = .piece r.id → s.piece? r.id = some r →
        c.ended = true → c.faults = [] → (∀ i, 1 ≤ i → i ≤ r.sheets → i ∈ c.accepted) → r.cancelPending = false →
      (s.unavailable r ≠ [] → s.profile.limits.feederPolicy = .hold →
        ∃ t, exec (.release .track) s = .next t
          ∧ Answered .track .release .done
              ([.code .releaseVerdict 2, .code .releaseHold 1, .code .listLength (s.unavailable r).length]
                ++ (s.unavailable r).map byteV) s t
          ∧ t.checker.releaseHold = .feeder ∧ t.pins.hold = true
          ∧ Happened [] [] 0 (requestBlocks .track ++ [.releaseHold]) s t)
      ∧ (s.unavailable r = [] → 32 ≤ s.track.entries.length →
        ∃ t, exec (.release .track) s = .next t
          ∧ Answered .track .release .done [.code .releaseVerdict 2, .code .releaseHold 2] s t
          ∧ t.checker.releaseHold = .trackFull ∧ t.pins.hold = true
          ∧ Happened [] [] 0 (requestBlocks .track ++ [.releaseHold]) s t))
    ∧ (s.checker.ready = none → (flush = false ∨ ∀ c, s.checker.forming = some c → c.ended = true) →
      ∃ t, exec (.release .track) s = .next t ∧ Answered .track .release .nothingReady [] s t
        ∧ Happened [] [] 0 (requestBlocks .track) s t)

/-- FOLDED for the oldest entry not yet folded: the stage becomes FOLDED, and panels other than the planned ones add
FOLD_MISMATCH (R103, R104). -/
def Obligations.FoldedMovesTheEntry : Prop :=
  ∀ (n : Nat) (pre post : List TrackEntry) (e : TrackEntry) (r : Piece) (s : State),
    1 ≤ n → n ≤ 4 → e.tag ≤ 63 → Due .folded .track (toBytes 1 e.tag ++ toBytes 1 n) s →
    s.track.entries = pre ++ e :: post → (∀ x ∈ pre, x.stage ≠ .released) → e.stage = .released →
    s.piece? e.piece = some r →
    ∃ t, exec (.folded .track) s = .next t
      ∧ Answered .track .folded .done [byteV r.planned.panels, byteV n, flagV (decide (n ≠ r.planned.panels))] s t
      ∧ t.track.entries = s.track.entries.map (fun x => if x.tag = e.tag then { x with stage := .folded } else x)
      ∧ t.run.pieces = s.run.pieces.map (fun x =>
          if x.id = e.piece ∧ n ≠ r.planned.panels then x.addCause .foldMismatch else x)
      ∧ Happened [] [] 0 (requestBlocks .track ++ [.entries, .pieces]) s t

/-- A stage event that does not name the oldest entry short of its stage, or names it at another stage than the
preceding one, is refused OUT_OF_ORDER: the sticky flag is set, the response names the entry the event had to name,
and nothing else changes. AT_GATE for an entry already at AT_GATE is exempt (R102, R103). EXITED, of either outcome,
that does not name the gated queue head is refused OUT_OF_ORDER with the sticky flag set; an outcome that contradicts
the gate decision is refused BAD_ARG with nothing changed (R110). PULL_RESULT for a tag of no entry at FOLDED is
refused OUT_OF_ORDER with the sticky flag set, and with no PENDING entry naming the feeder NOT_PLANNED (R88). An
argument outside its range is refused BAD_ARG before anything else, with nothing changed (R88, R103, R110; the ranges
of R104 to R107). -/
def Obligations.StationReportsOutOfOrderAreRefused : Prop :=
  (∀ (tag : Nat) (s : State), tag ≤ 63 →
    let misnamed (target before : Stage) : Prop :=
      ∀ pre e post, s.track.entries = pre ++ e :: post → (∀ x ∈ pre, target.rank ≤ x.stage.rank) →
        e.stage.rank < target.rank → e.tag ≠ tag ∨ e.stage ≠ before
    let refused (c : Instr) (k : RequestKind) (target : Stage) : Prop :=
      ∃ t, exec c s = .next t
        ∧ Answered .track k .outOfOrder (expectedEntryV (s.track.entries.find? fun x =>
            decide (x.stage.rank < target.rank))) s t
        ∧ Happened [] [] StickyFlag.outOfOrder.bit (requestBlocks .track) s t
    (∀ n, 1 ≤ n → n ≤ 4 → Due .folded .track (toBytes 1 tag ++ toBytes 1 n) s → misnamed .folded .released →
        refused (.folded .track) .folded .folded)
    ∧ (Due .enveloped .track (toBytes 1 tag) s → misnamed .enveloped .folded →
        refused (.enveloped .track) .enveloped .enveloped)
    ∧ (∀ kind m, kind ≤ 2 → Due .weighed .track (toBytes 1 tag ++ toBytes 1 kind ++ toBytes 3 m) s →
        s.profile.limits.scaleInLine = true → misnamed .weighed .enveloped →
        refused (.weighed .track) .weighed .weighed)
    ∧ (Due .atGate .track (toBytes 1 tag) s →
        misnamed .atGate (if s.profile.limits.scaleInLine then .weighed else .enveloped) →
        (∀ e, s.entry? tag = some e → e.stage ≠ .atGate) →
        refused (.atGate .track) .atGate .atGate))
    ∧ (∀ (tag : Nat) (s : State), tag ≤ 63 →
    (∀ pl : List Byte, pl = [0, 0] ∨ (∃ b ∈ binNumbers, pl = [1] ++ toBytes 1 b) →
        Due .exited .track (toBytes 1 tag ++ pl) s →
        (∀ e es, s.track.entries = e :: es → e.tag ≠ tag ∨ e.stage ≠ .gated) →
      ∃ t, exec (.exited .track) s = .next t
        ∧ Answered .track .exited .outOfOrder (expectedEntryV s.track.entries.head?) s t
        ∧ Happened [] [] StickyFlag.outOfOrder.bit (requestBlocks .track) s t)
    ∧ ∀ (b : Nat) (e : TrackEntry) (es : List TrackEntry) (d : GateDecision), b ∈ binNumbers →
        Due .exited .track (toBytes 1 tag ++ [1] ++ toBytes 1 b) s → s.track.entries = e :: es → e.tag = tag →
        e.stage = .gated → e.decision = some d → d ≠ .bin b →
      ∃ t, exec (.exited .track) s = .next t ∧ Answered .track .exited .badArg [] s t
        ∧ Happened [] [] 0 (requestBlocks .track) s t)
    ∧ (∀ (tag k res : Nat) (s : State), tag ≤ 63 → 1 ≤ k → k ≤ 8 → 1 ≤ res → res ≤ 4 →
        Due .pullResult .track (toBytes 1 tag ++ toBytes 1 k ++ toBytes 1 res) s →
      ((∀ e, s.entry? tag = some e → e.stage ≠ .folded) →
        ∃ t, exec (.pullResult .track) s = .next t ∧ Answered .track .pullResult .outOfOrder [] s t
          ∧ Happened [] [] StickyFlag.outOfOrder.bit (requestBlocks .track) s t)
      ∧ ∀ (e : TrackEntry) (r : Piece), s.entry? tag = some e → e.stage = .folded → s.piece? e.piece = some r →
          (∀ x ∈ r.pulls, x.feeder = k → x.result ≠ .pending) →
        ∃ t, exec (.pullResult .track) s = .next t ∧ Answered .track .pullResult .notPlanned [] s t
          ∧ Happened [] [] 0 (requestBlocks .track) s t)
    ∧ ∀ (k : RequestKind) (pl : List Byte) (s : State), Due k .track pl s →
      (k = .folded ∧ (63 < byteAt pl 0 ∨ byteAt pl 1 = 0 ∨ 4 < byteAt pl 1)
        ∨ k = .pullResult ∧ (63 < byteAt pl 0 ∨ byteAt pl 1 = 0 ∨ 8 < byteAt pl 1 ∨ byteAt pl 2 = 0 ∨ 4 < byteAt pl 2)
        ∨ (k = .enveloped ∨ k = .atGate) ∧ 63 < byteAt pl 0
        ∨ k = .weighed ∧ (63 < byteAt pl 0 ∨ 2 < byteAt pl 1)
        ∨ k = .exited ∧ (63 < byteAt pl 0 ∨ 1 < byteAt pl 1
            ∨ byteAt pl 1 = 1 ∧ (byteAt pl 2 = 0 ∨ 6 < byteAt pl 2))) →
      ∃ t, exec (k.command .track) s = .next t ∧ Answered .track k .badArg [] s t
        ∧ Happened [] [] 0 (requestBlocks .track) s t

/-- TAKEN and DOUBLE: the PENDING entry takes the result, the taken count rises by 1 or 2 up to 16,777,215, the miss
run becomes 0, and DOUBLE adds DOUBLE_INSERT; a miss run not 0 before derives the state again, and a change of state
sends FEEDER_STATE and may lift a FEEDER hold; nothing else changes (R48, R81, R82, R84, R88, R89, R93). That a cause
the record already held is not named again among the causes added, and that these are sent as a fault set, are the
model's choices (notes/assumptions/30.md). -/
def Obligations.PullResultTakenCountsTheInsert : Prop :=
  ∀ (double : Bool) (k : Nat) (e : TrackEntry) (x : PullEntry) (r : Piece) (s : State),
    1 ≤ k → k ≤ 8 → e.tag ≤ 63 →
    Due .pullResult .track (toBytes 1 e.tag ++ toBytes 1 k ++ toBytes 1 (if double then 2 else 1)) s →
    s.entry? e.tag = some e → e.stage = .folded → s.piece? e.piece = some r → r.state = .onTrack →
    x ∈ r.pulls → x.feeder = k → x.result = .pending →
    ∃ t, exec (.pullResult .track) s = .next t
      ∧ Answered .track .pullResult .done
          [byteV k, byteV (if double then 2 else 1), byteV 0, byteV (t.feeder k).state.code, .code .pullAction 0,
           faultsV (if double ∧ Cause.doubleInsert ∉ r.faults then [.doubleInsert] else [])] s t
      ∧ t.feeder k = { s.feeder k with
          takenCount := min ((s.feeder k).takenCount + if double then 2 else 1) 16777215
          missRun := 0
          state := if (s.feeder k).missRun = 0 then (s.feeder k).state else t.derivedFeederState k }
      ∧ (∀ j ∈ feederNumbers, j ≠ k → t.feeder j = s.feeder j)
      ∧ t.run.pieces = s.run.pieces.map (fun y => if y.id = e.piece then
          let z := { y with pulls := y.pulls.map fun p => if p.feeder = k ∧ p.result = .pending then
            { p with result := if double then .double else .taken } else p }
          if double then z.addCause .doubleInsert else z else y)
      ∧ ((s.feeder k).missRun = 0 → Happened [] [] 0 (requestBlocks .track ++ [.feeders, .pieces]) s t)
      ∧ t.checker.releaseHold = holdAfter (feederLifts k s t) s
      ∧ Happened (feederNotices k s t ++ holdNotices (feederLifts k s t)) (feederNotices k s t) 0
          (requestBlocks .track ++ [.feeders, .pieces, .releaseHold]) s t

/-- MISS and PASSED: the PENDING entry takes the result, MISS raises the miss run up to 3 and derives the state again,
and the substitution search after the feeder adds a SUBSTITUTE entry for the lowest-numbered usable feeder beyond it
that carries the code and stands in no entry; with none, a required code adds MISSING_INSERT and an optional one joins
the skipped codes (R90 to R93). A change of the feeder's state sends FEEDER_STATE and may lift a FEEDER hold; nothing
else changes (R48, R81, R82). That a cause the record already held is not named again, and that the causes added are
sent as a fault set, are the model's choices (notes/assumptions/30.md). -/
def Obligations.PullResultMissedSearchesASubstitute : Prop :=
  ∀ (miss : Bool) (k : Nat) (e : TrackEntry) (x : PullEntry) (r : Piece) (s : State),
    1 ≤ k → k ≤ 8 → e.tag ≤ 63 →
    Due .pullResult .track (toBytes 1 e.tag ++ toBytes 1 k ++ toBytes 1 (if miss then 3 else 4)) s →
    s.entry? e.tag = some e → e.stage = .folded → s.piece? e.piece = some r → r.state = .onTrack → PiecesDistinct s →
    r.pulls.filter (fun p => p.feeder == k) = [x] → x.result = .pending → x.code ≠ 0 →
    let set : List PullEntry := r.pulls.map fun p =>
      if p.feeder = k then { p with result := if miss then .miss else .passed } else p
    ∃ t, exec (.pullResult .track) s = .next t
      ∧ t.feeder k = (if miss then { s.feeder k with
          missRun := min ((s.feeder k).missRun + 1) 3, state := t.derivedFeederState k } else s.feeder k)
      ∧ (∀ j ∈ feederNumbers, j ≠ k → t.feeder j = s.feeder j)
      ∧ (let able (j : Nat) : Prop := j ∈ feederNumbers ∧ k < j ∧ (t.feeder j).state ∈ [.ready, .low]
            ∧ (s.profile.feeder j).code = x.code ∧ ∀ p ∈ r.pulls, p.feeder ≠ j
          let rest : List Value := [byteV k, byteV (if miss then 3 else 4), byteV (t.feeder k).missRun,
            byteV (t.feeder k).state.code]
          (∀ j, able j → (∀ i < j, ¬ able i) →
            t.run.pieces = s.run.pieces.map (fun y => if y.id = e.piece then
              { r with pulls := set ++ [⟨j, x.code, .pending, .substitute⟩] } else y)
            ∧ Answered .track .pullResult .done (rest ++ [.code .pullAction 1, byteV j, faultsV []]) s t)
          ∧ ((∀ j, ¬ able j) → (∃ i ∈ r.inserts, i.code = x.code ∧ i.required = true) →
            t.run.pieces = s.run.pieces.map (fun y => if y.id = e.piece then
              { r with
                pulls := set
                faults := if Cause.missingInsert ∈ r.faults then r.faults else r.faults ++ [.missingInsert] } else y)
            ∧ Answered .track .pullResult .done (rest ++ [.code .pullAction 2, byteV x.code,
                faultsV (if Cause.missingInsert ∈ r.faults then [] else [.missingInsert])]) s t)
          ∧ ((∀ j, ¬ able j) → (∀ i ∈ r.inserts, i.code = x.code → i.required = false) →
            t.run.pieces = s.run.pieces.map (fun y => if y.id = e.piece then
              { r with
                pulls := set
                skipped := if x.code ∈ r.skipped then r.skipped else r.skipped ++ [x.code] } else y)
            ∧ Answered .track .pullResult .done (rest ++ [.code .pullAction 3, byteV x.code, faultsV []]) s t))
      ∧ t.checker.releaseHold = holdAfter (feederLifts k s t) s
      ∧ Happened (feederNotices k s t ++ holdNotices (feederLifts k s t)) (feederNotices k s t) 0
          (requestBlocks .track ++ [.feeders, .pieces, .releaseHold]) s t

/-- ENVELOPED for the oldest entry not yet enveloped: the stage becomes ENVELOPED, PENDING pulls become PASSED, the
expected make-up is computed over TAKEN once and DOUBLE twice, the band is that of the expected mass, undelivered
required codes add MISSING_INSERT, undelivered optional ones are skipped, and OVER_MASS and OVER_THICK are added above
the ceiling and the throat limit; the answer names the feeders passed, the codes missing and those skipped, then the
expected values, the band and the causes added by the recomputation (R66, R96, R103, R105). That the answer gives each
list behind its number, names no cause already held, sends the causes added as a fault set, and names the feeders
passed in pull-list order, are the model's reading and choices (notes/assumptions/8.md, notes/assumptions/30.md,
notes/assumptions/33.md). -/
def Obligations.EnvelopedClosesOutAndRecomputes : Prop :=
  ∀ (pre post : List TrackEntry) (e : TrackEntry) (r : Piece) (s : State),
    e.tag ≤ 63 → Due .enveloped .track (toBytes 1 e.tag) s →
    s.track.entries = pre ++ e :: post → (∀ x ∈ pre, Stage.enveloped.rank ≤ x.stage.rank) → e.stage = .folded →
    s.piece? e.piece = some r → r.state = .onTrack → PiecesDistinct s →
    let pulls := r.pulls.map fun p => if p.result = .pending then { p with result := .passed } else p
    let delivered (c : Nat) : Prop := ∃ p ∈ r.pulls, p.code = c ∧ (p.result = .taken ∨ p.result = .double)
    let counted : List (Nat × Nat) := r.pulls.flatMap fun p => match p.result with
      | .taken => [s.profile.insertValues p.feeder]
      | .double => [s.profile.insertValues p.feeder, s.profile.insertValues p.feeder]
      | .pending | .miss | .passed => []
    let mass := makeUpMass r.sheets (nth s.sheetMass r.stock) counted s.profile.envelope
    let thickness := makeUpThickness r.sheets (nth s.profile.stocks r.stock).caliper r.planned.panels counted
      s.profile.envelope
    let passed := (r.pulls.filter fun p => p.result = .pending).map PullEntry.feeder
    let missing := (r.inserts.filter fun i => i.required = true ∧ ¬ delivered i.code).map InsertEntry.code
    let skips := (r.inserts.filter fun i => i.required = false ∧ ¬ delivered i.code ∧ i.code ∉ r.skipped).map
      InsertEntry.code
    let add (c : Cause) (b : Bool) (q : List Cause) : List Cause := if b && !q.contains c then q ++ [c] else q
    let closed := add .missingInsert (!missing.isEmpty) r.faults
    let faults := add .overThick (decide (s.profile.envelope.throat < thickness))
      (add .overMass (decide (s.profile.limits.massCeiling < mass)) closed)
    let listed (xs : List Nat) : List Value := .code .listLength xs.length :: xs.map byteV
    ∃ t, exec (.enveloped .track) s = .next t
      ∧ Answered .track .enveloped .done
          (listed passed ++ listed missing ++ listed skips
            ++ [triV mass, wordV thickness, byteV (bandOf s.profile.bands mass),
              faultsV (faults.filter fun c => !closed.contains c)]) s t
      ∧ t.track.entries = s.track.entries.map (fun x => if x.tag = e.tag then { x with stage := .enveloped } else x)
      ∧ t.run.pieces = s.run.pieces.map (fun x => if x.id = e.piece then { r with
          pulls := pulls, expected := some (mass, thickness), band := some (bandOf s.profile.bands mass)
          faults := faults, skipped := r.skipped ++ skips } else x)
      ∧ Happened [] [] 0 (requestBlocks .track ++ [.entries, .pieces]) s t

/-- WEIGHED for the oldest entry not yet weighed, with the scale in line: a mass of at most 1,048,575 mg is written,
agrees when it lies within the tolerance, adds WEIGHT_MISMATCH otherwise and OVER_MASS above the ceiling, and selects
the band; a higher reading and OVERRANGE add WEIGHT_MISMATCH; NO_WEIGHT adds UNWEIGHED when weighing is required (R67
to R70, R103, R106). With the scale not in line, WEIGHED is refused WRONG_STATE and the sticky flag OUT_OF_ORDER is
not set (R103, R106). That the causes added, as the answer lists them, leave out a cause the record already held,
OVER_MASS among them, and that they are sent as a fault set, are the model's choices (notes/assumptions/30.md). -/
def Obligations.WeighedIsJudgedWithTheScaleInLine : Prop :=
  (∀ (kind m : Nat) (pre post : List TrackEntry) (e : TrackEntry) (r : Piece) (x th : Nat) (s : State),
    kind ≤ 2 → m ≤ 16777215 → e.tag ≤ 63 →
    Due .weighed .track (toBytes 1 e.tag ++ toBytes 1 kind ++ toBytes 3 m) s →
    s.profile.limits.scaleInLine = true →
    s.track.entries = pre ++ e :: post → (∀ y ∈ pre, Stage.weighed.rank ≤ y.stage.rank) → e.stage = .enveloped →
    s.piece? e.piece = some r → r.state = .onTrack → PiecesDistinct s → r.expected = some (x, th) →
    let l := s.profile.limits
    let tolerance := max l.toleranceFloor ((2 * x * l.tolerancePermille + 1000) / 2000)
    let agrees : Prop := m ≤ x + tolerance ∧ x ≤ m + tolerance
    let add (c : Cause) (q : List Cause) : List Cause := if c ∈ q then q else q ++ [c]
    let result (r' : Piece) (w : Nat) : Prop :=
      ∃ t, exec (.weighed .track) s = .next t
        ∧ t.track.entries = s.track.entries.map (fun y => if y.tag = e.tag then { y with stage := .weighed } else y)
        ∧ t.run.pieces = s.run.pieces.map (fun y => if y.id = e.piece then r' else y)
        ∧ Answered .track .weighed .done
            [.code .weighResult w, .code .tolerance tolerance, triV (r'.measured.getD (r'.expected.elim 0 Prod.fst)),
             byteV (r'.band.getD 0), faultsV (r'.faults.filter fun c => !r.faults.contains c)] s t
        ∧ Happened [] [] 0 (requestBlocks .track ++ [.entries, .pieces]) s t
    (kind = 0 → m ≤ 1048575 → agrees →
        result { r with
          measured := some m, band := some (bandOf s.profile.bands m)
          faults := if l.massCeiling < m then add .overMass r.faults else r.faults } 0)
    ∧ (kind = 0 → m ≤ 1048575 → ¬ agrees →
        result { r with
          measured := some m, band := some (bandOf s.profile.bands m)
          faults := if l.massCeiling < m then add .overMass (add .weightMismatch r.faults)
            else add .weightMismatch r.faults } 1)
    ∧ ((kind = 0 ∧ 1048575 < m) ∨ kind = 1 → result { r with faults := add .weightMismatch r.faults } 1)
    ∧ (kind = 2 → l.weighRequired = true → result { r with faults := add .unweighed r.faults } 2)
    ∧ (kind = 2 → l.weighRequired = false → result r 3))
    ∧ (∀ (tag kind m : Nat) (s : State), tag ≤ 63 → kind ≤ 2 → s.profile.limits.scaleInLine = false →
    Due .weighed .track (toBytes 1 tag ++ toBytes 1 kind ++ toBytes 3 m) s →
    ∃ t, exec (.weighed .track) s = .next t ∧ Answered .track .weighed .wrongState [] s t
      ∧ Happened [] [] 0 (requestBlocks .track) s t)

/-- AT_GATE for the oldest entry not yet at the gate, and AT_GATE repeated for a stalled entry: behind an entry not
gated an arrival waits (WAIT); otherwise a faulted or cancel-pending piece is decided DIVERT, and a piece whose group
has an OPEN tray that it fits takes a reservation there and BIN(b), the tray going CLOSING with FULL_COUNT, and its
bin FULL_WAIT, when this fills it (R103, R107, R108, R146, R148, R150, R155). What the level answer of a decided piece
records in the census, and CENSUS_FULL, stand (R132, R133). A repeat for an entry that waits changes nothing, and one
whose re-evaluation stalls again nothing but what its level answer recorded in the census, CENSUS_FULL among it, which
stands (R108, R132, R147, R152; that R152 leaves room for this is the model's reading, notes/assumptions/16.md). When
a repeat gates the stalled entry, the entries that wait behind it are decided in turn, with GATE_GO to the track port,
up to one that does not wait at the gate or that stalls with BIN_WAIT (R109). -/
def Obligations.AtGateDecidesTheOldestEntry : Prop :=
  ∀ (pre post : List TrackEntry) (e : TrackEntry) (r : Piece) (s : State),
    e.tag ≤ 63 → Due .atGate .track (toBytes 1 e.tag) s → TrackBounded s →
    s.track.entries = pre ++ e :: post → s.piece? e.piece = some r →
    let arrives : Prop := e.stage = (if s.profile.limits.scaleInLine then .weighed else .enveloped)
      ∧ e.stalled = false ∧ ∀ x ∈ pre, Stage.atGate.rank ≤ x.stage.rank
    let repeats : Prop := e.stage = .atGate ∧ e.stalled = true ∧ ∃ g, s.bins.stall = some ⟨e.tag, g⟩
    let decides : Prop := arrives ∧ (∀ x ∈ pre, x.stage = .gated) ∨ repeats
    let faulty (x : Piece) : Prop := x.faults ≠ [] ∨ x.cancelPending = true
    let gated (d : GateDecision) (x : TrackEntry) : TrackEntry :=
      { x with stage := .gated, stalled := false, decision := some d }
    let stall : Option Stall := if e.stalled then none else s.bins.stall
    (arrives → (∃ x ∈ pre, x.stage ≠ .gated) →
      ∃ t, exec (.atGate .track) s = .next t ∧ Answered .track .atGate .done [.code .gateVerdict 1] s t
        ∧ t.track.entries = pre ++ { e with stage := .atGate } :: post
        ∧ Happened [] [] 0 (requestBlocks .track ++ [.entries]) s t)
    ∧ (e.stage = .atGate → e.stalled = false →
      ∃ t, exec (.atGate .track) s = .next t ∧ Answered .track .atGate .done [.code .gateVerdict 1] s t
        ∧ Happened [] [] 0 (requestBlocks .track) s t)
    ∧ (decides → (∀ x ∈ post, x.stage ≠ .atGate) → faulty r →
      ∃ t, exec (.atGate .track) s = .next t ∧ Answered .track .atGate .done [byteV 0] s t
        ∧ t.track.entries = pre ++ gated .divert e :: post ∧ t.bins.stall = stall
        ∧ Happened [] [] 0 (requestBlocks .track ++ [.entries, .stall]) s t)
    ∧ (∀ (g : TrayGroup) (b : Nat) (y : Tray), decides → (∀ x ∈ post, x.stage ≠ .atGate) → ¬ faulty r →
        (s.levelAnswer r).2 = g → b ∈ binNumbers → (s.bin b).tray = some y → y.group = g → y.state = .opened →
        (∀ j ∈ binNumbers, ∀ z, (s.bin j).tray = some z → z.group = g → z.state = .opened → j = b) →
        y.count + y.reserved + 1 ≤ s.profile.sort.trayPieceLimit →
        y.mass + y.reservedMass + r.finalMass ≤ s.profile.sort.trayMassLimit →
      let fills : Bool := decide (y.count + y.reserved + 1 = s.profile.sort.trayPieceLimit)
      let y' : Tray := { y with reserved := y.reserved + 1, reservedMass := y.reservedMass + r.finalMass }
      let notices : List Notice := if fills then (s.bin b).closingNotices b y else []
      let asked := (s.levelAnswer r).1
      ∃ t, exec (.atGate .track) s = .next t ∧ Answered .track .atGate .done [byteV b] s t
        ∧ t.track.entries = pre ++ gated (.bin b) e :: post ∧ t.bins.stall = stall
        ∧ t.bin b = (if fills then (s.bin b).closing .fullCount y' else ⟨(s.bin b).state, some y'⟩)
        ∧ (∀ j ∈ binNumbers, j ≠ b → t.bin j = s.bin j)
        ∧ t.bins.reservations = s.bins.reservations ++ [⟨e.tag, y.id, r.finalMass⟩]
        ∧ t.census = asked.census
        ∧ Happened notices notices asked.flags
            (requestBlocks .track ++ [.entries, .bins, .reservations, .stall, .census]) s t)
    ∧ (∀ g : TrayGroup, repeats → ¬ faulty r → (s.levelAnswer r).2 = g →
        (∀ j ∈ binNumbers, ∀ z, (s.bin j).tray = some z → z.group = g → z.state = .opened → 0 < z.reserved
          ∧ (s.profile.sort.trayPieceLimit < z.count + z.reserved + 1
            ∨ s.profile.sort.trayMassLimit < z.mass + z.reservedMass + r.finalMass)) →
        (∀ j ∈ binNumbers, (s.bin j).state = .free → s.profile.dedicatedSlot j ≠ match g with
          | .rule k => some k
          | .fine _ | .area _ | .mixed => none) →
      let asked := (s.levelAnswer r).1
      ∃ t, exec (.atGate .track) s = .next t ∧ Answered .track .atGate .done [.code .gateVerdict 0] s t
        ∧ t.census = asked.census ∧ Happened [] [] asked.flags (requestBlocks .track ++ [.census]) s t)
    ∧ ∀ run rest : List TrackEntry, repeats → faulty r → post = run ++ rest →
        (∀ x ∈ run, x.stage = .atGate ∧ x.stalled = false ∧ ∃ y, s.piece? x.piece = some y ∧ faulty y) →
      let gos : List Notice := run.map fun x => .gateGo x.tag .divert
      let results (tail : List TrackEntry) (track plan : List Notice) (fl : FlagSet) (bs : List Block) (t : State) : Prop :=
        exec (.atGate .track) s = .next t ∧ Answered .track .atGate .done [byteV 0] s t
          ∧ t.track.entries = pre ++ (e :: run).map (gated .divert) ++ tail
          ∧ Happened (gos ++ track) plan fl (requestBlocks .track ++ [.entries, .stall] ++ bs) s t
      ((∀ x, rest.head? = some x → x.stage ≠ .atGate) →
        ∃ t, results rest [] [] 0 [] t ∧ t.bins.stall = none)
      ∧ ∀ (x : TrackEntry) (tail : List TrackEntry) (y : Piece) (g : TrayGroup), rest = x :: tail → x.stage = .atGate →
          x.stalled = false → s.piece? x.piece = some y → ¬ faulty y → (s.levelAnswer y).2 = g →
        let asked := (s.levelAnswer y).1
        ((∀ j ∈ binNumbers, ∀ z, (s.bin j).tray = some z → z.group = g → z.state ≠ .opened) →
            (∀ j ∈ binNumbers, (s.bin j).state = .free → s.profile.dedicatedSlot j ≠ match g with
              | .rule k => some k
              | .fine _ | .area _ | .mixed => none) →
          let dedicated : Option (Nat × BinState) := match g with
            | .rule k => (binNumbers.find? fun j => s.profile.dedicatedSlot j = some k).map fun j => (j, (s.bin j).state)
            | .fine _ | .area _ | .mixed => none
          let wait : Notice := .binWait x.tag g dedicated
          ∃ t, results ({ x with stalled := true } :: tail) [wait] [wait] asked.flags [.census] t
            ∧ t.bins.stall = some ⟨x.tag, g⟩ ∧ t.pins.hold = true ∧ t.census = asked.census)
        ∧ ∀ (b : Nat) (z : Tray), (∀ w, tail.head? = some w → w.stage ≠ .atGate) → b ∈ binNumbers →
            (s.bin b).tray = some z → z.group = g → z.state = .opened →
            (∀ j ∈ binNumbers, ∀ z', (s.bin j).tray = some z' → z'.group = g → z'.state = .opened → j = b) →
            z.count + z.reserved + 1 < s.profile.sort.trayPieceLimit →
            z.mass + z.reservedMass + y.finalMass ≤ s.profile.sort.trayMassLimit →
          ∃ t, results (gated (.bin b) x :: tail) [.gateGo x.tag (.bin b)] [] asked.flags
              [.bins, .reservations, .census] t
            ∧ t.bins.stall = none ∧ t.census = asked.census
            ∧ t.bin b = ⟨(s.bin b).state,
                some { z with reserved := z.reserved + 1, reservedMass := z.reservedMass + y.finalMass }⟩
            ∧ (∀ j ∈ binNumbers, j ≠ b → t.bin j = s.bin j)
            ∧ t.bins.reservations = s.bins.reservations ++ [⟨x.tag, z.id, y.finalMass⟩]

/-- A piece of a group with no OPEN tray opens one at the gate in the bin R149 chooses: the next tray id, the held run
number, the continuation number one above the highest of the same run, level and group still held, BIN_STATE(OPEN) to
both ports, and the reservation, which with a tray piece limit of 1 closes the tray at once (R145, R149, R150). A
piece that does not fit the OPEN tray of its group makes that tray CLOSING, with FULL_COUNT or FULL_MASS, and its bin
FULL_WAIT, before a bin is chosen (R148, R155). When no such bin is FREE an arriving entry stalls, with BIN_WAIT to
both ports and the hold output asserted (R151). AT_GATE repeated for a stalled entry decides in the same way and ends
the stall (R108). What the level answer records in the census, and CENSUS_FULL, stand in every case (R132, R133). -/
def Obligations.AtGateOpensATrayOrStalls : Prop :=
  ∀ (pre post : List TrackEntry) (e : TrackEntry) (r : Piece) (g : TrayGroup) (s : State),
    e.tag ≤ 63 → Due .atGate .track (toBytes 1 e.tag) s → TrackBounded s →
    s.track.entries = pre ++ e :: post → (∀ x ∈ pre, x.stage = .gated) →
    (e.stage = (if s.profile.limits.scaleInLine then .weighed else .enveloped) ∧ e.stalled = false
      ∨ e.stage = .atGate ∧ e.stalled = true ∧ ∃ g', s.bins.stall = some ⟨e.tag, g'⟩) →
    (∀ x ∈ post, x.stage ≠ .atGate) → s.piece? e.piece = some r → r.faults = [] →
    r.cancelPending = false → (s.levelAnswer r).2 = g →
    let kind (b : Nat) : Prop := s.profile.dedicatedSlot b = match g with
      | .rule k => some k
      | .fine _ | .area _ | .mixed => none
    let asked := (s.levelAnswer r).1
    let l := s.profile.sort
    let id := s.bins.trayCounter
    let fresh (b : Nat) : Tray :=
      ⟨id, s.run.runNumber, g, s.nextContinuation g, b, .opened, 0, 1, 0, r.finalMass, Vector.replicate 8 0, none, none,
        none⟩
    let opens (b : Nat) (closing : List Notice) (others : Nat → Bin) : Prop :=
      let notices : List Notice := closing ++ [.binState b .opened (some id)]
        ++ if l.trayPieceLimit = 1 then [.binState b .fullWait (some id)] else []
      ∃ t, exec (.atGate .track) s = .next t ∧ Answered .track .atGate .done [byteV b] s t
        ∧ t.track.entries = pre ++ { e with stage := .gated, stalled := false, decision := some (.bin b) } :: post
        ∧ t.bin b = (if l.trayPieceLimit = 1 then (⟨.opened, none⟩ : Bin).closing .fullCount (fresh b)
            else ⟨.opened, some (fresh b)⟩)
        ∧ (∀ j ∈ binNumbers, j ≠ b → t.bin j = others j)
        ∧ t.bins.trayCounter = (if id = 65535 then 1 else id + 1)
        ∧ t.bins.reservations = s.bins.reservations ++ [⟨e.tag, id, r.finalMass⟩]
        ∧ t.bins.stall = (if e.stalled then none else s.bins.stall)
        ∧ t.census = asked.census
        ∧ Happened notices notices asked.flags
            (requestBlocks .track ++ [.entries, .bins, .trayCounter, .reservations, .stall, .census]) s t
    let stalls (closing : List Notice) (others : Nat → Bin) : Prop :=
      let dedicated : Option (Nat × BinState) := match g with
        | .rule k => (binNumbers.find? fun j => s.profile.dedicatedSlot j = some k).map fun j => (j, (others j).state)
        | .fine _ | .area _ | .mixed => none
      ∃ t, exec (.atGate .track) s = .next t ∧ Answered .track .atGate .done [.code .gateVerdict 0] s t
        ∧ t.track.entries = pre ++ { e with stage := .atGate, stalled := true } :: post
        ∧ t.bins.stall = some ⟨e.tag, g⟩ ∧ t.pins.hold = true ∧ (∀ j ∈ binNumbers, t.bin j = others j)
        ∧ Happened (closing ++ [.binWait e.tag g dedicated]) (closing ++ [.binWait e.tag g dedicated])
            asked.flags (requestBlocks .track ++ [.entries, .bins, .stall, .census]) s t
        ∧ t.census = asked.census
    ((∀ j ∈ binNumbers, ∀ z, (s.bin j).tray = some z → z.group = g → z.state ≠ .opened) →
      (∀ b, b ∈ binNumbers → kind b → (s.bin b).state = .free →
          (∀ j ∈ binNumbers, j < b → kind j → (s.bin j).state ≠ .free) → opens b [] s.bin)
      ∧ (e.stalled = false → (∀ b ∈ binNumbers, kind b → (s.bin b).state ≠ .free) → stalls [] s.bin))
    ∧ (∀ (c : Nat) (y : Tray), c ∈ binNumbers → (s.bin c).tray = some y → y.group = g → y.state = .opened →
        (∀ j ∈ binNumbers, ∀ z, (s.bin j).tray = some z → z.group = g → z.state = .opened → j = c) → 0 < y.reserved →
        (l.trayPieceLimit < y.count + y.reserved + 1 ∨ l.trayMassLimit < y.mass + y.reservedMass + r.finalMass) →
      let reason : CloseReason := if l.trayPieceLimit < y.count + y.reserved + 1 then .fullCount else .fullMass
      let others (j : Nat) : Bin := if j = c then (s.bin c).closing reason y else s.bin j
      (∀ b, b ∈ binNumbers → b ≠ c → kind b → (s.bin b).state = .free →
          (∀ j ∈ binNumbers, j < b → j ≠ c → kind j → (s.bin j).state ≠ .free) →
          opens b ((s.bin c).closingNotices c y) others)
      ∧ (e.stalled = false → (∀ b ∈ binNumbers, b ≠ c → kind b → (s.bin b).state ≠ .free) →
          stalls ((s.bin c).closingNotices c y) others))
    ∧ ∀ n : Nat,
      let same (z : Tray) : Prop := ((∃ b ∈ binNumbers, (s.bin b).tray = some z) ∨ z ∈ s.bins.closedTrays)
        ∧ z.run = s.run.runNumber ∧ z.group = g
      n < 65535 → (∀ z, same z → z.continuation ≤ n) → (n = 0 ∨ ∃ z, same z ∧ z.continuation = n) →
        s.nextContinuation g = n + 1

/-- EXITED of the gated queue head: the entry leaves the queue; after DIVERT, and after BIN(b) reported DIVERTED, the
record finishes DIVERTED or CANCELLED, the latter with GATE_JAM; after BIN(b) the record takes the tray and bin of its
reservation and finishes BINNED or CANCELLED; the reservation is gone (R19, R110, R111, R153, R154). A TRACK_FULL hold
is lifted (R48, R112). A reservation released by DIVERTED after BIN(b) lowers the reserved count and mass of its tray
and leaves the counted side alone, an OPEN tray staying OPEN; when it was the last place of a CLOSING tray, the tray
becomes CLOSED (R154): it is delivered at once, with TRAY_CLOSED to the plan port and its bin FREE when the release
test allows it, or with the closed-tray list full waits in its bin with TRAY_LIST_FULL set (R143, R156, R157). This is
said for a finishing that ends no group. A DRAINING run whose two collation records and track are then empty is
CLOSED, its census empty and RUN_STATE(CLOSED) the last notice to both ports (R4; notes/assumptions/14.md). -/
def Obligations.ExitedFinishesTheQueueHead : Prop :=
  ∀ (b : Nat) (e : TrackEntry) (es : List TrackEntry) (r : Piece) (s : State),
    e.tag ≤ 63 → s.track.entries = e :: es → TrackBounded s → e.stage = .gated → s.piece? e.piece = some r →
    r.state = .onTrack → PiecesDistinct s →
    let finished (d : Disposition) (x : Piece) : Piece :=
      { x with state := .finished, disposition := some (if x.cancelPending then .cancelled else d), tag := none }
    let closes : Prop :=
      s.run.runState = .draining ∧ s.checker.forming = none ∧ s.checker.ready = none ∧ es = []
    let left (t : State) : Prop := t.run.outcomes = s.run.outcomes ++ [e.piece]
      ∧ t.checker.releaseHold = (if s.checker.releaseHold = .trackFull then .free else s.checker.releaseHold)
      ∧ (closes → t.run.runState = .closed ∧ t.census = []
          ∧ ∀ q, (t.port q).notices.length < 16 → (t.port q).notices.getLast? = some (.runState .closed))
      ∧ (¬ closes → t.run.runState = s.run.runState)
      ∧ ChangesOnly (requestBlocks .track ++ [.runState, .entries, .releaseHold, .pieces, .outcomes, .census, .bins, .delivery,
          .closedTrays, .reservations, .stall, .trayCounter, .notices .track, .notices .plan, .flags, .pins]) s t
    (e.decision = some .divert → Due .exited .track (toBytes 1 e.tag ++ [0, 0]) s →
      ∃ t, exec (.exited .track) s = .next t ∧ left t ∧ t.track.entries.map TrackEntry.tag = es.map TrackEntry.tag
        ∧ Answered .track .exited .done [byteV (if r.cancelPending then 3 else 2)] s t
        ∧ t.run.pieces = s.run.pieces.map (fun x => if x.id = e.piece then finished .diverted x else x))
    ∧ (e.decision = some (.bin b) → Due .exited .track (toBytes 1 e.tag ++ [0, 0]) s →
      ∃ t, exec (.exited .track) s = .next t ∧ left t ∧ t.track.entries.map TrackEntry.tag = es.map TrackEntry.tag
        ∧ Answered .track .exited .done [byteV (if r.cancelPending then 3 else 2)] s t
        ∧ t.run.pieces = s.run.pieces.map
            (fun x => if x.id = e.piece then finished .diverted (x.addCause .gateJam) else x)
        ∧ ∀ z ∈ t.bins.reservations, z.tag ≠ e.tag)
    ∧ (∀ x, b ∈ binNumbers → e.decision = some (.bin b) → s.reservation? e.tag = some x →
        Due .exited .track (toBytes 1 e.tag ++ [1] ++ toBytes 1 b) s →
      ∃ t, exec (.exited .track) s = .next t ∧ left t ∧ t.track.entries.map TrackEntry.tag = es.map TrackEntry.tag
        ∧ Answered .track .exited .done
            (if r.cancelPending then [byteV 3] else [byteV 1, wordV x.trayId]) s t
        ∧ t.run.pieces = s.run.pieces.map (fun y =>
            if y.id = e.piece then finished .binned { y with tray := some (x.trayId, b) } else y)
        ∧ ∀ z ∈ t.bins.reservations, z.tag ≠ e.tag)
    ∧ ∀ (x : Reservation) (y : Tray), b ∈ binNumbers → e.decision = some (.bin b) → ¬ closes →
        s.reservation? e.tag = some x → (s.bin b).tray = some y → y.id = x.trayId → s.FallsQuietly r →
        Due .exited .track (toBytes 1 e.tag ++ [0, 0]) s →
      let y' : Tray := { y with reserved := y.reserved - 1, reservedMass := y.reservedMass - x.mass }
      let outcomes : List Notice := if s.run.outcomes = [] then [.outcomes] else []
      let cleared : List Notice := if s.checker.releaseHold = .trackFull then [.holdCleared] else []
      let results (x' : Bin) (track plan : List Notice) (fl : FlagSet) (bs : List Block) (t : State) : Prop :=
        exec (.exited .track) s = .next t ∧ t.bin b = x' ∧ (∀ j ∈ binNumbers, j ≠ b → t.bin j = s.bin j)
          ∧ t.bins.reservations = s.bins.reservations.filter (fun z => z.tag != e.tag) ∧ t.track.entries = es
          ∧ t.census = s.censusLess r
          ∧ Happened (track ++ cleared) (plan ++ outcomes) fl (requestBlocks .track ++ [.entries, .pieces, .outcomes,
              .census, .bins, .reservations, .releaseHold] ++ bs) s t
      (y.state = .opened ∨ 2 ≤ y.reserved → ∃ t, results ⟨(s.bin b).state, some y'⟩ [] [] 0 [] t)
      ∧ (y.state = .closing → y.reserved ≤ 1 → s.OwnGroup r y.group →
        (s.bins.delivery = [] → s.bins.closedTrays.length < 64 → s.bins.stall = none →
          let free : Bool := s.frees b (s.bin b).state
          let freed : List Notice := if free then [.binState b .free none] else []
          ∃ t, results ⟨if free then .free else (s.bin b).state, none⟩ freed
              (.trayClosed y.id y.run y.bin y.reason :: freed) 0 [.closedTrays] t
            ∧ t.bins.closedTrays = s.bins.closedTrays ++ [{ y' with state := .closed }])
        ∧ (64 ≤ s.bins.closedTrays.length →
          ∃ t, results ⟨(s.bin b).state, some { y' with state := .closed }⟩ [] [] StickyFlag.trayListFull.bit
              [.delivery] t
            ∧ t.bins.delivery = s.bins.delivery ++ [b]))

/-- An exit into a bin moves the piece's place and mass from the reserved to the counted side of the tray, counts its
band, and sets the first and last sequence number (R153). A TRACK_FULL hold is lifted with HOLD_CLEARED (R48, R112).
When the finishing ends no group, no other tray changes, and the count of the piece's fine entry is lower by 1 if the
census counts it (R126); when it was the last place reserved in a CLOSING tray, the tray becomes CLOSED (R156): with
room in the closed-tray list it is delivered at once, with TRAY_CLOSED to the plan port, and its bin, when the release
test allows it, becomes FREE (R143, R157); with the list full it joins the delivery queue and waits in its bin, and
TRAY_LIST_FULL is set (R157). The last counted piece of a FINE group ends it: its OPEN tray closes with GROUP_END, its
bin FULL_WAIT, and is delivered, and the fine entry, and an area entry with no fine entry beneath it, are removed
(R127, R128, R130, R155). In every case with no entry stalled, the bins and the census are as the fall of the count,
from the tray so changed, and then the closing of a tray left with nothing reserved, leave them (R153 steps 6 and 7).
-/
def Obligations.ExitIntoABinCountsThePiece : Prop :=
  ∀ (b : Nat) (e : TrackEntry) (es : List TrackEntry) (r : Piece) (x : Reservation) (y : Tray) (k : Nat) (s : State),
    e.tag ≤ 63 → s.track.entries = e :: es → TrackBounded s → e.stage = .gated → e.decision = some (.bin b) →
    s.piece? e.piece = some r → r.state = .onTrack → r.band = some k → 1 ≤ k → k ≤ 8 →
    ¬ (s.run.runState = .draining ∧ s.checker.forming = none ∧ s.checker.ready = none ∧ es = []) →
    b ∈ binNumbers → s.reservation? e.tag = some x → (s.bin b).tray = some y → y.id = x.trayId →
    Due .exited .track (toBytes 1 e.tag ++ [1] ++ toBytes 1 b) s →
    let y' : Tray := { y with
      reserved := y.reserved - 1, count := y.count + 1
      reservedMass := y.reservedMass - x.mass, mass := y.mass + x.mass
      bandCounts := setNth y.bandCounts (k - 1) (nth y.bandCounts (k - 1) + 1)
      firstSeq := some (y.firstSeq.getD r.id.seq), lastSeq := some r.id.seq }
    let full := s.checker.releaseHold = .trackFull
    let cleared : List Notice := if full then [.holdCleared] else []
    let outcomes : List Notice := if s.run.outcomes = [] then [.outcomes] else []
    let census : List CensusEntry := s.censusLess r
    let results (x' : Bin) (track plan : List Notice) (fl : FlagSet) (bs : List Block) (t : State) : Prop :=
      exec (.exited .track) s = .next t
        ∧ t.bin b = x' ∧ (∀ j ∈ binNumbers, j ≠ b → t.bin j = s.bin j)
        ∧ t.bins.reservations = s.bins.reservations.filter (fun z => z.tag != e.tag) ∧ t.track.entries = es
        ∧ t.checker.releaseHold = (if full then .free else s.checker.releaseHold)
        ∧ Happened (track ++ cleared) (outcomes ++ plan) fl (requestBlocks .track ++ [.entries, .pieces, .outcomes, .census,
            .bins, .reservations, .releaseHold] ++ bs) s t
    (s.FallsQuietly r →
      (y.state = .opened ∨ 2 ≤ y.reserved →
        ∃ t, results ⟨(s.bin b).state, some y'⟩ [] [] 0 [] t ∧ t.census = census)
      ∧ (y.state = .closing → y.reserved ≤ 1 → s.OwnGroup r y.group →
        (s.bins.delivery = [] → s.bins.closedTrays.length < 64 → s.bins.stall = none →
          let free : Bool := s.frees b (s.bin b).state
          let freed : List Notice := if free then [.binState b .free none] else []
          ∃ t, results ⟨if free then .free else (s.bin b).state, none⟩ freed
              (.trayClosed y.id y.run y.bin y.reason :: freed) 0 [.closedTrays] t
            ∧ t.census = census ∧ t.bins.closedTrays = s.bins.closedTrays ++ [{ y' with state := .closed }])
        ∧ (64 ≤ s.bins.closedTrays.length →
          ∃ t, results ⟨(s.bin b).state, some { y' with state := .closed }⟩ [] [] StickyFlag.trayListFull.bit
              [.delivery] t
            ∧ t.census = census ∧ t.bins.delivery = s.bins.delivery ++ [b])))
    ∧ (let d := r.key.take s.profile.sort.fineLength
      let a := d.take s.profile.sort.areaLength
      r.census = .counted → findFine s.census d = some (1, .fine) →
      (∀ z ∈ s.census, z.kind.isFine = true → z.digits = d → z.kind = .fine 1 .fine) →
      y.group = .fine d → y.state = .opened → y.reserved ≤ 1 →
      (∀ j ∈ binNumbers, ∀ z, (s.bin j).tray = some z → z.group = .fine d → z.state = .opened → j = b) →
      s.bins.delivery = [] → s.bins.closedTrays.length < 64 → s.bins.stall = none →
      let st := if (s.bin b).state = .fault ∨ (s.bin b).state = .offline then (s.bin b).state else .fullWait
      let free : Bool := s.frees b st
      let freed : List Notice := if free then [.binState b .free none] else []
      let closing := (s.bin b).closingNotices b y
      let rest := s.census.filter fun z => !z.kind.isFine || z.digits != d
      let held (g : TrayGroup) : Prop :=
        ∃ j ∈ binNumbers, j ≠ b ∧ ∃ z, (s.bin j).tray = some z ∧ z.group = g ∧ z.state ≠ .closed
      let under : Prop := ∃ z ∈ rest, z.kind.isFine = true ∧ a <+: z.digits
      ∃ t, results ⟨if free then .free else st, none⟩ (closing ++ freed)
          (closing ++ .trayClosed y.id y.run y.bin (some .groupEnd) :: freed) 0 [.closedTrays] t
        ∧ t.bins.closedTrays = s.bins.closedTrays ++ [{ y' with state := .closed, reason := some .groupEnd }]
        ∧ (held (.fine d) → t.census = census)
        ∧ (¬ held (.fine d) → (under ∨ held (.area a)) → t.census = rest)
        ∧ (¬ held (.fine d) → ¬ under → ¬ held (.area a) →
            t.census = rest.filter fun z => z.kind.isFine || z.digits != a))
    ∧ (s.bins.stall = none →
      let told : State := s.onBin b fun z => { z with tray := some y' }
      let noted : State := if s.run.outcomes = [] then told.notify .plan .outcomes else told
      let after := (noted.withdraw r).closeIfEmptied b
      ∃ t, exec (.exited .track) s = .next t ∧ t.census = after.census
        ∧ t.bins = { after.bins with reservations := s.bins.reservations.filter fun z => z.tag != e.tag }
        ∧ (t.port .track).notices = pushNotices (after.port .track).notices cleared
        ∧ (t.port .plan).notices = (after.port .plan).notices
        ∧ ChangesOnly (requestBlocks .track ++ [.entries, .pieces, .outcomes, .releaseHold, .census, .bins, .delivery,
            .closedTrays, .reservations, .notices .track, .notices .plan, .flags, .pins]) s t)

/-- PURGE while the line is STOPPED: every piece on the track, in release order, and then those of the ready and the
forming record finish DIVERTED or CANCELLED with PURGED; the track queue, both collation records, the stall and the
release hold are empty; every purged entry decided BIN(b) gives up its reservation: the record is removed and the
reserved count and mass of its tray fall, an OPEN tray whose group does not end and a CLOSING tray with places left
staying as they are otherwise, and a CLOSING tray left with nothing reserved becoming CLOSED, delivered or waiting in
its bin for delivery (R114, R154, R156); the allocator position, the cursor, the orphan run count and the intake state
stay; PURGE_DONE goes to both ports with the counts of the response; and a DRAINING run is CLOSED. While the line is
RUNNING it is refused WRONG_STATE (R50, R113 to R116). -/
def Obligations.PurgeEmptiesTheLine : Prop :=
  ∀ s : State, Due .purge .track [] s →
    (s.run.lineState = .stopped →
      let owners := [s.checker.ready, s.checker.forming].filterMap fun c => c.map Collation.owner
      let collated := owners.filterMap fun o => match o with
        | .piece id => some id
        | .orphan => none
      let ids := s.track.entries.map TrackEntry.piece ++ collated
      let counts := [byteV s.track.entries.length, byteV collated.length, byteV (owners.length - collated.length)]
      PiecesDistinct s → ids.Nodup → (∀ id ∈ ids, ∃ r ∈ s.run.pieces, r.id = id ∧ r.state ≠ .finished) →
      ∃ t, exec (.purge .track) s = .next t ∧ Answered .track .purge .done counts s t
        ∧ t.track = { s.track with entries := [] }
        ∧ t.checker = { s.checker with forming := none, ready := none, releaseHold := .free }
        ∧ t.bins.stall = none ∧ t.run.outcomes = s.run.outcomes ++ ids
        ∧ t.run.pieces = s.run.pieces.map (fun x => if x.id ∈ ids then
            { x with
              state := .finished
              faults := if Cause.purged ∈ x.faults then x.faults else x.faults ++ [.purged]
              disposition := some (if x.cancelPending then .cancelled else .diverted)
              tag := none } else x)
        ∧ t.run.runState = (if s.run.runState = .draining then .closed else s.run.runState)
        ∧ (TrackBounded s → (∀ e ∈ s.track.entries, ∀ b, e.decision = some (.bin b) → b ∈ binNumbers) →
          let binned (e : TrackEntry) : Bool := binNumbers.any fun b => e.decision == some (.bin b)
          t.bins.reservations = s.bins.reservations.filter (fun z =>
              s.track.entries.all fun e => e.tag != z.tag || !binned e)
            ∧ ∀ b ∈ binNumbers, ∀ y, (s.bin b).tray = some y → (∀ j ∈ s.bins.delivery, j ∈ binNumbers ∧ j ≠ b) →
              let released : List Reservation := (s.track.entries.filter fun e => e.decision == some (.bin b)).filterMap
                fun e => (s.reservation? e.tag).filter fun x => x.trayId == y.id
              let y' : Tray := { y with
                reserved := y.reserved - released.length
                reservedMass := y.reservedMass - (released.map Reservation.mass).sum }
              let purged (x : Piece) : Bool := decide (x.id ∈ ids) && x.census == .counted
              let goesOn : Prop := s.run.runState ≠ .draining ∧ match y.group with
                | .mixed | .rule _ => True
                | .area _ => ∀ x ∈ s.run.pieces, purged x = false
                | .fine d => ∃ n l, findFine s.census d = some (n, l) ∧ (s.run.pieces.countP fun x =>
                    purged x && x.key.take s.profile.sort.fineLength == d) < n
              (y.state = .opened → goesOn → t.bin b = ⟨(s.bin b).state, some y'⟩)
              ∧ (y.state = .closing → released.length < y.reserved → t.bin b = ⟨(s.bin b).state, some y'⟩)
              ∧ (y.state = .closing → released ≠ [] → y.reserved = released.length →
                let z : Tray := { y' with state := .closed }
                z ∈ t.bins.closedTrays ∨ (t.bin b).tray = some z ∧ b ∈ t.bins.delivery))
        ∧ (∀ q, (t.port q).notices.length < 16 → (t.port q).notices.getLast? =
            some (.purgeDone s.track.entries.length collated.length (owners.length - collated.length)))
        ∧ ChangesOnly (requestBlocks .track ++ [.runState, .pieces, .outcomes, .forming, .ready, .releaseHold, .entries,
            .census, .bins, .delivery, .closedTrays, .reservations, .stall, .notices .track, .notices .plan, .flags,
            .pins]) s t)
    ∧ (s.run.lineState = .running →
      ∃ t, exec (.purge .track) s = .next t ∧ Answered .track .purge .wrongState [] s t
        ∧ Happened [] [] 0 (requestBlocks .track) s t)

/-- RESYNC naming the newest record of a sequence number, that record LOADED and no piece collating: orphans are
discarded, the LOADED records before it finish NOT_FED with SKIPPED_BY_RESYNC in load order, the cursor stands before
it, the orphan run count is 0, intake is IN_SYNC, and RESYNC_DONE, with the number named and the number of records
finished, goes to the plan port when its queue has room, the last notice there when no entry is stalled; while a piece
collates it is refused WRONG_STATE, and with no LOADED record of the number NOT_FOUND (R49). -/
def Obligations.ResyncStartsIntakeAtThePiece : Prop :=
  ∀ (n : Nat) (s : State), n ≤ 16777215 → Due .resync .track (toBytes 3 n) s →
    (∀ (pre post : List Piece) (r : Piece), s.run.pieces = pre ++ r :: post → r.id.seq = n →
        (∀ x ∈ post, x.id.seq ≠ n) → r.state = .loaded → PiecesDistinct s →
        (∀ c, s.checker.forming = some c → c.owner = .orphan) → (∀ c, s.checker.ready = some c → c.owner = .orphan) →
      let ids := (pre.filter fun x => x.state == .loaded).map Piece.id
      ∃ t, exec (.resync .track) s = .next t
        ∧ Answered .track .resync .done [wordV ids.length] s t
        ∧ t.checker = { s.checker with
            forming := none, ready := none, cursor := pre.length, orphanRun := 0, intake := .inSync }
        ∧ t.expectedPiece = some r
        ∧ t.run.pieces = s.run.pieces.map (fun x => if x.id ∈ ids then
            { x with
              state := .finished
              faults := if Cause.skippedByResync ∈ x.faults then x.faults else x.faults ++ [.skippedByResync]
              disposition := some (if x.cancelPending then .cancelled else .notFed)
              tag := none } else x)
        ∧ t.run.outcomes = s.run.outcomes ++ ids
        ∧ ((t.port .plan).notices.length < 16 → Notice.resyncDone n ids.length ∈ (t.port .plan).notices
          ∧ (s.bins.stall = none → (t.port .plan).notices.getLast? = some (.resyncDone n ids.length)))
        ∧ (ids = [] → Happened [] [.resyncDone n 0] 0
            (requestBlocks .track ++ [.forming, .ready, .cursor, .orphanRun, .intakeState]) s t)
        ∧ ChangesOnly (requestBlocks .track ++ [.forming, .ready, .cursor, .orphanRun, .intakeState, .pieces, .outcomes,
            .census, .bins, .delivery, .closedTrays, .reservations, .stall, .trayCounter, .entries, .notices .track,
            .notices .plan, .flags, .pins]) s t)
    ∧ ((∃ c, (s.checker.forming = some c ∨ s.checker.ready = some c) ∧ c.owner ≠ .orphan) →
      ∃ t, exec (.resync .track) s = .next t ∧ Answered .track .resync .wrongState [] s t
        ∧ Happened [] [] 0 (requestBlocks .track) s t)
    ∧ ((∀ c, s.checker.forming = some c → c.owner = .orphan) → (∀ c, s.checker.ready = some c → c.owner = .orphan) →
        (∀ r ∈ s.run.pieces, r.id.seq = n → r.state ≠ .loaded) →
      ∃ t, exec (.resync .track) s = .next t ∧ Answered .track .resync .notFound [] s t
        ∧ Happened [] [] 0 (requestBlocks .track) s t)

/-! ### Requests of the plan port -/

/-- CLOSE_RUN in OPEN: every LOADED record finishes NOT_FED with RUN_CLOSED, in load order, and the run becomes CLOSED
when both collation records and the track queue are empty and DRAINING otherwise; in DRAINING and CLOSED it is refused
WRONG_STATE (R3, R4, R19). That RUN_STATE(CLOSED) is the last notice, behind those of the closing trays, is the
model's reading of R4 (notes/assumptions/14.md). -/
def Obligations.CloseRunFinishesTheLoadedRecords : Prop :=
  ∀ s : State, Due .closeRun .plan [] s →
    (s.run.runState = .opened → PiecesDistinct s →
      let ids := (s.run.pieces.filter fun x => x.state == .loaded).map Piece.id
      let empty : Prop := s.checker.forming = none ∧ s.checker.ready = none ∧ s.track.entries = []
      ∃ t, exec (.closeRun .plan) s = .next t
        ∧ Answered .plan .closeRun .done [byteV t.run.runState.code, .code .count ids.length] s t
        ∧ (empty → t.run.runState = .closed ∧ t.census = []
            ∧ ∀ q, (t.port q).notices.length < 16 → (t.port q).notices.getLast? = some (.runState .closed))
        ∧ (¬ empty → t.run.runState = .draining)
        ∧ t.run.outcomes = s.run.outcomes ++ ids
        ∧ t.run.pieces = s.run.pieces.map (fun x => if x.state = .loaded then
            { x with
              state := .finished
              faults := if Cause.runClosed ∈ x.faults then x.faults else x.faults ++ [.runClosed]
              disposition := some (if x.cancelPending then .cancelled else .notFed)
              tag := none } else x)
        ∧ ChangesOnly (requestBlocks .plan ++ [.runState, .pieces, .outcomes, .census, .bins, .delivery, .closedTrays,
            .reservations, .stall, .trayCounter, .entries, .notices .track, .notices .plan, .flags, .pins]) s t)
    ∧ (s.run.runState ≠ .opened →
      ∃ t, exec (.closeRun .plan) s = .next t ∧ Answered .plan .closeRun .wrongState [] s t
        ∧ Happened [] [] 0 (requestBlocks .plan) s t)

/-- A record of a LOAD_PIECES batch passes its checks exactly when it is in range, within the accumulator limit, no
duplicate, its codes all carried, its make-up planned within the throat limit and the mass ceiling, and the table has
room; the make-up kept is then the planned one (R10 to R13, R60 to R64). A record that fails has the cause of the
first check it fails, in that order, NO_FIT before OVER_THICK before OVER_MASS (R10, R13, R64). The records of a batch
are judged in batch order, each against the numbers of those before it, and a batch fails by its first failing record,
with its index and cause (R10, R12). -/
def Obligations.RecordPassesExactlyItsChecks : Prop :=
  ∀ s : State,
    (∀ (earlier : List Nat) (i : Nat) (x : PieceSpec),
      let ranges : Prop := x.id.seq ≠ 0 ∧ x.id.reprint ≤ 3 ∧ 1 ≤ x.sheets ∧ x.sheets ≤ 24 ∧ x.stock ≤ 3
        ∧ (nth s.profile.stocks x.stock).configured = true ∧ x.insertCount ≤ 8
        ∧ (∀ e ∈ x.inserts, e.code ≠ 0) ∧ (x.inserts.map InsertEntry.code).Nodup ∧ (∀ d ∈ x.key, d ≤ 9)
      let few : Prop := x.sheets ≤ s.profile.limits.accumulatorLimit
      let fresh : Prop := x.id.seq ∉ earlier
        ∧ ∀ r ∈ s.run.pieces, r.id.seq = x.id.seq → r.state = .finished ∧ r.id.reprint < x.id.reprint
      let carried : Prop := ∀ e ∈ x.inserts, ∃ k ∈ feederNumbers, (s.profile.feeder k).code = e.code
      let fold : Option Nat := foldPlan (nth s.profile.stocks x.stock) s.profile.envelope s.profile.limits.foldLimit
      let values := x.inserts.map fun e => s.profile.codeValues e.code
      let mass := makeUpMass x.sheets (nth s.sheetMass x.stock) values s.profile.envelope
      let thickness (p : Nat) : Nat :=
        makeUpThickness x.sheets (nth s.profile.stocks x.stock).caliper p values s.profile.envelope
      let room : Prop := s.run.pieces.length + i ≤ 4096
      let judged := s.judgeRecord earlier i x
      (∀ m : MakeUp, judged = .ok m ↔ ranges ∧ few ∧ fresh ∧ carried
        ∧ (fold = some m.panels ∧ m.mass = mass ∧ m.thickness = thickness m.panels
          ∧ m.thickness ≤ s.profile.envelope.throat ∧ m.mass ≤ s.profile.limits.massCeiling)
        ∧ room)
      ∧ (¬ ranges → judged = .error .badArg)
      ∧ (ranges → ¬ few → judged = .error .tooManySheets)
      ∧ (ranges → few → ¬ fresh → judged = .error .duplicate)
      ∧ (ranges → few → fresh → ¬ carried → judged = .error .unknownInsert)
      ∧ (ranges → few → fresh → carried →
        (fold = none → judged = .error .noFit)
        ∧ ∀ p, fold = some p →
          (s.profile.envelope.throat < thickness p → judged = .error .overThick)
          ∧ (thickness p ≤ s.profile.envelope.throat → s.profile.limits.massCeiling < mass →
              judged = .error .overMass)
          ∧ (thickness p ≤ s.profile.envelope.throat → mass ≤ s.profile.limits.massCeiling → ¬ room →
              judged = .error .full)))
    ∧ ∀ xs : List PieceSpec,
      let judged (before : List PieceSpec) (x : PieceSpec) : Except LoadCause MakeUp :=
        s.judgeRecord (before.map fun y => y.id.seq).reverse (before.length + 1) x
      (∀ ms : List (PieceSpec × MakeUp), s.judgeBatch [] 1 xs = .ok ms ↔
        ms.map Prod.fst = xs ∧ ∀ pre y post, ms = pre ++ y :: post → judged (pre.map Prod.fst) y.1 = .ok y.2)
      ∧ ∀ (i : Nat) (c : LoadCause), s.judgeBatch [] 1 xs = .error (i, c) ↔
        ∃ pre x post, xs = pre ++ x :: post ∧ i = pre.length + 1 ∧ judged pre x = .error c
          ∧ ∀ a y b, pre = a ++ y :: b → ∃ m, judged a y = .ok m

/-- LOAD_PIECES in OPEN: when every record passes, the records are appended in batch order at their load values, each
with the census reference of its classification in the census that the records before it have left, and the number
appended is answered; with no entry stalled, the census and the bins are as the classifications leave them; when one
fails, LOAD_REFUSED with its index and cause and nothing changes; outside OPEN it is refused WRONG_STATE (R6, R10,
R14). A record count of 0 or above 8, and a payload that is not of that many records, are refused BAD_ARG in every run
state, with nothing loaded (R9). -/
def Obligations.LoadPiecesAppendsTheBatch : Prop :=
  (∀ (xs : List PieceSpec) (s : State), 1 ≤ xs.length → xs.length ≤ 8 → (∀ x ∈ xs, x.sendable = true) →
    Due .loadPieces .plan (batchBytes xs) s →
    (∀ ms : List (PieceSpec × MakeUp), s.run.runState = .opened → s.judgeBatch [] 1 xs = .ok ms →
      let after (i : Nat) : State := (s.dropFrame .plan).appendAll (ms.take i)
      ms.map Prod.fst = xs
        ∧ ∃ t, exec (.loadPieces .plan) s = .next t ∧ Answered .plan .loadPieces .done [byteV xs.length] s t
          ∧ t.run.pieces = s.run.pieces ++ ms.mapIdx (fun i m =>
              (⟨m.1.id, s.run.runNumber, m.1.sheets, m.1.stock, m.1.inserts, m.1.key, .loaded, false, [], m.2, none,
                none, none, [], [], none, (after i).classification m.1.key m.1.id.reprint, none, none⟩ : Piece))
          ∧ (s.bins.stall = none → t.census = (after xs.length).census ∧ t.bins = (after xs.length).bins)
          ∧ ChangesOnly (requestBlocks .plan ++ [.pieces, .census, .bins, .delivery, .closedTrays, .reservations,
              .stall, .trayCounter, .entries, .notices .track, .notices .plan, .flags, .pins]) s t)
    ∧ (∀ i c, s.run.runState = .opened → s.judgeBatch [] 1 xs = .error (i, c) →
      ∃ t, exec (.loadPieces .plan) s = .next t
        ∧ Answered .plan .loadPieces .loadRefused [byteV i, byteV c.code] s t
        ∧ Happened [] [] 0 (requestBlocks .plan) s t)
    ∧ (s.run.runState ≠ .opened →
      ∃ t, exec (.loadPieces .plan) s = .next t ∧ Answered .plan .loadPieces .wrongState [] s t
        ∧ Happened [] [] 0 (requestBlocks .plan) s t))
    ∧ ∀ (pl : List Byte) (s : State), Due .loadPieces .plan pl s →
      (byteAt pl 0 = 0 ∨ 8 < byteAt pl 0 ∨ pl.length ≠ 1 + 20 * byteAt pl 0) →
      ∃ t, exec (.loadPieces .plan) s = .next t ∧ Answered .plan .loadPieces .badArg [] s t
        ∧ Happened [] [] 0 (requestBlocks .plan) s t

/-- AMEND_PIECE of a LOADED record: the insert list and key that are present replace the old ones, with the planned
make-up computed anew; a new key under which the record stays counted with the same fine prefix leaves the census
alone, and for another one the old classification is withdrawn and the record classified again; a check that fails is
LOAD_REFUSED with index 1; a record no longer LOADED is refused LOCKED with ACCESS_FAULT set; no record of the number
is NOT_FOUND; neither part present is BAD_ARG (R15, R16, R125). The checks are those of a loaded record, made on the
record as it would stand amended and in the same order, ranges, accumulator limit, known codes and planned make-up,
without the duplicate rule and the room check (R10, R11, R13, R15, R60 to R64). That a new key identical to the old
one leaves every classification alone, and that BAD_ARG comes before the other refusals, are the model's choices
(notes/assumptions/17.md, notes/assumptions/31.md). -/
def Obligations.AmendPieceReplacesListAndKey : Prop :=
  (∀ (a : Amendment) (s : State), a.sendable = true → Due .amendPiece .plan a.bytes s →
    let present : Prop := a.inserts ≠ none ∨ a.key ≠ none
    let newest (r : Piece) : Prop := ∃ pre post, s.run.pieces = pre ++ r :: post ∧ r.id.seq = a.seq
      ∧ ∀ x ∈ post, x.id.seq ≠ a.seq
    let refused (res : Result) (v : List Value) (fl : FlagSet) : Prop :=
      ∃ t, exec (.amendPiece .plan) s = .next t ∧ Answered .plan .amendPiece res v s t
        ∧ Happened [] [] fl (requestBlocks .plan) s t
    (¬ present → refused .badArg [] 0)
    ∧ (present → (∀ x ∈ s.run.pieces, x.id.seq ≠ a.seq) → refused .notFound [] 0)
    ∧ (∀ r, present → newest r → r.state ≠ .loaded → refused .locked [] StickyFlag.accessFault.bit)
    ∧ (∀ r c, present → newest r → r.state = .loaded → s.judgeAmended (a.spec r) = .error c →
        refused .loadRefused [byteV 1, byteV c.code] 0)
    ∧ ∀ r m, present → newest r → r.state = .loaded → PiecesDistinct s → s.judgeAmended (a.spec r) = .ok m →
      let key := a.key.getD r.key
      let s1 := (s.dropFrame .plan).onPiece r.id (a.apply m)
      let stays : Bool := key == r.key || (r.census == .counted && s1.classification key r.id.reprint == .counted
        && key.take s.profile.sort.fineLength == r.key.take s.profile.sort.fineLength)
      let withdrawn := s1.withdraw r
      let classified := withdrawn.classify (a.apply m r)
      ∃ t, exec (.amendPiece .plan) s = .next t ∧ Answered .plan .amendPiece .done [] s t
        ∧ t.run.pieces = s.run.pieces.map (fun x => if x.id = r.id then
            { r with
              inserts := a.inserts.elim r.inserts Prod.snd, key := key, planned := m
              census := if stays then r.census else withdrawn.classification key r.id.reprint }
            else x)
        ∧ (stays = true → Happened [] [] 0 (requestBlocks .plan ++ [.pieces]) s t)
        ∧ (stays = false → s.bins.stall = none → t.census = classified.census ∧ t.bins = classified.bins)
        ∧ ChangesOnly (requestBlocks .plan ++ [.pieces, .census, .bins, .delivery, .closedTrays, .reservations, .stall,
            .trayCounter, .entries, .notices .track, .notices .plan, .flags, .pins]) s t)
    ∧ (∀ (a : Amendment) (r : Piece), a.spec r = ⟨r.id, r.sheets, r.stock, a.key.getD r.key,
        a.inserts.elim r.inserts.length Prod.fst, a.inserts.elim r.inserts Prod.snd⟩)
    ∧ ∀ (x : PieceSpec) (s : State),
      let ranges : Prop := x.id.seq ≠ 0 ∧ x.id.reprint ≤ 3 ∧ 1 ≤ x.sheets ∧ x.sheets ≤ 24 ∧ x.stock ≤ 3
        ∧ (nth s.profile.stocks x.stock).configured = true ∧ x.insertCount ≤ 8
        ∧ (∀ e ∈ x.inserts, e.code ≠ 0) ∧ (x.inserts.map InsertEntry.code).Nodup ∧ (∀ d ∈ x.key, d ≤ 9)
      let few : Prop := x.sheets ≤ s.profile.limits.accumulatorLimit
      let carried : Prop := ∀ e ∈ x.inserts, ∃ k ∈ feederNumbers, (s.profile.feeder k).code = e.code
      let fold : Option Nat := foldPlan (nth s.profile.stocks x.stock) s.profile.envelope s.profile.limits.foldLimit
      let values := x.inserts.map fun e => s.profile.codeValues e.code
      let mass := makeUpMass x.sheets (nth s.sheetMass x.stock) values s.profile.envelope
      let thickness (p : Nat) : Nat :=
        makeUpThickness x.sheets (nth s.profile.stocks x.stock).caliper p values s.profile.envelope
      let judged := s.judgeAmended x
      (∀ m : MakeUp, judged = .ok m ↔ ranges ∧ few ∧ carried
        ∧ fold = some m.panels ∧ m.mass = mass ∧ m.thickness = thickness m.panels
        ∧ m.thickness ≤ s.profile.envelope.throat ∧ m.mass ≤ s.profile.limits.massCeiling)
      ∧ (¬ ranges → judged = .error .badArg)
      ∧ (ranges → ¬ few → judged = .error .tooManySheets)
      ∧ (ranges → few → ¬ carried → judged = .error .unknownInsert)
      ∧ (ranges → few → carried →
        (fold = none → judged = .error .noFit)
        ∧ ∀ p, fold = some p →
          (s.profile.envelope.throat < thickness p → judged = .error .overThick)
          ∧ (thickness p ≤ s.profile.envelope.throat → s.profile.limits.massCeiling < mass →
              judged = .error .overMass))

/-- A key is ruled by the first enabled slot it matches: WIDE in all eight positions, HALF when one of two patterns of
four matches its first four digits, QUARTER when one of four patterns of two matches its first two (R121, R123). A
record is classified by the first case that applies: ruled by that slot; reprint; counted, raising its fine entry,
which is created UNDECIDED when there is none and the census has room; uncounted, with CENSUS_FULL set (R123, R124).
The level of a ruled piece is its slot's, that of a reprint or an uncounted piece MIXED. The level of a counted piece:
an UNDECIDED fine entry is decided FINE at or above the fine minimum and COARSE below it; FINE answers the fine
prefix; COARSE answers the area entry's level, which is AREA at or above the area minimum of eligible pieces and MIXED
below it when it is created, and MIXED with CENSUS_FULL set when the census has no room (R129, R132, R133). When a
record finishes or is withdrawn, the count of its fine entry falls by 1 if it was counted, and the census stays
otherwise (R125, R126). A FINE entry's fall to 0 ends the fine group, and a fall or rise that takes the eligible count
of an AREA entry from above 0 to 0 ends the area group (R127, R129); a group end closes the group's OPEN tray (R130,
R155). A fine entry at 0, and then an area entry with no fine entry beneath it, is removed when no OPEN or CLOSING
tray of its group is held (R128). -/
def Obligations.CensusClassifiesAndDecides : Prop :=
  (∀ (f : Profile) (key : List Nat), key.length = 8 → (∀ k ∈ slotNumbers, (f.keyRule k).pattern.length = 8) →
    let agrees (k i j : Nat) : Prop := (f.keyRule k).pattern[i]? = some none
      ∨ ∃ d, (f.keyRule k).pattern[i]? = some (some d) ∧ key[j]? = some d
    let matched (k : Nat) : Prop := k ∈ slotNumbers ∧ (f.keyRule k).enabled = true ∧ match (f.keyRule k).mode with
      | .wide => ∀ i < 8, agrees k i i
      | .half => (∀ i < 4, agrees k i i) ∨ ∀ i < 4, agrees k (4 + i) i
      | .quarter => ∃ q < 4, agrees k (2 * q) 0 ∧ agrees k (2 * q + 1) 1
    (∀ k, f.ruledBy key = some k ↔ matched k ∧ ∀ j < k, ¬ matched j)
      ∧ (f.ruledBy key = none ↔ ∀ k, ¬ matched k))
    ∧ (∀ (r : Piece) (s : State),
    let d := r.key.take s.profile.sort.fineLength
    let given (c : CensusRef) (t : State) : Prop :=
      t.run = { s.run with pieces := s.run.pieces.map fun x => if x.id = r.id then { x with census := c } else x }
    (∀ k, s.profile.ruledBy r.key = some k → given (.ruled k) (s.classify r) ∧ (s.classify r).census = s.census)
    ∧ (s.profile.ruledBy r.key = none → 0 < r.id.reprint →
        given .reprint (s.classify r) ∧ (s.classify r).census = s.census)
    ∧ (∀ n l, s.profile.ruledBy r.key = none → r.id.reprint = 0 → findFine s.census d = some (n, l) →
        given .counted (s.classify r)
          ∧ (s.classify r).census = s.census.map fun e =>
              if e.kind.isFine = true ∧ e.digits = d then e.onCount (· + 1) else e)
    ∧ (s.profile.ruledBy r.key = none → r.id.reprint = 0 → findFine s.census d = none → s.census.length < 512 →
        given .counted (s.classify r)
          ∧ (s.classify r).census = insertEntry ⟨d, .fine 1 .undecided⟩ s.census)
    ∧ (s.profile.ruledBy r.key = none → r.id.reprint = 0 → findFine s.census d = none → 512 ≤ s.census.length →
        given .uncounted (s.classify r) ∧ (s.classify r).census = s.census
          ∧ (s.classify r).flags = s.flags ||| StickyFlag.censusFull.bit))
    ∧ (∀ (r : Piece) (s : State),
      (∀ k, r.census = .ruled k → s.levelAnswer r = (s, .rule k))
      ∧ (r.census = .reprint ∨ r.census = .uncounted → s.levelAnswer r = (s, .mixed)))
    ∧ (∀ (r : Piece) (n : Nat) (l : FineLevel) (s : State), r.census = .counted →
    let d := r.key.take s.profile.sort.fineLength
    let a := r.key.take s.profile.sort.areaLength
    findFine s.census d = some (n, l) →
    let fine : Prop := l = .fine ∨ l = .undecided ∧ s.profile.sort.fineMinimum ≤ n
    let decided := s.census.map fun e =>
      if e.kind.isFine = true ∧ e.digits = d then e.setLevel (if l = .fine ∨ l = .undecided ∧
        s.profile.sort.fineMinimum ≤ n then .fine else .coarse) else e
    let eligible := eligibleCount s.profile.sort.fineMinimum a decided
    (fine → s.levelAnswer r = ({ s with census := decided }, .fine d))
    ∧ (¬ fine → findArea s.census a = some .area → s.levelAnswer r = ({ s with census := decided }, .area a))
    ∧ (¬ fine → findArea s.census a = some .mixed → s.levelAnswer r = ({ s with census := decided }, .mixed))
    ∧ (¬ fine → findArea s.census a = none → s.census.length < 512 →
        s.profile.sort.areaMinimum ≤ eligible →
        s.levelAnswer r = ({ s with census := insertEntry ⟨a, .area .area⟩ decided }, .area a))
    ∧ (¬ fine → findArea s.census a = none → s.census.length < 512 →
        eligible < s.profile.sort.areaMinimum →
        s.levelAnswer r = ({ s with census := insertEntry ⟨a, .area .mixed⟩ decided }, .mixed))
    ∧ (¬ fine → findArea s.census a = none → 512 ≤ s.census.length →
        s.levelAnswer r =
          ({ s with census := decided, flags := s.flags ||| StickyFlag.censusFull.bit }, .mixed)))
    ∧ (∀ (r : Piece) (s : State),
      (r.census = .counted → s.withdraw r = s.countFalls (r.key.take s.profile.sort.fineLength))
      ∧ (r.census ≠ .counted → s.withdraw r = s)
      ∧ ∀ d : Disposition, s.piece? r.id = some r → r.state ≠ .finished →
        ∃ u, s.finish r.id d = u.withdraw r
          ∧ u.run.pieces = s.run.pieces.map (fun x => if x.id = r.id then
              { x with
                state := .finished
                disposition := some (if x.cancelPending then .cancelled else d)
                tag := none } else x)
          ∧ u.run.outcomes = s.run.outcomes ++ [r.id]
          ∧ Effects [] (if s.run.outcomes = [] then [.outcomes] else []) 0 [.pieces, .outcomes] s u)
    ∧ (∀ (d : List Nat) (n : Nat) (l : FineLevel) (s : State), findFine s.census d = some (n, l) →
      let a := d.take s.profile.sort.areaLength
      let counted (f : Nat → Nat) : State := { s with census := s.census.map fun e =>
        if e.kind.isFine = true ∧ e.digits = d then e.onCount f else e }
      let ends (u : State) : Prop := findArea s.census a = some .area
        ∧ 0 < eligibleCount s.profile.sort.fineMinimum a s.census
        ∧ eligibleCount s.profile.sort.fineMinimum a u.census = 0
      let lower := counted (· - 1)
      let raise := counted (· + 1)
      (l = .fine → n = 1 → (∀ e ∈ s.census, e.kind.isFine = true → e.digits = d → e.kind = .fine n l) →
        s.countFalls d = (lower.groupEnd (.fine d)).removeFineIfDone d)
      ∧ (l ≠ .fine → ends lower → s.countFalls d = (lower.groupEnd (.area a)).removeFineIfDone d)
      ∧ (l ≠ .fine → ¬ ends lower → s.countFalls d = lower.removeFineIfDone d)
      ∧ (2 ≤ n → ¬ ends lower → s.countFalls d = lower)
      ∧ (ends raise → s.countRises d = raise.groupEnd (.area a))
      ∧ (¬ ends raise → s.countRises d = raise))
    ∧ (∀ (g : TrayGroup) (s : State),
      ((∀ j ∈ binNumbers, ∀ z, (s.bin j).tray = some z → z.group = g → z.state ≠ .opened) → s.groupEnd g = s)
      ∧ ∀ (b : Nat) (y : Tray), b ∈ binNumbers → (s.bin b).tray = some y → y.group = g → y.state = .opened →
          (∀ j ∈ binNumbers, ∀ z, (s.bin j).tray = some z → z.group = g → z.state = .opened → j = b) →
        s.groupEnd g = s.beginClosing b .groupEnd
          ∧ (0 < y.reserved → (s.groupEnd g).bin b = (s.bin b).closing .groupEnd y
            ∧ (∀ j ∈ binNumbers, j ≠ b → (s.groupEnd g).bin j = s.bin j)
            ∧ Effects ((s.bin b).closingNotices b y) ((s.bin b).closingNotices b y) 0 [.bins] s (s.groupEnd g)))
    ∧ (∀ (d : List Nat) (s : State),
      let a := d.take s.profile.sort.areaLength
      let held (g : TrayGroup) : Prop := ∃ j ∈ binNumbers, ∃ z, (s.bin j).tray = some z ∧ z.group = g
        ∧ z.state ≠ .closed
      let done : Prop := (∃ l, findFine s.census d = some (0, l)) ∧ ¬ held (.fine d)
      let rest := s.census.filter fun e => !e.kind.isFine || e.digits != d
      let under : Prop := ∃ e ∈ rest, e.kind.isFine = true ∧ a <+: e.digits
      (¬ done → s.removeFineIfDone d = s)
      ∧ (done → (under ∨ held (.area a) ∨ findArea rest a = none) → s.removeFineIfDone d = { s with census := rest })
      ∧ (done → ¬ under → ¬ held (.area a) → findArea rest a ≠ none → s.removeFineIfDone d =
          { s with census := rest.filter fun e => e.kind.isFine || e.digits != a }))
    ∧ ∀ (a : List Nat) (s : State),
      let held : Prop := ∃ j ∈ binNumbers, ∃ z, (s.bin j).tray = some z ∧ z.group = .area a ∧ z.state ≠ .closed
      let under : Prop := ∃ e ∈ s.census, e.kind.isFine = true ∧ a <+: e.digits
      ((under ∨ held ∨ findArea s.census a = none) → s.removeAreaIfDone a = s)
      ∧ (¬ under → ¬ held → findArea s.census a ≠ none → s.removeAreaIfDone a =
          { s with census := s.census.filter fun e => e.kind.isFine || e.digits != a })

/-- CANCEL_PIECE by the state of the newest record of the number: none is NOT_FOUND, FINISHED is WRONG_STATE, LOADED
finishes CANCELLED at once, COLLATING and ON_TRACK take cancel-pending, which is already set or set now and leaves
every other record as it was, and a GATED piece is TOO_LATE (R17). Cancel-pending acts at once in two places: on the
piece of an outstanding release hold it lifts the hold with HOLD_CLEARED to the track port; on the stalled piece at
the gate it ends the stall with the decision DIVERT, sent as GATE_GO, and the faulted and cancel-pending pieces that
wait behind it are decided DIVERT in turn, each with its GATE_GO (R18, R48, R109, R152). That FINISHED is judged
before cancel-pending, and cancel-pending before GATED, is the model's reading of R17 (notes/assumptions/13.md). -/
def Obligations.CancelPieceActsAtOnce : Prop :=
  (∀ (n : Nat) (s : State), n ≤ 16777215 → Due .cancelPiece .plan (toBytes 3 n) s →
    let newest (r : Piece) : Prop := ∃ pre post, s.run.pieces = pre ++ r :: post ∧ r.id.seq = n
      ∧ ∀ x ∈ post, x.id.seq ≠ n
    let live (r : Piece) : Prop := newest r ∧ (r.state = .collating ∨ r.state = .onTrack)
    let unchanged (res : Result) (v : List Value) : Prop :=
      ∃ t, exec (.cancelPiece .plan) s = .next t ∧ Answered .plan .cancelPiece res v s t
        ∧ Happened [] [] 0 (requestBlocks .plan) s t
    ((∀ x ∈ s.run.pieces, x.id.seq ≠ n) → unchanged .notFound [])
    ∧ (∀ r, newest r → r.state = .finished → unchanged .wrongState [])
    ∧ (∀ r, live r → r.cancelPending = true → unchanged .done [.code .cancelVerdict 1])
    ∧ (∀ r, live r → r.cancelPending = false → (∃ e ∈ s.track.entries, e.piece = r.id ∧ e.stage = .gated) →
        unchanged .tooLate [])
    ∧ (∀ r, newest r → r.state = .loaded → PiecesDistinct s →
      ∃ t, exec (.cancelPiece .plan) s = .next t ∧ Answered .plan .cancelPiece .done [.code .cancelVerdict 0] s t
        ∧ t.run.pieces = s.run.pieces.map (fun x => if x.id = r.id then
            { x with state := .finished, disposition := some .cancelled, tag := none } else x)
        ∧ t.run.outcomes = s.run.outcomes ++ [r.id]
        ∧ ChangesOnly (requestBlocks .plan ++ [.pieces, .outcomes, .census, .bins, .delivery, .closedTrays,
            .reservations, .stall, .trayCounter, .entries, .notices .track, .notices .plan, .flags, .pins]) s t)
    ∧ ∀ r, live r → r.cancelPending = false → (∀ e ∈ s.track.entries, e.piece = r.id → e.stage ≠ .gated) →
      ∃ t, exec (.cancelPiece .plan) s = .next t ∧ Answered .plan .cancelPiece .done [.code .cancelVerdict 1] s t
        ∧ t.run.pieces = s.run.pieces.map (fun x => if x.id = r.id then { x with cancelPending := true } else x)
        ∧ ChangesOnly (requestBlocks .plan ++ [.pieces, .releaseHold, .census, .bins, .delivery, .closedTrays,
            .reservations, .stall, .trayCounter, .entries, .notices .track, .notices .plan, .flags, .pins]) s t)
    ∧ (∀ (n : Nat) (pre post : List Piece) (r : Piece) (s : State), n ≤ 16777215 →
    Due .cancelPiece .plan (toBytes 3 n) s → s.run.pieces = pre ++ r :: post → r.id.seq = n →
    (∀ x ∈ post, x.id.seq ≠ n) → r.cancelPending = false → PiecesDistinct s →
    (∀ c, r.state = .collating → s.checker.ready = some c → c.owner = .piece r.id → s.checker.releaseHold ≠ .free →
        (∀ e ∈ s.track.entries, e.piece ≠ r.id) →
      ∃ t, exec (.cancelPiece .plan) s = .next t ∧ Answered .plan .cancelPiece .done [.code .cancelVerdict 1] s t
        ∧ t.run.pieces = s.run.pieces.map (fun x => if x.id = r.id then { x with cancelPending := true } else x)
        ∧ t.checker.releaseHold = .free
        ∧ Happened [.holdCleared] [] 0 (requestBlocks .plan ++ [.pieces, .releaseHold]) s t)
    ∧ ∀ (older run rest : List TrackEntry) (e : TrackEntry) (g : TrayGroup), r.state = .onTrack →
        s.checker.releaseHold = .free → TrackBounded s → s.track.entries = older ++ e :: (run ++ rest) →
        e.piece = r.id → (∀ x ∈ older ++ run ++ rest, x.piece ≠ r.id) → e.stage = .atGate → e.stalled = true →
        s.bins.stall = some ⟨e.tag, g⟩ →
        (∀ x ∈ run, x.stage = .atGate ∧ x.stalled = false
          ∧ ∃ y, s.piece? x.piece = some y ∧ (y.faults ≠ [] ∨ y.cancelPending = true)) →
        (∀ x, rest.head? = some x → x.stage ≠ .atGate) →
      ∃ t, exec (.cancelPiece .plan) s = .next t ∧ Answered .plan .cancelPiece .done [.code .cancelVerdict 1] s t
        ∧ t.run.pieces = s.run.pieces.map (fun x => if x.id = r.id then { x with cancelPending := true } else x)
        ∧ t.track.entries = older ++ ((e :: run).map fun x =>
            { x with stage := .gated, stalled := false, decision := some .divert }) ++ rest
        ∧ t.bins.stall = none
        ∧ Happened ((e :: run).map fun x => .gateGo x.tag .divert) [] 0
            (requestBlocks .plan ++ [.pieces, .entries, .stall]) s t)

/-- ACK_OUTCOMES with n from 1 to the number of records in the outcome order removes the n oldest from the outcome
order and from the piece table, the cursor staying between the same two remaining records, and answers with the number
still waiting; another n is refused BAD_ARG with nothing removed; in every run state (R5, R22). ACK_TRAYS with n from
1 to 64 and to the number of records in the closed-tray list removes the n oldest, and the trays of the delivery queue
then follow, oldest first, while the list has room, each with TRAY_CLOSED to the plan port and the release test of its
bin; another n is refused BAD_ARG (R143, R157, R159). A stalled entry is then re-evaluated once: a bin freed by a
delivery takes its tray, and the decision goes out as GATE_GO; after any other event a re-evaluation is made exactly
when some bin has become FREE (R152). An OPEN tray that begins closing is CLOSING with its reason and its bin
FULL_WAIT unless FAULT or OFFLINE (R155); with nothing reserved in it, it is CLOSED at once and delivered, or waits in
the delivery queue of a full list with TRAY_LIST_FULL set (R156, R157), and a fine or area group is tested for removal
from the census (R128). -/
def Obligations.AcknowledgementsRemoveTheOldest : Prop :=
  (∀ (n : Nat) (s : State), n ≤ 65535 → Due .ackOutcomes .plan (toBytes 2 n) s →
    (1 ≤ n → n ≤ s.run.outcomes.length →
      ∃ t, exec (.ackOutcomes .plan) s = .next t
        ∧ Answered .plan .ackOutcomes .done [.code .count (s.run.outcomes.length - n)] s t
        ∧ t.run = { s.run with
            outcomes := s.run.outcomes.drop n
            pieces := s.run.pieces.filter fun x => !(s.run.outcomes.take n).contains x.id }
        ∧ t.run.pieces.take t.checker.cursor =
            (s.run.pieces.take s.checker.cursor).filter (fun x => !(s.run.outcomes.take n).contains x.id)
        ∧ Happened [] [] 0 (requestBlocks .plan ++ [.pieces, .outcomes, .cursor]) s t)
    ∧ (n = 0 ∨ s.run.outcomes.length < n →
      ∃ t, exec (.ackOutcomes .plan) s = .next t ∧ Answered .plan .ackOutcomes .badArg [] s t
        ∧ Happened [] [] 0 (requestBlocks .plan) s t))
    ∧ (∀ (n : Nat) (s : State), n ≤ 255 → Due .ackTrays .plan (toBytes 1 n) s →
    (1 ≤ n → n ≤ 64 → n ≤ s.bins.closedTrays.length →
      ∃ t, exec (.ackTrays .plan) s = .next t
        ∧ Answered .plan .ackTrays .done [byteV t.bins.closedTrays.length, byteV t.bins.delivery.length] s t
        ∧ ChangesOnly (requestBlocks .plan ++ [.closedTrays, .delivery, .bins, .reservations, .stall, .trayCounter,
            .entries, .census, .notices .track, .notices .plan, .flags, .pins]) s t)
    ∧ (1 ≤ n → n ≤ 64 → n ≤ s.bins.closedTrays.length → s.bins.stall = none → s.bins.delivery.Nodup →
        (∀ b ∈ s.bins.delivery, b ∈ binNumbers ∧ (s.bin b).tray ≠ none) →
      let k := min (64 - (s.bins.closedTrays.length - n)) s.bins.delivery.length
      let out := s.bins.delivery.take k
      let freed (b : Nat) : List Notice := if s.frees b (s.bin b).state then [.binState b .free none] else []
      let closed (b : Nat) : List Notice :=
        ((s.bin b).tray.map fun y => Notice.trayClosed y.id y.run y.bin y.reason).toList
      ∃ t, exec (.ackTrays .plan) s = .next t
        ∧ t.bins.closedTrays = s.bins.closedTrays.drop n ++ out.filterMap (fun b => (s.bin b).tray)
        ∧ t.bins.delivery = s.bins.delivery.drop k
        ∧ (∀ b ∈ binNumbers, t.bin b =
            if b ∈ out then ⟨if s.frees b (s.bin b).state then .free else (s.bin b).state, none⟩ else s.bin b)
        ∧ Happened (out.flatMap freed) (out.flatMap fun b => closed b ++ freed b) 0
            (requestBlocks .plan ++ [.closedTrays, .delivery, .bins]) s t)
    ∧ (∀ (pre post : List TrackEntry) (e : TrackEntry) (r : Piece) (g : TrayGroup) (k b : Nat) (y : Tray),
        1 ≤ n → n ≤ 64 → n ≤ s.bins.closedTrays.length → s.bins.closedTrays.length ≤ 64 → TrackBounded s →
        s.track.entries = pre ++ e :: post → e.stage = .atGate → e.stalled = true → s.bins.stall = some ⟨e.tag, g⟩ →
        (∀ x, post.head? = some x → x.stage ≠ .atGate) → s.piece? e.piece = some r → r.faults = [] →
        r.cancelPending = false → r.census = .ruled k → s.profile.sort.trayPieceLimit ≠ 1 →
        (∀ j ∈ binNumbers, ∀ z, (s.bin j).tray = some z → z.group = .rule k → z.state ≠ .opened) →
        b ∈ binNumbers → s.profile.dedicatedSlot b = some k →
        (∀ j ∈ binNumbers, j < b → s.profile.dedicatedSlot j = some k → (s.bin j).state ≠ .free) →
        s.bins.delivery = [b] → (s.bin b).tray = some y → s.frees b (s.bin b).state = true →
      let id := s.bins.trayCounter
      let held : State := { s with bins := { s.bins with closedTrays := s.bins.closedTrays.drop n } }
      let opened : List Notice := [.binState b .free none, .binState b .opened (some id)]
      ∃ t, exec (.ackTrays .plan) s = .next t ∧ t.bins.closedTrays = s.bins.closedTrays.drop n ++ [y]
        ∧ t.bins.delivery = [] ∧ t.bins.stall = none
        ∧ t.track.entries = pre ++ { e with stage := .gated, stalled := false, decision := some (.bin b) } :: post
        ∧ t.bin b = ⟨.opened, some ⟨id, s.run.runNumber, .rule k, held.nextContinuation (.rule k), b, .opened, 0, 1, 0,
            r.finalMass, Vector.replicate 8 0, none, none, none⟩⟩
        ∧ (∀ j ∈ binNumbers, j ≠ b → t.bin j = s.bin j)
        ∧ t.bins.trayCounter = (if id = 65535 then 1 else id + 1)
        ∧ t.bins.reservations = s.bins.reservations ++ [⟨e.tag, id, r.finalMass⟩]
        ∧ Happened (opened ++ [.gateGo e.tag (.bin b)]) (.trayClosed y.id y.run y.bin y.reason :: opened) 0
            (requestBlocks .plan ++ [.closedTrays, .delivery, .bins, .trayCounter, .reservations, .entries, .stall])
            s t)
    ∧ (n = 0 ∨ 64 < n ∨ s.bins.closedTrays.length < n →
      ∃ t, exec (.ackTrays .plan) s = .next t ∧ Answered .plan .ackTrays .badArg [] s t
        ∧ Happened [] [] 0 (requestBlocks .plan) s t))
    ∧ (∀ s u : State,
      ((∀ b ∈ binNumbers, (u.bin b).state = .free → (s.bin b).state = .free) → u.afterEvent s = u)
      ∧ ∀ b ∈ binNumbers, (s.bin b).state ≠ .free → (u.bin b).state = .free → u.afterEvent s = (u.reevaluate true).1)
    ∧ ∀ (b : Nat) (y : Tray) (reason : CloseReason) (s : State), b ∈ binNumbers → (s.bin b).tray = some y →
      let t := s.beginClosing b reason
      let x := (s.bin b).closing reason y
      let y' : Tray := { y with state := .closed, reason := some reason }
      let closing := (s.bin b).closingNotices b y
      let others : Prop := ∀ j ∈ binNumbers, j ≠ b → t.bin j = s.bin j
      (y.state ≠ .opened → t = s)
      ∧ (y.state = .opened → 0 < y.reserved → t.bin b = x ∧ others ∧ Effects closing closing 0 [.bins] s t)
      ∧ (y.state = .opened → y.reserved = 0 → (y.group = .mixed ∨ ∃ k, y.group = .rule k) →
        (64 ≤ s.bins.closedTrays.length →
          t.bin b = ⟨x.state, some y'⟩ ∧ others ∧ t.bins.delivery = s.bins.delivery ++ [b]
            ∧ Effects closing closing StickyFlag.trayListFull.bit [.bins, .delivery] s t)
        ∧ (s.bins.closedTrays.length < 64 → s.bins.delivery = [] →
          let freed : List Notice := if s.frees b x.state then [.binState b .free none] else []
          t.bin b = ⟨if s.frees b x.state then .free else x.state, none⟩ ∧ others
            ∧ t.bins.closedTrays = s.bins.closedTrays ++ [y']
            ∧ Effects (closing ++ freed) (closing ++ .trayClosed y.id y.run y.bin (some reason) :: freed) 0
                [.bins, .closedTrays] s t))
      ∧ (∀ d, y.state = .opened → y.reserved = 0 → y.group = .fine d →
          t.census = ((s.onTray b fun z => { z with state := .closed }).removeFineIfDone d).census)
      ∧ ∀ a, y.state = .opened → y.reserved = 0 → y.group = .area a →
          t.census = ((s.onTray b fun z => { z with state := .closed }).removeAreaIfDone a).census

/-! ### Settings -/

/-- The fold plan is the smallest panel count from 1 to the fold limit at which the folded length, the length divided
by the panels and rounded up, is at most the inner height less the clearance, provided the width fits; NO_FIT
otherwise (R60). The mass and the thickness of a make-up: n × s + Σm + e, saturating at 1,048,575 mg (R62), and n × c
× p + Σt + 2 × ec, saturating at 65,535 µm (R63). The band of a mass is the first, in band order, whose upper limit is
at or above it, and the last when none is (R71). -/
def Obligations.MakeUpArithmetic : Prop :=
  (∀ (k : Stock) (e : Envelope) (limit p : Nat),
    let fits (q : Nat) : Prop := 1 ≤ q ∧ q ≤ limit ∧ k.width ≤ e.width - e.clearance
      ∧ k.length ≤ q * (e.height - e.clearance)
    (foldPlan k e limit = some p ↔ fits p ∧ ∀ q < p, ¬ fits q) ∧ (foldPlan k e limit = none ↔ ∀ q, ¬ fits q))
    ∧ (∀ (n s c p : Nat) (inserts : List (Nat × Nat)) (e : Envelope),
    (makeUpMass n s inserts e =
        (let sum := n * s + (inserts.map Prod.fst).sum + e.mass; if 1048575 < sum then 1048575 else sum))
    ∧ makeUpThickness n c p inserts e =
        (let sum := n * c * p + (inserts.map Prod.snd).sum + 2 * e.caliper; if 65535 < sum then 65535 else sum))
    ∧ (∀ (bands : List Nat) (m : Nat), bands ≠ [] →
    1 ≤ bandOf bands m ∧ bandOf bands m ≤ bands.length
      ∧ (∀ i, i + 1 < bandOf bands m → ∃ u, bands[i]? = some u ∧ u < m)
      ∧ ((∃ u, bands[bandOf bands m - 1]? = some u ∧ m ≤ u)
          ∨ (bandOf bands m = bands.length ∧ ∀ u ∈ bands, u < m)))

/-- SET_STOCK, SET_ENVELOPE, SET_BANDS and SET_SORT in CLOSED: a record in range, with no conflict, replaces the one
held in the active profile and answers as its rule says, a fold plan as its panels or as NO_FIT's code 22 hex,
SET_STOCK also recomputing the sheet mass; a payload that spells no record in range is refused BAD_ARG; an envelope
too tight for a planned thickness, and tray limits below a tray held, are refused IN_USE; outside CLOSED they are
refused WRONG_STATE, SET_SORT unless identical (R54 to R56, R59, R119). -/
def Obligations.RecordsOfSettingsAreReplaced : Prop :=
  ∀ s : State,
    let refused (k : RequestKind) (r : Result) : Prop :=
      ∃ t, exec (k.command .plan) s = .next t ∧ Answered .plan k r [] s t
        ∧ Happened [] [] 0 (requestBlocks .plan) s t
    let replaced (k : RequestKind) (answer : List Value) (f : Profile) (t : State) : Prop :=
      exec (k.command .plan) s = .next t ∧ Answered .plan k .done answer s t ∧ t.profile = f
    (∀ (id : Nat) (x : Stock), id ≤ 3 → x.inRange = true → Due .setStock .plan (x.bytes id) s →
        s.run.runState = .closed →
      let mass := (2 * (x.grammage * x.width * x.length) + 1000000) / 2000000
      ∃ t, replaced .setStock [.code .sheetMass mass,
            byteV ((foldPlan x s.profile.envelope s.profile.limits.foldLimit).getD 0x22)]
          { s.profile with stocks := setNth s.profile.stocks id x } t
        ∧ t.sheetMass = setNth s.sheetMass id mass
        ∧ Happened [] [] 0 (requestBlocks .plan ++ [.active, .sheetMass]) s t)
    ∧ (∀ x : Envelope, x.inRange = true → Due .setEnvelope .plan x.bytes s → s.run.runState = .closed →
        (∀ r ∈ s.run.pieces, r.planned.thickness ≤ x.throat) →
      ∃ t, replaced .setEnvelope ((stockIds.filter fun id => (nth s.profile.stocks id).configured).flatMap fun id =>
            [byteV id, byteV ((foldPlan (nth s.profile.stocks id) x s.profile.limits.foldLimit).getD 0x22)])
          { s.profile with envelope := x } t
        ∧ Happened [] [] 0 (requestBlocks .plan ++ [.active]) s t)
    ∧ (∀ us : List Nat, bandsInRange us = true → Due .setBands .plan (bandsBytes us) s → s.run.runState = .closed →
        s.profile.limits.massCeiling ≤ us.getLast?.getD 0 →
      ∃ t, replaced .setBands [] { s.profile with bands := us } t
        ∧ Happened [] [] 0 (requestBlocks .plan ++ [.active]) s t)
    ∧ (∀ x : SortSettings, x.inRange = true → Due .setSort .plan x.bytes s →
        (s.run.runState = .closed ∨ x = s.profile.sort) →
        (∀ y ∈ s.heldTrays, y.count + y.reserved ≤ x.trayPieceLimit ∧ y.mass + y.reservedMass ≤ x.trayMassLimit) →
      ∃ t, replaced .setSort [byteV x.fineLength, byteV x.areaLength, wordV x.fineMinimum, wordV x.areaMinimum,
            wordV x.trayPieceLimit, quadV x.trayMassLimit] { s.profile with sort := x } t
        ∧ Happened [] [] 0 (requestBlocks .plan ++ [.active]) s t)
    ∧ (∀ pl, s.run.runState = .closed →
        (Due .setStock .plan pl s → (∀ (id : Nat) (x : Stock), id ≤ 3 → x.inRange = true → pl ≠ x.bytes id) →
          refused .setStock .badArg)
        ∧ (Due .setEnvelope .plan pl s → (∀ x : Envelope, x.inRange = true → pl ≠ x.bytes) →
          refused .setEnvelope .badArg)
        ∧ (Due .setBands .plan pl s →
            (∀ us, bandsInRange us = true → s.profile.limits.massCeiling ≤ us.getLast?.getD 0 → pl ≠ bandsBytes us) →
          refused .setBands .badArg)
        ∧ (Due .setSort .plan pl s → (∀ x : SortSettings, x.inRange = true → pl ≠ x.bytes) →
          refused .setSort .badArg))
    ∧ (∀ x : Envelope, x.inRange = true → Due .setEnvelope .plan x.bytes s → s.run.runState = .closed →
        (∃ r ∈ s.run.pieces, x.throat < r.planned.thickness) → refused .setEnvelope .inUse)
    ∧ (∀ x : SortSettings, x.inRange = true → Due .setSort .plan x.bytes s → s.run.runState = .closed →
        (∃ y ∈ s.heldTrays, x.trayPieceLimit < y.count + y.reserved ∨ x.trayMassLimit < y.mass + y.reservedMass) →
        refused .setSort .inUse)
    ∧ (s.run.runState ≠ .closed →
        (∀ (id : Nat) (x : Stock), id ≤ 3 → x.inRange = true → Due .setStock .plan (x.bytes id) s →
            refused .setStock .wrongState)
        ∧ (∀ x : Envelope, x.inRange = true → Due .setEnvelope .plan x.bytes s → refused .setEnvelope .wrongState)
        ∧ (∀ us, bandsInRange us = true → Due .setBands .plan (bandsBytes us) s → refused .setBands .wrongState)
        ∧ (∀ x : SortSettings, x.inRange = true → x ≠ s.profile.sort → Due .setSort .plan x.bytes s →
            refused .setSort .wrongState))

/-- SET_LIMITS and SET_FEEDER: in CLOSED any record in range without a conflict, outside CLOSED one that differs only
where its rule allows; the record replaces the one held; a changed feeder policy lifts an outstanding FEEDER hold when
it has become DIVERT or every required code has a usable feeder, with HOLD_CLEARED to the track port; the feeder's
state is derived again, a change going to both ports as FEEDER_STATE and having the hold tested, its other working
values stay, and its state is answered; a new mass or caliper that another feeder of the code does not share is
refused MISMATCH (R48, R57, R58, R77, R78, R81). A payload that spells no record in range is refused BAD_ARG (R57,
R77). -/
def Obligations.LimitsAndFeedersAreReplaced : Prop :=
  ∀ s : State,
    let refused (k : RequestKind) (r : Result) : Prop :=
      ∃ t, exec (k.command .plan) s = .next t ∧ Answered .plan k r [] s t
        ∧ Happened [] [] 0 (requestBlocks .plan) s t
    (∀ l : Limits, l.inRange = true → Due .setLimits .plan l.bytes s →
      let old := s.profile.limits
      let locked : Prop := s.run.runState ≠ .closed ∧ ¬ (l.foldLimit = old.foldLimit
        ∧ l.massCeiling = old.massCeiling ∧ l.scaleInLine = old.scaleInLine
        ∧ l.accumulatorLimit = old.accumulatorLimit)
      let used : Prop := ∃ r ∈ s.run.pieces, l.massCeiling < r.planned.mass
        ∨ (r.disposition = some .binned ∧ l.massCeiling < r.finalMass)
      (s.profile.bands.getLast?.getD 0 < l.massCeiling → refused .setLimits .badArg)
      ∧ (l.massCeiling ≤ s.profile.bands.getLast?.getD 0 → locked → refused .setLimits .wrongState)
      ∧ (l.massCeiling ≤ s.profile.bands.getLast?.getD 0 → ¬ locked → used → refused .setLimits .inUse)
      ∧ (l.massCeiling ≤ s.profile.bands.getLast?.getD 0 → ¬ locked → ¬ used →
        ∃ t, exec (.setLimits .plan) s = .next t ∧ Answered .plan .setLimits .done [] s t
          ∧ t.profile = { s.profile with limits := l }
          ∧ (let lifts : Bool := decide (l.feederPolicy ≠ old.feederPolicy) && feederHoldLifts s t
            t.checker.releaseHold = holdAfter lifts s
              ∧ Happened (holdNotices lifts) [] 0 (requestBlocks .plan ++ [.active, .releaseHold]) s t)))
    ∧ (∀ (k : Nat) (x : FeederSetting), 1 ≤ k → k ≤ 8 → x.inRange = true → Due .setFeeder .plan (x.bytes k) s →
      let old := s.profile.feeder k
      let locked : Prop := s.run.runState ≠ .closed
        ∧ ¬ (x.code = old.code ∧ x.mass = old.mass ∧ x.caliper = old.caliper)
      let clash : Prop := x.code ≠ 0 ∧ ∃ j ∈ feederNumbers, j ≠ k ∧ (s.profile.feeder j).code = x.code
        ∧ ((s.profile.feeder j).mass ≠ x.mass ∨ (s.profile.feeder j).caliper ≠ x.caliper)
      let pulled : Prop := x.code ≠ old.code ∧ ∃ r ∈ s.run.pieces, ∃ p ∈ r.pulls, p.feeder = k
      (locked → refused .setFeeder .wrongState)
      ∧ (¬ locked → clash → refused .setFeeder .mismatch)
      ∧ (¬ locked → ¬ clash → pulled → refused .setFeeder .inUse)
      ∧ (¬ locked → ¬ clash → ¬ pulled →
        ∃ t, exec (.setFeeder .plan) s = .next t
          ∧ Answered .plan .setFeeder .done [byteV (t.feeder k).state.code] s t
          ∧ t.profile = { s.profile with feeders := setNth s.profile.feeders (k - 1) x }
          ∧ t.feeder k = { s.feeder k with state := t.derivedFeederState k }
          ∧ (∀ j ∈ feederNumbers, j ≠ k → t.feeder j = s.feeder j)
          ∧ t.checker.releaseHold = holdAfter (feederLifts k s t) s
          ∧ Happened (feederNotices k s t ++ holdNotices (feederLifts k s t)) (feederNotices k s t) 0
              (requestBlocks .plan ++ [.active, .feeders, .releaseHold]) s t))
    ∧ ∀ pl : List Byte,
      ((∀ l : Limits, l.inRange = true → pl ≠ l.bytes) → Due .setLimits .plan pl s → refused .setLimits .badArg)
      ∧ ((∀ (k : Nat) (x : FeederSetting), 1 ≤ k → k ≤ 8 → x.inRange = true → pl ≠ x.bytes k) →
          Due .setFeeder .plan pl s → refused .setFeeder .badArg)

/-- SET_KEY_RULE in CLOSED, by its checks in order: BIN_TAKEN, NO_POOL, IN_USE, and otherwise the slot replaces the
one held, answered with the dedication of the six bins; outside CLOSED it is refused WRONG_STATE (R121, R122).
SET_HEAD_MAP, in CLOSED or with no kind changed: the map and the poll enable replace those held; the entries of
changed addresses are as at power-on, with HEAD_STATE to both ports, in address order and before every other notice,
for those that were not ABSENT, and the others stay; a poll on the line for a changed address is stale, and an
identity read due for one is dropped; the poll position is the address of an identity read still due, or else the
lowest mapped address after the last poll begun, and stays when no kind has changed; every feeder's state is derived
from the new map, and the bins follow a sorter head that has moved; the head addresses are answered (R142, R164,
R168). Outside CLOSED a changed kind is refused WRONG_STATE (R164). That the feeders are derived in number order and
the arbiter decides last (notes/assumptions/22.md), that a poll on the line counts as the last begun
(notes/assumptions/21.md), and what becomes of an identity read due when polling is disabled
(notes/assumptions/15.md), are the model's reading. A payload that spells no slot in range, in CLOSED, or no head map,
is refused BAD_ARG with nothing changed (R122, R164, R203); that a poll enable byte, or an enabled byte, other than 0
and 1 counts among these is the model's choice (notes/assumptions/29.md). -/
def Obligations.KeyRulesAndHeadMapAreReplaced : Prop :=
  ∀ s : State,
    let refused (k : RequestKind) (r : Result) : Prop :=
      ∃ t, exec (k.command .plan) s = .next t ∧ Answered .plan k r [] s t
        ∧ Happened [] [] 0 (requestBlocks .plan) s t
    (∀ (k : Nat) (x : KeyRule), 1 ≤ k → k ≤ 8 → x.inRange = true → Due .setKeyRule .plan (x.bytes k) s →
      let f := { s.profile with keyRules := setNth s.profile.keyRules (k - 1) x }
      let taken : Prop := x.enabled = true ∧ ∃ j ∈ slotNumbers, j ≠ k ∧ (s.profile.keyRule j).enabled = true
        ∧ (s.profile.keyRule j).bin = x.bin
      let noPool : Prop := x.enabled = true ∧ ∀ b ∈ binNumbers, ∃ j ∈ slotNumbers, (f.keyRule j).enabled = true
        ∧ (f.keyRule j).bin = b
      let used : Prop := x.enabled = true ∧ ∃ y, (s.bin x.bin).tray = some y ∧ y.group ≠ .rule k
      (s.run.runState ≠ .closed → refused .setKeyRule .wrongState)
      ∧ (s.run.runState = .closed → taken → refused .setKeyRule .binTaken)
      ∧ (s.run.runState = .closed → ¬ taken → noPool → refused .setKeyRule .noPool)
      ∧ (s.run.runState = .closed → ¬ taken → ¬ noPool → used → refused .setKeyRule .inUse)
      ∧ (s.run.runState = .closed → ¬ taken → ¬ noPool → ¬ used →
        ∃ t, exec (.setKeyRule .plan) s = .next t
          ∧ Answered .plan .setKeyRule .done (x.values ++ binNumbers.map fun b => byteV ((f.dedicatedSlot b).getD 0)) s t
          ∧ t.profile = f ∧ Happened [] [] 0 (requestBlocks .plan ++ [.active]) s t))
    ∧ (∀ (m : Vector HeadKind 16) (enable : Bool), headMapInRange m = true →
        Due .setHeadMap .plan (headMapBytes m enable) s →
      let f := { s.profile with headMap := m, pollEnable := enable }
      let changed : List Nat := headAddresses.filter fun a => nth s.profile.headMap a != nth m a
      let due : Option Nat := s.heads.identityDue.filter fun a => enable && !changed.contains a
      let line : Option Transaction := s.heads.line.map fun x => match x.owner with
        | .slot _ => x
        | .statusPoll | .identityRead => if x.access.address ∈ changed then { x with stale := true } else x
      let mappedAfter (a p : Nat) : Prop := (∀ x ∈ headAddresses, nth m x = .none) ∧ p = 0
        ∨ ∃ k < 16, p = (a + 1 + k) % 16 ∧ nth m p ≠ .none ∧ ∀ j < k, nth m ((a + 1 + j) % 16) = .none
      let resets : List Notice := (changed.filter fun a => (s.head a).state != .absent).map fun a =>
        .headState a (nth m a) .absent none
      (s.run.runState ≠ .closed → changed ≠ [] → refused .setHeadMap .wrongState)
      ∧ (s.run.runState = .closed ∨ changed = [] →
        ∃ t, exec (.setHeadMap .plan) s = .next t
          ∧ Answered .plan .setHeadMap .done ((feederNumbers.map fun k => byteV ((f.feederHead k).getD 255))
              ++ [byteV (f.sorterHead.getD 255)]) s t
          ∧ t.profile = f
          ∧ (∀ a ∈ changed, t.head a = ⟨.absent, 0, none, none, none⟩)
          ∧ (∀ a ∈ headAddresses, a ∉ changed → (enable = true ∨ s.heads.identityDue ≠ some a) → t.head a = s.head a)
          ∧ (changed = [] → t.heads.pollPosition = s.heads.pollPosition)
          ∧ (∀ a, changed ≠ [] → s.heads.identityDue = some a → a ∉ changed → t.heads.pollPosition = a)
          ∧ (changed ≠ [] → (∀ a, s.heads.identityDue = some a → a ∈ changed) →
              mappedAfter (s.heads.lastPoll.getD 15) t.heads.pollPosition)
          ∧ t.heads = ({ s.heads with
              table := t.heads.table, pollPosition := t.heads.pollPosition
              identityDue := due, line := line } : HeadLine).arbitrate f
          ∧ (s.heads.line ≠ none → t.heads.slots = s.heads.slots ∧ t.heads.line = line)
          ∧ (∀ k ∈ feederNumbers, t.feeder k = { s.feeder k with state := t.derivedFeederState k })
          ∧ (∀ q, ∃ others, (t.port q).notices = pushNotices (s.port q).notices (resets ++ others))
          ∧ (f.sorterHead = s.profile.sorterHead → s.checker.releaseHold ≠ .feeder →
              let notices := resets ++ feederNumbers.flatMap fun k => feederNotices k s t
              Happened notices notices 0 (requestBlocks .plan ++ [.active, .headTable, .pollPosition, .identityDue,
                .lastPoll, .slots, .lastGranted, .line, .sent, .feeders]) s t)
          ∧ (f.sorterHead ≠ s.profile.sorterHead →
              let told : State := (s.onActive fun _ => f).onHeads fun h => { h with table := t.heads.table }
              let after := (match told.sorterStatus with
                | some w => told.sorterLost.sorterReturned w
                | none => told.sorterLost).afterEvent s
              t.bins = after.bins ∧ t.census = after.census ∧ t.track = after.track)
          ∧ ChangesOnly (requestBlocks .plan ++ [.active, .headTable, .pollPosition, .identityDue, .lastPoll, .slots,
              .lastGranted, .line, .sent, .feeders, .releaseHold, .bins, .delivery, .closedTrays, .census,
              .reservations, .stall, .trayCounter, .entries, .notices .track, .notices .plan, .flags, .pins]) s t))
    ∧ ∀ pl : List Byte,
      ((∀ (k : Nat) (x : KeyRule), 1 ≤ k → k ≤ 8 → x.inRange = true → pl ≠ x.bytes k) → s.run.runState = .closed →
          Due .setKeyRule .plan pl s → refused .setKeyRule .badArg)
      ∧ ((pl.length ≠ 17 ∨ 1 < byteAt pl 16 ∨ ∃ i < 16, 6 < byteAt pl i / 16
            ∨ byteAt pl i / 16 = 1 ∧ (byteAt pl i % 16 = 0 ∨ 8 < byteAt pl i % 16)) →
          Due .setHeadMap .plan pl s → refused .setHeadMap .badArg)

/-- SAVE_SETTINGS takes the active profile as the snapshot and erases the validity marker, and is refused BUSY during
a save; SAVE_END ends the save: OK leaves the snapshot stored and valid, FAILED leaves no marker and sets SAVE_FAILED,
and SAVE_DONE goes to the plan port (R197, R198). That the old contents and check byte stand under the erased marker
while a save runs is the model's reading (notes/assumptions/23.md), and that SAVE_END has no effect with no save in
progress is its choice (notes/assumptions/26.md). -/
def Obligations.SavesWriteTheSnapshot : Prop :=
  ∀ s : State,
    (Due .saveSettings .plan [] s → s.settings.save = none →
      ∃ t, exec (.saveSettings .plan) s = .next t ∧ Answered .plan .saveSettings .done [] s t
        ∧ t.settings.save = some s.settings.active
        ∧ t.settings.stored = { s.settings.stored with marker := false } ∧ t.settings.stored.valid = false
        ∧ Happened [] [] 0 (requestBlocks .plan ++ [.save, .stored]) s t)
    ∧ (∀ f, Due .saveSettings .plan [] s → s.settings.save = some f →
      ∃ t, exec (.saveSettings .plan) s = .next t ∧ Answered .plan .saveSettings .busy [] s t
        ∧ Happened [] [] 0 (requestBlocks .plan) s t)
    ∧ (∀ f, s.settings.save = some f →
      ∃ t, exec (.saveEnd .ok) s = .next t ∧ t.settings.save = none ∧ t.settings.stored.contents = f
        ∧ t.settings.stored.valid = true ∧ Happened [] [.saveDone .ok] 0 [.save, .stored] s t)
    ∧ (∀ f, s.settings.save = some f →
      ∃ t, exec (.saveEnd .failed) s = .next t ∧ t.settings.save = none ∧ t.settings.stored.valid = false
        ∧ Happened [] [.saveDone .failed] StickyFlag.saveFailed.bit [.save, .stored, .free] s t)
    ∧ (s.settings.save = none → ∀ r,
      ∃ t, exec (.saveEnd r) s = .next t ∧ Happened [] [] 0 [] s t)

/-- POWER_ON_RESET leaves the part starting, with empty queues, no access, no transaction, no save, the hold output
released, and the stored profile as it was, or without its marker when a save was abandoned; POWER_ON_LOAD_END makes
the valid stored profile active, or else the factory profile with PROFILE_DEFAULTED, gives every block its power-on
values, and begins the first status poll when polling is possible (R24, R52, R73, R97, R117, R136, R161, R180, R199,
R201). What the blocks hold while the part is starting, and that POWER_ON_LOAD_END has no effect otherwise, are the
model's choice (notes/assumptions/18.md). -/
def Obligations.PowerOnLoadsTheProfile : Prop :=
  ∀ s : State,
    (∃ t, exec .powerOnReset s = .next t ∧ t.settings.starting = true ∧ t.settings.save = none
        ∧ (s.settings.save = none → t.settings.stored = s.settings.stored)
        ∧ (s.settings.save ≠ none → t.settings.stored.valid = false)
        ∧ (∀ p, t.port p = ⟨[], [], [], []⟩) ∧ t.heads.line = none ∧ t.heads.slots = ⟨.idle, .idle⟩
        ∧ t.run.pieces = [] ∧ t.track.entries = [] ∧ t.pins.hold = false ∧ t.pending = s.pending)
    ∧ (s.settings.starting = true →
      let f := if s.settings.stored.valid then s.settings.stored.contents else factoryProfile
      let first := (headAddresses.find? fun a => nth f.headMap a != .none).getD 0
      ∃ t, exec .powerOnLoadEnd s = .next t ∧ t.settings = { s.settings with active := f, starting := false }
        ∧ t.run = ⟨.closed, 0, .stopped, [], []⟩ ∧ t.checker = ⟨none, none, 0, 0, .inSync, .free⟩
        ∧ (∀ i ∈ stockIds, nth t.sheetMass i = stockSheetMass (nth f.stocks i))
        ∧ (∀ k ∈ feederNumbers, t.feeder k = ⟨if (f.feeder k).enabled then .offline else .disabled, 0, 0, 0⟩)
        ∧ t.track = ⟨[], 0⟩ ∧ t.census = [] ∧ (∀ b ∈ binNumbers, t.bin b = ⟨.offline, none⟩)
        ∧ t.bins.delivery = [] ∧ t.bins.closedTrays = [] ∧ t.bins.reservations = [] ∧ t.bins.stall = none
        ∧ t.bins.trayCounter = 1 ∧ (∀ a ∈ headAddresses, t.head a = ⟨.absent, 0, none, none, none⟩)
        ∧ t.heads.pollPosition = first ∧ t.heads.identityDue = none ∧ t.heads.slots = ⟨.idle, .idle⟩
        ∧ t.heads.lastGranted = .plan
        ∧ t.heads.line = (if f.pollEnable = true ∧ (∃ a ∈ headAddresses, nth f.headMap a ≠ .none) then
            some ⟨.statusPoll, ⟨first, 0, none⟩, false⟩ else none)
        ∧ (∀ p, t.port p = ⟨[], [], [], []⟩)
        ∧ t.flags = (if s.settings.stored.valid then 0 else StickyFlag.profileDefaulted.bit)
        ∧ t.pins = t.outputs ∧ t.pins.hold = false ∧ t.pending = s.pending)
    ∧ (s.settings.starting = false → exec .powerOnLoadEnd s = .next s)

/-! ### The head line -/

/-- A transaction ends. A slot access replied to, refused, answered with a broken reply or not at all leaves its slot
COMPLETE with the outcome, and SLOT_DONE goes to its port (R166, R176). A status poll replied to at an ABSENT, SILENT
or MISMATCH address keeps the word as pending and makes an identity read due, which begins when no slot waits (R169,
R178); an identity read answered with the expected identity makes the address PRESENT with the pending word, another
identity MISMATCH, and one not replied to drops the pending word (R169, R170). A PRESENT head keeps a new status word;
the third failed poll in a row of a PRESENT or MISMATCH head makes it SILENT and sets HEAD_SILENT; fewer are only
counted (R169, R171, R172). A change of state or of the status word goes to both ports as HEAD_STATE, and then to the
owner: a feeder's state is derived again, and the bins follow the sorter head (R173). A stale poll has no effect
(R164). Status words act on the bins one by one as R141 says, a head that leaves PRESENT makes them OFFLINE and one
that returns CLEARING (R141 to R143). The arbiter then grants a waiting slot, of two the one not granted last, or
begins a poll, and nothing else of the head line changes (R178). That a reply is judged without bits 4, 5 and 7 of its
first byte, that a request is sent with bits 4 to 6 of its first byte 0, that an expiry on an idle line has no effect,
and that a reply is judged against the transaction on the line even where it is late for the one before, are the
model's choices (notes/assumptions/20.md and 26.md); that an identity read is due no longer once it has begun, and
that a stale poll leaves the poll position where it stands, are its reading (notes/assumptions/21.md). -/
def Obligations.TransactionsEnd : Prop :=
  (∀ s : State,
    let lineBlocks : List Block := [.line, .sent, .slots, .lastGranted, .lastPoll, .identityDue]
    let noneWaits : Prop := ∀ q, (s.heads.slots.get q).waiting? = none
    let polls : Prop := s.profile.pollEnable = true ∧ ∃ x ∈ headAddresses, nth s.profile.headMap x ≠ .none
    let outcome (a : Access) (bs : List Byte) : LineOutcome :=
      let refusal := (byteAt bs 0).testBit 6
      if bs.length = (if refusal = false ∧ a.write = none then 5 else 3) ∧ crc8 bs = 0
          ∧ byteAt bs 0 % 16 = a.address ∧ byteAt bs 1 = a.index then
        if refusal then .nak else .reply
      else .checkError
    let answer (a i : Nat) (w : Half) : List Byte :=
      let body := toBytes 1 a ++ toBytes 1 i ++ toBytes 2 w.toNat
      body ++ [crc8 body]
    let fails (a i : Nat) (c : Instr) : Prop := c = .replyWindowExpiry
      ∨ ∃ bs, bs ≠ [] ∧ c = .headReply bs ∧ outcome ⟨a, i, none⟩ bs ≠ .reply
    let statusPoll (a : Nat) : Prop := a ≤ 15 ∧ s.heads.line = some ⟨.statusPoll, ⟨a, 0, none⟩, false⟩
    let identityRead (a : Nat) : Prop := a ≤ 15 ∧ s.heads.line = some ⟨.identityRead, ⟨a, 1, none⟩, false⟩
    let decided (h : HeadLine) : HeadLine := h.arbitrate s.profile
    let headIs (a : Nat) (x : HeadEntry) (t : State) : Prop :=
      t.head a = x ∧ (∀ j ∈ headAddresses, j ≠ a → t.head j = s.head j)
        ∧ t.heads.pollPosition = s.profile.nextMapped a
        ∧ t.heads = decided { s.heads with
            line := none, table := setNth s.heads.table a x, pollPosition := s.profile.nextMapped a }
    let quiet (c : Instr) (a : Nat) (x : HeadEntry) : Prop :=
      ∃ t, exec c s = .next t ∧ headIs a x t ∧ Happened [] [] 0 (lineBlocks ++ [.headTable, .pollPosition]) s t
    let dispatched (c : Instr) (a : Nat) (x : HeadEntry) (change : HeadChange) (fl : FlagSet) : Prop :=
      let kind := nth s.profile.headMap a
      let word : Option Half := if x.state = .present then x.lastStatus else none
      let notice : Notice := .headState a kind x.state
        (if x.state = .present then x.lastStatus else if x.state = .mismatch then x.lastIdentity else none)
      ((∀ k, kind = .feeder k → s.profile.feederHead k ≠ some a) → (kind = .sorter → s.profile.sorterHead ≠ some a) →
        ∃ t, exec c s = .next t ∧ headIs a x t
          ∧ Happened [notice] [notice] fl (lineBlocks ++ [.headTable, .pollPosition]) s t)
      ∧ (∀ k ∈ feederNumbers, kind = .feeder k → s.profile.feederHead k = some a →
        let refill := word.elim (s.feeder k).lastRefill fun w => w.toNat / 16 % 16
        ∃ t, exec c s = .next t ∧ headIs a x t
          ∧ t.feeder k = { s.feeder k with
              lastRefill := refill
              missRun := if refill = (s.feeder k).lastRefill then (s.feeder k).missRun else 0
              state := t.derivedFeederState k }
          ∧ (∀ j ∈ feederNumbers, j ≠ k → t.feeder j = s.feeder j)
          ∧ t.checker.releaseHold = holdAfter (feederLifts k s t) s
          ∧ Happened (notice :: feederNotices k s t ++ holdNotices (feederLifts k s t))
              (notice :: feederNotices k s t) fl
              (lineBlocks ++ [.headTable, .pollPosition, .feeders, .releaseHold]) s t)
      ∧ (kind = .sorter → s.profile.sorterHead = some a →
        let told : State := (((s.onHeads fun h => { h with line := none }).onHead a fun _ => x).onFlags
          (· ||| fl)).notifyBoth notice
        let u : State := match word, change with
          | some w, .state => told.sorterReturned w
          | some w, .status => told.applySorterStatus w
          | none, _ => told.sorterLost
        let after := (u.movePoll a).afterEvent s
        ∃ t, exec c s = .next t ∧ headIs a x t ∧ t.bins = after.bins ∧ t.census = after.census ∧ t.track = after.track
          ∧ (∀ q, ∃ others, (t.port q).notices = pushNotices (s.port q).notices (notice :: others))
          ∧ ChangesOnly (lineBlocks ++ [.headTable, .pollPosition, .bins, .delivery, .closedTrays, .reservations, .stall,
              .trayCounter, .entries, .census, .notices .track, .notices .plan, .flags, .pins]) s t)
    (∀ (p : Port) (a : Access) (bs : List Byte), bs ≠ [] → s.heads.line = some ⟨.slot p, a, false⟩ →
      let data : Option Half :=
        if outcome a bs = .reply ∧ a.write = none then some (BitVec.ofNat 16 (byteAt bs 2 * 256 + byteAt bs 3))
        else none
      ∃ t, exec (.headReply bs) s = .next t ∧ t.heads.slots.get p = .complete a (outcome a bs) data
        ∧ t.heads = decided { s.heads with
            line := none, slots := s.heads.slots.modify p fun _ => .complete a (outcome a bs) data }
        ∧ (t.port p).notices = pushNotice (s.port p).notices (.slotDone a (outcome a bs))
        ∧ ChangesOnly (lineBlocks ++ [.notices p, .flags, .pins]) s t)
    ∧ (∀ (p : Port) (a : Access), s.heads.line = some ⟨.slot p, a, false⟩ →
      ∃ t, exec .replyWindowExpiry s = .next t ∧ t.heads.slots.get p = .complete a .noReply none
        ∧ t.heads = decided { s.heads with
            line := none, slots := s.heads.slots.modify p fun _ => .complete a .noReply none }
        ∧ (t.port p).notices = pushNotice (s.port p).notices (.slotDone a .noReply)
        ∧ ChangesOnly (lineBlocks ++ [.notices p, .flags, .pins]) s t)
    ∧ (∀ (a : Nat) (w : Half), statusPoll a → (s.head a).state ≠ .present → s.profile.pollEnable = true →
      let x : HeadEntry := { s.head a with
        pendingStatus := some w
        failedRun := if (s.head a).state = .mismatch then 0 else (s.head a).failedRun }
      ∃ t, exec (.headReply (answer a 0 w)) s = .next t ∧ t.head a = x
        ∧ (∀ j ∈ headAddresses, j ≠ a → t.head j = s.head j) ∧ t.heads.pollPosition = a
        ∧ t.heads = decided { s.heads with
            line := none, table := setNth s.heads.table a x, pollPosition := a, identityDue := some a }
        ∧ (polls → noneWaits → t.heads.line = some ⟨.identityRead, ⟨a, 1, none⟩, false⟩
          ∧ ChangesOnly [.headTable, .pollPosition, .identityDue, .lastPoll, .line, .sent, .notices .track,
              .notices .plan, .flags, .pins] s t)
        ∧ Happened [] [] 0 (lineBlocks ++ [.headTable, .pollPosition]) s t)
    ∧ (∀ (a : Nat) (w : Half), identityRead a →
      let c : Instr := .headReply (answer a 1 w)
      let expected : Prop := nth s.profile.headMap a ≠ .none
        ∧ w.toNat / 4096 = (nth s.profile.headMap a).code / 16
        ∧ ∀ k, nth s.profile.headMap a = .feeder k → w.toNat / 256 % 16 = k
      (expected → dispatched c a ⟨.present, 0, (s.head a).pendingStatus, some w, none⟩ .state 0)
      ∧ (¬ expected → (s.head a).state ≠ .mismatch → dispatched c a { s.head a with
          state := .mismatch, failedRun := 0, lastIdentity := some w, pendingStatus := none } .state 0)
      ∧ (¬ expected → (s.head a).state = .mismatch →
          quiet c a { s.head a with lastIdentity := some w, pendingStatus := none }))
    ∧ (∀ (a : Nat) (c : Instr), identityRead a → fails a 1 c → quiet c a { s.head a with pendingStatus := none })
    ∧ (∀ (a : Nat) (w : Half), statusPoll a → (s.head a).state = .present →
      let c : Instr := .headReply (answer a 0 w)
      ((s.head a).lastStatus = some w → quiet c a { s.head a with failedRun := 0 })
      ∧ ((s.head a).lastStatus ≠ some w →
          dispatched c a { s.head a with failedRun := 0, lastStatus := some w } .status 0))
    ∧ (∀ (a : Nat) (c : Instr), statusPoll a → fails a 0 c →
      let counted : Prop := (s.head a).state = .present ∨ (s.head a).state = .mismatch
      (counted → (s.head a).failedRun ≠ 2 → quiet c a { s.head a with failedRun := (s.head a).failedRun + 1 })
      ∧ (counted → (s.head a).failedRun = 2 → dispatched c a { s.head a with
          state := .silent, failedRun := 0, lastStatus := none, pendingStatus := none } .state
          StickyFlag.headSilent.bit)
      ∧ (¬ counted → quiet c a (s.head a)))
    ∧ (∀ (x : Transaction) (c : Instr), s.heads.line = some x → (∀ p, x.owner ≠ .slot p) → x.stale = true →
        (c = .replyWindowExpiry ∨ ∃ bs, bs ≠ [] ∧ c = .headReply bs) →
      ∃ t, exec c s = .next t ∧ t.heads = decided { s.heads with line := none }
        ∧ Happened [] [] 0 lineBlocks s t)
    ∧ (s.heads.line = none → exec .replyWindowExpiry s = .next s
        ∧ ∀ bs, bs ≠ [] → exec (.headReply bs) s = .next s))
    ∧ (∀ (f : Profile) (h : HeadLine),
      let polls : Prop := f.pollEnable = true ∧ ∃ x ∈ headAddresses, nth f.headMap x ≠ .none
      let granted (p : Port) (a : Access) : Prop := h.arbitrate f =
        { h with
          slots := h.slots.modify p fun _ => .active a, lastGranted := p
          line := some ⟨.slot p, a, false⟩, sent := a.bytes }
      let begun (owner : LineOwner) (a i : Nat) : Prop := h.arbitrate f =
        { h with
          identityDue := none, lastPoll := some a
          line := some ⟨owner, ⟨a, i, none⟩, false⟩, sent := (⟨a, i, none⟩ : Access).bytes }
      (h.line ≠ none → h.arbitrate f = h)
      ∧ (h.line = none →
        (∀ (p q : Port) (a : Access), p ≠ q → h.slots.get p = .waiting a →
          ((h.slots.get q).waiting? = none ∨ h.lastGranted = q) → granted p a)
        ∧ ((∀ q, (h.slots.get q).waiting? = none) →
          (polls → ∀ a, h.identityDue = some a → begun .identityRead a 1)
          ∧ (polls → h.identityDue = none → begun .statusPoll h.pollPosition 0)
          ∧ (¬ polls → h.arbitrate f = h)))
      ∧ ∀ a, a ≤ 15 → (∃ x ∈ headAddresses, nth f.headMap x ≠ .none) →
        ∃ k, k < 16 ∧ f.nextMapped a = (a + 1 + k) % 16 ∧ nth f.headMap (f.nextMapped a) ≠ .none
          ∧ ∀ j < k, nth f.headMap ((a + 1 + j) % 16) = .none)
    ∧ (∀ (w : Half) (b : Nat) (s : State), b ∈ binNumbers → s.sorterStatus = some w →
        (∀ y, (s.bin b).tray = some y → y.state = .opened → 0 < y.reserved) →
      let t := s.applyStatusToBin w b
      let occupied : Prop := w.getLsbD (b - 1) = true
      let fault : Prop := w.getLsbD (b + 7) = true
      let st := (s.bin b).state
      let id := (s.bin b).tray.map Tray.id
      let becomes (x : Bin) (ns : List Notice) : Prop :=
        t.bin b = x ∧ (∀ j ∈ binNumbers, j ≠ b → t.bin j = s.bin j) ∧ Effects ns ns 0 [.bins] s t
      let removed : Prop := st = .opened ∧ ¬ occupied ∧ ∃ y, (s.bin b).tray = some y ∧ y.state = .opened ∧ 0 < y.count
      let frees : Prop := ¬ occupied ∧ (s.bin b).tray = none ∧ (st = .fullWait ∨ st = .clearing)
      (fault → st = .fault → t = s)
      ∧ (fault → st ≠ .fault → becomes ⟨.fault, (s.bin b).tray.map fun y => if y.state = .opened then
            { y with state := .closing, reason := some .binFault } else y⟩ [.binState b .fault id])
      ∧ (¬ fault → st = .fault → ¬ occupied → (s.bin b).tray = none →
          becomes ⟨.free, none⟩ [.binState b .clearing none, .binState b .free none])
      ∧ (¬ fault → st = .fault → (occupied ∨ (s.bin b).tray ≠ none) →
          becomes ⟨.clearing, (s.bin b).tray⟩ [.binState b .clearing id])
      ∧ (¬ fault → removed → becomes ⟨.fullWait, (s.bin b).tray.map fun y =>
            { y with state := .closing, reason := some .removed }⟩ [.binState b .fullWait id])
      ∧ (¬ fault → st = .free → occupied → becomes ⟨.clearing, (s.bin b).tray⟩ [.binState b .clearing id])
      ∧ (¬ fault → frees → becomes ⟨.free, none⟩ [.binState b .free none])
      ∧ (¬ fault → st ≠ .fault → ¬ removed → ¬ (st = .free ∧ occupied) → ¬ frees → t = s))
    ∧ ∀ (w : Half) (s : State),
      s.applySorterStatus w = binNumbers.foldl (fun u b => u.applyStatusToBin w b) s
      ∧ s.sorterReturned w = s.binsBack.applySorterStatus w
      ∧ (let back := binNumbers.filter fun b => (s.bin b).state = .offline
        let notices : List Notice := back.map fun b => .binState b .clearing ((s.bin b).tray.map Tray.id)
        (∀ b ∈ binNumbers, s.binsBack.bin b =
            ⟨if (s.bin b).state = .offline then .clearing else (s.bin b).state, (s.bin b).tray⟩)
          ∧ Effects notices notices 0 [.bins] s s.binsBack)
      ∧ ((∀ b ∈ binNumbers, ∀ y, (s.bin b).tray = some y → y.state = .opened → 0 < y.reserved) →
        let lost := binNumbers.filter fun b => (s.bin b).state ≠ .offline
        let notices : List Notice := lost.map fun b => .binState b .offline ((s.bin b).tray.map Tray.id)
        (∀ b ∈ binNumbers, s.sorterLost.bin b = if (s.bin b).state = .offline then s.bin b else
            ⟨.offline, (s.bin b).tray.map fun y => if y.state = .opened then
              { y with state := .closing, reason := some .binFault } else y⟩)
          ∧ Effects notices notices 0 [.bins] s s.sorterLost)
end

