-- ==== Sys2Proof/Laws/State.lean ====
section
/-! SUPPORT. One lemma per field per update of the state, each true by `rfl`. -/

namespace Sys2Proof.Machine

variable (s : State)

section
variable (f : RunTable → RunTable)
@[simp] theorem State.onRun_run : (s.onRun f).run = f s.run := rfl
@[simp] theorem State.onRun_checker : (s.onRun f).checker = s.checker := rfl
@[simp] theorem State.onRun_sheetMass : (s.onRun f).sheetMass = s.sheetMass := rfl
@[simp] theorem State.onRun_feeders : (s.onRun f).feeders = s.feeders := rfl
@[simp] theorem State.onRun_track : (s.onRun f).track = s.track := rfl
@[simp] theorem State.onRun_census : (s.onRun f).census = s.census := rfl
@[simp] theorem State.onRun_bins : (s.onRun f).bins = s.bins := rfl
@[simp] theorem State.onRun_heads : (s.onRun f).heads = s.heads := rfl
@[simp] theorem State.onRun_ports : (s.onRun f).ports = s.ports := rfl
@[simp] theorem State.onRun_flags : (s.onRun f).flags = s.flags := rfl
@[simp] theorem State.onRun_pins : (s.onRun f).pins = s.pins := rfl
@[simp] theorem State.onRun_settings : (s.onRun f).settings = s.settings := rfl
@[simp] theorem State.onRun_free : (s.onRun f).free = s.free := rfl
@[simp] theorem State.onRun_pending : (s.onRun f).pending = s.pending := rfl
@[simp] theorem State.onRun_port (p : Port) : (s.onRun f).port p = s.port p := rfl
@[simp] theorem State.onRun_profile : (s.onRun f).profile = s.profile := rfl
end

section
variable (f : Checker → Checker)
@[simp] theorem State.onChecker_run : (s.onChecker f).run = s.run := rfl
@[simp] theorem State.onChecker_checker : (s.onChecker f).checker = f s.checker := rfl
@[simp] theorem State.onChecker_sheetMass : (s.onChecker f).sheetMass = s.sheetMass := rfl
@[simp] theorem State.onChecker_feeders : (s.onChecker f).feeders = s.feeders := rfl
@[simp] theorem State.onChecker_track : (s.onChecker f).track = s.track := rfl
@[simp] theorem State.onChecker_census : (s.onChecker f).census = s.census := rfl
@[simp] theorem State.onChecker_bins : (s.onChecker f).bins = s.bins := rfl
@[simp] theorem State.onChecker_heads : (s.onChecker f).heads = s.heads := rfl
@[simp] theorem State.onChecker_ports : (s.onChecker f).ports = s.ports := rfl
@[simp] theorem State.onChecker_flags : (s.onChecker f).flags = s.flags := rfl
@[simp] theorem State.onChecker_pins : (s.onChecker f).pins = s.pins := rfl
@[simp] theorem State.onChecker_settings : (s.onChecker f).settings = s.settings := rfl
@[simp] theorem State.onChecker_free : (s.onChecker f).free = s.free := rfl
@[simp] theorem State.onChecker_pending : (s.onChecker f).pending = s.pending := rfl
@[simp] theorem State.onChecker_port (p : Port) : (s.onChecker f).port p = s.port p := rfl
@[simp] theorem State.onChecker_profile : (s.onChecker f).profile = s.profile := rfl
end

section
variable (f : Vector Nat 4 → Vector Nat 4)
@[simp] theorem State.onSheetMass_run : (s.onSheetMass f).run = s.run := rfl
@[simp] theorem State.onSheetMass_checker : (s.onSheetMass f).checker = s.checker := rfl
@[simp] theorem State.onSheetMass_sheetMass : (s.onSheetMass f).sheetMass = f s.sheetMass := rfl
@[simp] theorem State.onSheetMass_feeders : (s.onSheetMass f).feeders = s.feeders := rfl
@[simp] theorem State.onSheetMass_track : (s.onSheetMass f).track = s.track := rfl
@[simp] theorem State.onSheetMass_census : (s.onSheetMass f).census = s.census := rfl
@[simp] theorem State.onSheetMass_bins : (s.onSheetMass f).bins = s.bins := rfl
@[simp] theorem State.onSheetMass_heads : (s.onSheetMass f).heads = s.heads := rfl
@[simp] theorem State.onSheetMass_ports : (s.onSheetMass f).ports = s.ports := rfl
@[simp] theorem State.onSheetMass_flags : (s.onSheetMass f).flags = s.flags := rfl
@[simp] theorem State.onSheetMass_pins : (s.onSheetMass f).pins = s.pins := rfl
@[simp] theorem State.onSheetMass_settings : (s.onSheetMass f).settings = s.settings := rfl
@[simp] theorem State.onSheetMass_free : (s.onSheetMass f).free = s.free := rfl
@[simp] theorem State.onSheetMass_pending : (s.onSheetMass f).pending = s.pending := rfl
@[simp] theorem State.onSheetMass_port (p : Port) : (s.onSheetMass f).port p = s.port p := rfl
@[simp] theorem State.onSheetMass_profile : (s.onSheetMass f).profile = s.profile := rfl
end

section
variable (f : Vector Feeder 8 → Vector Feeder 8)
@[simp] theorem State.onFeeders_run : (s.onFeeders f).run = s.run := rfl
@[simp] theorem State.onFeeders_checker : (s.onFeeders f).checker = s.checker := rfl
@[simp] theorem State.onFeeders_sheetMass : (s.onFeeders f).sheetMass = s.sheetMass := rfl
@[simp] theorem State.onFeeders_feeders : (s.onFeeders f).feeders = f s.feeders := rfl
@[simp] theorem State.onFeeders_track : (s.onFeeders f).track = s.track := rfl
@[simp] theorem State.onFeeders_census : (s.onFeeders f).census = s.census := rfl
@[simp] theorem State.onFeeders_bins : (s.onFeeders f).bins = s.bins := rfl
@[simp] theorem State.onFeeders_heads : (s.onFeeders f).heads = s.heads := rfl
@[simp] theorem State.onFeeders_ports : (s.onFeeders f).ports = s.ports := rfl
@[simp] theorem State.onFeeders_flags : (s.onFeeders f).flags = s.flags := rfl
@[simp] theorem State.onFeeders_pins : (s.onFeeders f).pins = s.pins := rfl
@[simp] theorem State.onFeeders_settings : (s.onFeeders f).settings = s.settings := rfl
@[simp] theorem State.onFeeders_free : (s.onFeeders f).free = s.free := rfl
@[simp] theorem State.onFeeders_pending : (s.onFeeders f).pending = s.pending := rfl
@[simp] theorem State.onFeeders_port (p : Port) : (s.onFeeders f).port p = s.port p := rfl
@[simp] theorem State.onFeeders_profile : (s.onFeeders f).profile = s.profile := rfl
end

section
variable (f : TrackQueue → TrackQueue)
@[simp] theorem State.onTrack_run : (s.onTrack f).run = s.run := rfl
@[simp] theorem State.onTrack_checker : (s.onTrack f).checker = s.checker := rfl
@[simp] theorem State.onTrack_sheetMass : (s.onTrack f).sheetMass = s.sheetMass := rfl
@[simp] theorem State.onTrack_feeders : (s.onTrack f).feeders = s.feeders := rfl
@[simp] theorem State.onTrack_track : (s.onTrack f).track = f s.track := rfl
@[simp] theorem State.onTrack_census : (s.onTrack f).census = s.census := rfl
@[simp] theorem State.onTrack_bins : (s.onTrack f).bins = s.bins := rfl
@[simp] theorem State.onTrack_heads : (s.onTrack f).heads = s.heads := rfl
@[simp] theorem State.onTrack_ports : (s.onTrack f).ports = s.ports := rfl
@[simp] theorem State.onTrack_flags : (s.onTrack f).flags = s.flags := rfl
@[simp] theorem State.onTrack_pins : (s.onTrack f).pins = s.pins := rfl
@[simp] theorem State.onTrack_settings : (s.onTrack f).settings = s.settings := rfl
@[simp] theorem State.onTrack_free : (s.onTrack f).free = s.free := rfl
@[simp] theorem State.onTrack_pending : (s.onTrack f).pending = s.pending := rfl
@[simp] theorem State.onTrack_port (p : Port) : (s.onTrack f).port p = s.port p := rfl
@[simp] theorem State.onTrack_profile : (s.onTrack f).profile = s.profile := rfl
end

section
variable (f : List CensusEntry → List CensusEntry)
@[simp] theorem State.onCensus_run : (s.onCensus f).run = s.run := rfl
@[simp] theorem State.onCensus_checker : (s.onCensus f).checker = s.checker := rfl
@[simp] theorem State.onCensus_sheetMass : (s.onCensus f).sheetMass = s.sheetMass := rfl
@[simp] theorem State.onCensus_feeders : (s.onCensus f).feeders = s.feeders := rfl
@[simp] theorem State.onCensus_track : (s.onCensus f).track = s.track := rfl
@[simp] theorem State.onCensus_census : (s.onCensus f).census = f s.census := rfl
@[simp] theorem State.onCensus_bins : (s.onCensus f).bins = s.bins := rfl
@[simp] theorem State.onCensus_heads : (s.onCensus f).heads = s.heads := rfl
@[simp] theorem State.onCensus_ports : (s.onCensus f).ports = s.ports := rfl
@[simp] theorem State.onCensus_flags : (s.onCensus f).flags = s.flags := rfl
@[simp] theorem State.onCensus_pins : (s.onCensus f).pins = s.pins := rfl
@[simp] theorem State.onCensus_settings : (s.onCensus f).settings = s.settings := rfl
@[simp] theorem State.onCensus_free : (s.onCensus f).free = s.free := rfl
@[simp] theorem State.onCensus_pending : (s.onCensus f).pending = s.pending := rfl
@[simp] theorem State.onCensus_port (p : Port) : (s.onCensus f).port p = s.port p := rfl
@[simp] theorem State.onCensus_profile : (s.onCensus f).profile = s.profile := rfl
end

section
variable (f : BinManager → BinManager)
@[simp] theorem State.onBins_run : (s.onBins f).run = s.run := rfl
@[simp] theorem State.onBins_checker : (s.onBins f).checker = s.checker := rfl
@[simp] theorem State.onBins_sheetMass : (s.onBins f).sheetMass = s.sheetMass := rfl
@[simp] theorem State.onBins_feeders : (s.onBins f).feeders = s.feeders := rfl
@[simp] theorem State.onBins_track : (s.onBins f).track = s.track := rfl
@[simp] theorem State.onBins_census : (s.onBins f).census = s.census := rfl
@[simp] theorem State.onBins_bins : (s.onBins f).bins = f s.bins := rfl
@[simp] theorem State.onBins_heads : (s.onBins f).heads = s.heads := rfl
@[simp] theorem State.onBins_ports : (s.onBins f).ports = s.ports := rfl
@[simp] theorem State.onBins_flags : (s.onBins f).flags = s.flags := rfl
@[simp] theorem State.onBins_pins : (s.onBins f).pins = s.pins := rfl
@[simp] theorem State.onBins_settings : (s.onBins f).settings = s.settings := rfl
@[simp] theorem State.onBins_free : (s.onBins f).free = s.free := rfl
@[simp] theorem State.onBins_pending : (s.onBins f).pending = s.pending := rfl
@[simp] theorem State.onBins_port (p : Port) : (s.onBins f).port p = s.port p := rfl
@[simp] theorem State.onBins_profile : (s.onBins f).profile = s.profile := rfl
end

section
variable (f : HeadLine → HeadLine)
@[simp] theorem State.onHeads_run : (s.onHeads f).run = s.run := rfl
@[simp] theorem State.onHeads_checker : (s.onHeads f).checker = s.checker := rfl
@[simp] theorem State.onHeads_sheetMass : (s.onHeads f).sheetMass = s.sheetMass := rfl
@[simp] theorem State.onHeads_feeders : (s.onHeads f).feeders = s.feeders := rfl
@[simp] theorem State.onHeads_track : (s.onHeads f).track = s.track := rfl
@[simp] theorem State.onHeads_census : (s.onHeads f).census = s.census := rfl
@[simp] theorem State.onHeads_bins : (s.onHeads f).bins = s.bins := rfl
@[simp] theorem State.onHeads_heads : (s.onHeads f).heads = f s.heads := rfl
@[simp] theorem State.onHeads_ports : (s.onHeads f).ports = s.ports := rfl
@[simp] theorem State.onHeads_flags : (s.onHeads f).flags = s.flags := rfl
@[simp] theorem State.onHeads_pins : (s.onHeads f).pins = s.pins := rfl
@[simp] theorem State.onHeads_settings : (s.onHeads f).settings = s.settings := rfl
@[simp] theorem State.onHeads_free : (s.onHeads f).free = s.free := rfl
@[simp] theorem State.onHeads_pending : (s.onHeads f).pending = s.pending := rfl
@[simp] theorem State.onHeads_port (p : Port) : (s.onHeads f).port p = s.port p := rfl
@[simp] theorem State.onHeads_profile : (s.onHeads f).profile = s.profile := rfl
end

section
variable (f : FlagSet → FlagSet)
@[simp] theorem State.onFlags_run : (s.onFlags f).run = s.run := rfl
@[simp] theorem State.onFlags_checker : (s.onFlags f).checker = s.checker := rfl
@[simp] theorem State.onFlags_sheetMass : (s.onFlags f).sheetMass = s.sheetMass := rfl
@[simp] theorem State.onFlags_feeders : (s.onFlags f).feeders = s.feeders := rfl
@[simp] theorem State.onFlags_track : (s.onFlags f).track = s.track := rfl
@[simp] theorem State.onFlags_census : (s.onFlags f).census = s.census := rfl
@[simp] theorem State.onFlags_bins : (s.onFlags f).bins = s.bins := rfl
@[simp] theorem State.onFlags_heads : (s.onFlags f).heads = s.heads := rfl
@[simp] theorem State.onFlags_ports : (s.onFlags f).ports = s.ports := rfl
@[simp] theorem State.onFlags_flags : (s.onFlags f).flags = f s.flags := rfl
@[simp] theorem State.onFlags_pins : (s.onFlags f).pins = s.pins := rfl
@[simp] theorem State.onFlags_settings : (s.onFlags f).settings = s.settings := rfl
@[simp] theorem State.onFlags_free : (s.onFlags f).free = s.free := rfl
@[simp] theorem State.onFlags_pending : (s.onFlags f).pending = s.pending := rfl
@[simp] theorem State.onFlags_port (p : Port) : (s.onFlags f).port p = s.port p := rfl
@[simp] theorem State.onFlags_profile : (s.onFlags f).profile = s.profile := rfl
end

section
variable (f : Pins → Pins)
@[simp] theorem State.onPins_run : (s.onPins f).run = s.run := rfl
@[simp] theorem State.onPins_checker : (s.onPins f).checker = s.checker := rfl
@[simp] theorem State.onPins_sheetMass : (s.onPins f).sheetMass = s.sheetMass := rfl
@[simp] theorem State.onPins_feeders : (s.onPins f).feeders = s.feeders := rfl
@[simp] theorem State.onPins_track : (s.onPins f).track = s.track := rfl
@[simp] theorem State.onPins_census : (s.onPins f).census = s.census := rfl
@[simp] theorem State.onPins_bins : (s.onPins f).bins = s.bins := rfl
@[simp] theorem State.onPins_heads : (s.onPins f).heads = s.heads := rfl
@[simp] theorem State.onPins_ports : (s.onPins f).ports = s.ports := rfl
@[simp] theorem State.onPins_flags : (s.onPins f).flags = s.flags := rfl
@[simp] theorem State.onPins_pins : (s.onPins f).pins = f s.pins := rfl
@[simp] theorem State.onPins_settings : (s.onPins f).settings = s.settings := rfl
@[simp] theorem State.onPins_free : (s.onPins f).free = s.free := rfl
@[simp] theorem State.onPins_pending : (s.onPins f).pending = s.pending := rfl
@[simp] theorem State.onPins_port (p : Port) : (s.onPins f).port p = s.port p := rfl
@[simp] theorem State.onPins_profile : (s.onPins f).profile = s.profile := rfl
end

section
variable (f : Settings → Settings)
@[simp] theorem State.onSettings_run : (s.onSettings f).run = s.run := rfl
@[simp] theorem State.onSettings_checker : (s.onSettings f).checker = s.checker := rfl
@[simp] theorem State.onSettings_sheetMass : (s.onSettings f).sheetMass = s.sheetMass := rfl
@[simp] theorem State.onSettings_feeders : (s.onSettings f).feeders = s.feeders := rfl
@[simp] theorem State.onSettings_track : (s.onSettings f).track = s.track := rfl
@[simp] theorem State.onSettings_census : (s.onSettings f).census = s.census := rfl
@[simp] theorem State.onSettings_bins : (s.onSettings f).bins = s.bins := rfl
@[simp] theorem State.onSettings_heads : (s.onSettings f).heads = s.heads := rfl
@[simp] theorem State.onSettings_ports : (s.onSettings f).ports = s.ports := rfl
@[simp] theorem State.onSettings_flags : (s.onSettings f).flags = s.flags := rfl
@[simp] theorem State.onSettings_pins : (s.onSettings f).pins = s.pins := rfl
@[simp] theorem State.onSettings_settings : (s.onSettings f).settings = f s.settings := rfl
@[simp] theorem State.onSettings_free : (s.onSettings f).free = s.free := rfl
@[simp] theorem State.onSettings_pending : (s.onSettings f).pending = s.pending := rfl
@[simp] theorem State.onSettings_port (p : Port) : (s.onSettings f).port p = s.port p := rfl
@[simp] theorem State.onSettings_profile : (s.onSettings f).profile = (f s.settings).active := rfl
end

section
variable (f : Nat → Nat)
@[simp] theorem State.onFree_run : (s.onFree f).run = s.run := rfl
@[simp] theorem State.onFree_checker : (s.onFree f).checker = s.checker := rfl
@[simp] theorem State.onFree_sheetMass : (s.onFree f).sheetMass = s.sheetMass := rfl
@[simp] theorem State.onFree_feeders : (s.onFree f).feeders = s.feeders := rfl
@[simp] theorem State.onFree_track : (s.onFree f).track = s.track := rfl
@[simp] theorem State.onFree_census : (s.onFree f).census = s.census := rfl
@[simp] theorem State.onFree_bins : (s.onFree f).bins = s.bins := rfl
@[simp] theorem State.onFree_heads : (s.onFree f).heads = s.heads := rfl
@[simp] theorem State.onFree_ports : (s.onFree f).ports = s.ports := rfl
@[simp] theorem State.onFree_flags : (s.onFree f).flags = s.flags := rfl
@[simp] theorem State.onFree_pins : (s.onFree f).pins = s.pins := rfl
@[simp] theorem State.onFree_settings : (s.onFree f).settings = s.settings := rfl
@[simp] theorem State.onFree_free : (s.onFree f).free = f s.free := rfl
@[simp] theorem State.onFree_pending : (s.onFree f).pending = s.pending := rfl
@[simp] theorem State.onFree_port (p : Port) : (s.onFree f).port p = s.port p := rfl
@[simp] theorem State.onFree_profile : (s.onFree f).profile = s.profile := rfl
end

section
variable (f : PortState → PortState) (p : Port)
@[simp] theorem State.onPort_run : (s.onPort p f).run = s.run := rfl
@[simp] theorem State.onPort_checker : (s.onPort p f).checker = s.checker := rfl
@[simp] theorem State.onPort_sheetMass : (s.onPort p f).sheetMass = s.sheetMass := rfl
@[simp] theorem State.onPort_feeders : (s.onPort p f).feeders = s.feeders := rfl
@[simp] theorem State.onPort_track : (s.onPort p f).track = s.track := rfl
@[simp] theorem State.onPort_census : (s.onPort p f).census = s.census := rfl
@[simp] theorem State.onPort_bins : (s.onPort p f).bins = s.bins := rfl
@[simp] theorem State.onPort_heads : (s.onPort p f).heads = s.heads := rfl
@[simp] theorem State.onPort_ports : (s.onPort p f).ports = s.ports.modify p f := rfl
@[simp] theorem State.onPort_flags : (s.onPort p f).flags = s.flags := rfl
@[simp] theorem State.onPort_pins : (s.onPort p f).pins = s.pins := rfl
@[simp] theorem State.onPort_settings : (s.onPort p f).settings = s.settings := rfl
@[simp] theorem State.onPort_free : (s.onPort p f).free = s.free := rfl
@[simp] theorem State.onPort_pending : (s.onPort p f).pending = s.pending := rfl
@[simp] theorem State.onPort_profile : (s.onPort p f).profile = s.profile := rfl
@[simp] theorem State.onPort_port : (s.onPort p f).port p = f (s.port p) := by cases p <;> rfl
theorem State.onPort_port_ne {q : Port} (h : q ≠ p) : (s.onPort p f).port q = s.port q := by
  cases p <;> cases q <;> first | rfl | exact absurd rfl h
@[simp] theorem State.onPort_track_plan : (s.onPort .track f).port .plan = s.port .plan := rfl
@[simp] theorem State.onPort_plan_track : (s.onPort .plan f).port .track = s.port .track := rfl
end

section
variable (f : Profile → Profile)
@[simp] theorem State.onActive_run : (s.onActive f).run = s.run := rfl
@[simp] theorem State.onActive_checker : (s.onActive f).checker = s.checker := rfl
@[simp] theorem State.onActive_sheetMass : (s.onActive f).sheetMass = s.sheetMass := rfl
@[simp] theorem State.onActive_feeders : (s.onActive f).feeders = s.feeders := rfl
@[simp] theorem State.onActive_track : (s.onActive f).track = s.track := rfl
@[simp] theorem State.onActive_census : (s.onActive f).census = s.census := rfl
@[simp] theorem State.onActive_bins : (s.onActive f).bins = s.bins := rfl
@[simp] theorem State.onActive_heads : (s.onActive f).heads = s.heads := rfl
@[simp] theorem State.onActive_ports : (s.onActive f).ports = s.ports := rfl
@[simp] theorem State.onActive_flags : (s.onActive f).flags = s.flags := rfl
@[simp] theorem State.onActive_pins : (s.onActive f).pins = s.pins := rfl
@[simp] theorem State.onActive_settings : (s.onActive f).settings = { s.settings with active := f s.settings.active } := rfl
@[simp] theorem State.onActive_free : (s.onActive f).free = s.free := rfl
@[simp] theorem State.onActive_pending : (s.onActive f).pending = s.pending := rfl
@[simp] theorem State.onActive_port (p : Port) : (s.onActive f).port p = s.port p := rfl
@[simp] theorem State.onActive_profile : (s.onActive f).profile = f s.profile := rfl
end

section
variable (q : List Instr)
@[simp] theorem State.withPending_run : (s.withPending q).run = s.run := rfl
@[simp] theorem State.withPending_checker : (s.withPending q).checker = s.checker := rfl
@[simp] theorem State.withPending_sheetMass : (s.withPending q).sheetMass = s.sheetMass := rfl
@[simp] theorem State.withPending_feeders : (s.withPending q).feeders = s.feeders := rfl
@[simp] theorem State.withPending_track : (s.withPending q).track = s.track := rfl
@[simp] theorem State.withPending_census : (s.withPending q).census = s.census := rfl
@[simp] theorem State.withPending_bins : (s.withPending q).bins = s.bins := rfl
@[simp] theorem State.withPending_heads : (s.withPending q).heads = s.heads := rfl
@[simp] theorem State.withPending_ports : (s.withPending q).ports = s.ports := rfl
@[simp] theorem State.withPending_flags : (s.withPending q).flags = s.flags := rfl
@[simp] theorem State.withPending_pins : (s.withPending q).pins = s.pins := rfl
@[simp] theorem State.withPending_settings : (s.withPending q).settings = s.settings := rfl
@[simp] theorem State.withPending_free : (s.withPending q).free = s.free := rfl
@[simp] theorem State.withPending_pending : (s.withPending q).pending = q := rfl
@[simp] theorem State.withPending_port (p : Port) : (s.withPending q).port p = s.port p := rfl
@[simp] theorem State.withPending_profile : (s.withPending q).profile = s.profile := rfl
end

/-! ### The pair of ports -/

@[simp] theorem PerPort.get_modify {α : Type} (x : PerPort α) (p : Port) (f : α → α) :
    (x.modify p f).get p = f (x.get p) := by cases p <;> rfl

theorem PerPort.get_modify_ne {α : Type} (x : PerPort α) {p q : Port} (f : α → α) (h : q ≠ p) :
    (x.modify p f).get q = x.get q := by cases p <;> cases q <;> first | rfl | exact absurd rfl h

/-! ### Numbered tables -/

@[simp] theorem nth_setNth {α : Type} {n : Nat} (v : Vector α (n + 1)) (i : Nat) (a : α) :
    nth (setNth v i a) i = a := by simp [nth, setNth]

theorem nth_setNth_ne {α : Type} {n : Nat} (v : Vector α (n + 1)) {i j : Nat} (a : α) (hi : i ≤ n)
    (hj : j ≤ n) (h : j ≠ i) : nth (setNth v i a) j = nth v j := by
  simp [nth, setNth, Nat.min_eq_left hi, Nat.min_eq_left hj, Vector.getElem_set_ne _ _ h.symm]

end Sys2Proof.Machine
end

