-- ==== Sys2Proof/Laws/Requests.lean ====
section
/-! SUPPORT. What the shared operations of the ports do: the frame check, notices and flags, the execution of a
request that is due, and the response it leaves. -/

namespace Sys2Proof.Machine

/-! ### The frame check (R185) -/

theorem crcStep_zero : crcStep 0 = 0 := by decide

/-- A byte equal to the register brings it to 0. -/
theorem crcByte_self (r : Byte) : crcByte r r = 0 := by simp [crcByte, show crcStep 0#8 = 0#8 from crcStep_zero]

theorem crc8_append (xs ys : List Byte) : crc8 (xs ++ ys) = ys.foldl crcByte (crc8 xs) :=
  List.foldl_append

/-- Bytes followed by their check pass the check. -/
theorem crc8_append_check (xs : List Byte) : crc8 (xs ++ [crc8 xs]) = 0 := by
  simp [crc8_append, crcByte_self]

/-! ### Request frames -/

section
variable {k : RequestKind} {pl : List Byte}

@[simp] theorem frameKind_requestFrame : frameKind (requestFrame k pl) = k.code := rfl

theorem frameBroken_requestFrame (h : pl.length ≤ 250) : frameBroken (requestFrame k pl) = false := by
  have hl : byteAt (requestFrame k pl) 1 = pl.length := by
    simp [byteAt, requestFrame, Nat.mod_eq_of_lt (by omega : pl.length < 256)]
  have hn : (requestFrame k pl).length = pl.length + 3 := by simp [requestFrame]
  have hc : crc8 (requestFrame k pl) = 0 := crc8_append_check _
  simp [frameBroken, hl, hn, hc, h]

@[simp] theorem framePayload_requestFrame : framePayload (requestFrame k pl) = pl := by
  simp [framePayload, requestFrame]

end

theorem RequestKind.code_injective : ∀ {a b : RequestKind}, a.code = b.code → a = b := by
  intro a b; cases a <;> cases b <;> first | (intro _; rfl) | (intro h; exact absurd h (by decide))

/-! ### Executing a request that is due (R186) -/

section
variable {k : RequestKind} {p : Port} {pl : List Byte} {s : State}

theorem Due.frame (h : Due k p pl s) : s.dueFrame p = some (requestFrame k pl) := by
  simp [State.dueFrame, h.1, h.2.2]

/-- A request that is due, permitted and of an allowed length is handed to its rule. -/
theorem serve_due {body : List Byte → State → State × Reply} (h : Due k p pl s)
    (hp : k.permitted p = true) (hl : k.lengthAllowed pl.length = true) :
    serve k p body s =
      (body pl (s.dropFrame p)).1.answerFrame p (requestFrame k pl) (body pl (s.dropFrame p)).2 := by
  simp [serve, h.frame, frameBroken_requestFrame h.2.1, hp, hl]

theorem serve_due_notPermitted {body : List Byte → State → State × Reply} (h : Due k p pl s)
    (hp : k.permitted p = false) :
    serve k p body s = (s.dropFrame p).answerFrame p (requestFrame k pl) (refuse .notPermitted) := by
  simp [serve, h.frame, frameBroken_requestFrame h.2.1, hp]

theorem serve_due_wrongLength {body : List Byte → State → State × Reply} (h : Due k p pl s)
    (hp : k.permitted p = true) (hl : k.lengthAllowed pl.length = false) :
    serve k p body s = (s.dropFrame p).answerFrame p (requestFrame k pl) (refuse .badArg) := by
  simp [serve, h.frame, frameBroken_requestFrame h.2.1, hp, hl]

/-- With nothing due, the command changes nothing. -/
theorem serve_idle {body : List Byte → State → State × Reply} (h : s.dueFrame p = none) :
    serve k p body s = s := by simp [serve, h]

/-- What a `serve` that does something does. -/
theorem serve_cases {body : List Byte → State → State × Reply} (k : RequestKind) (p : Port) (s : State) :
    serve k p body s = s ∨ ∃ f, s.dueFrame p = some f ∧
      ((∃ r, serve k p body s = (s.dropFrame p).answerFrame p f (refuse r)) ∨
        serve k p body s = (body (framePayload f) (s.dropFrame p)).1.answerFrame p f
          (body (framePayload f) (s.dropFrame p)).2) := by
  unfold serve
  split
  · exact .inl rfl
  · rename_i f hf
    split
    · exact .inl rfl
    · refine .inr ⟨f, hf, ?_⟩
      dsimp only
      split
      · exact .inl ⟨_, rfl⟩
      · split
        · exact .inl ⟨_, rfl⟩
        · exact .inr rfl

end

/-! ### Small operations, field by field -/

section
variable (s : State) (p q : Port) (f : StickyFlag) (n : Notice) (r : Response)

theorem State.raise_eq : s.raise f = { s with flags := s.flags ||| f.bit } := rfl

@[simp] theorem State.raise_fields :
    (s.raise f).run = s.run ∧ (s.raise f).checker = s.checker ∧ (s.raise f).sheetMass = s.sheetMass
    ∧ (s.raise f).feeders = s.feeders ∧ (s.raise f).track = s.track ∧ (s.raise f).census = s.census
    ∧ (s.raise f).bins = s.bins ∧ (s.raise f).heads = s.heads ∧ (s.raise f).ports = s.ports
    ∧ (s.raise f).flags = s.flags ||| f.bit ∧ (s.raise f).pins = s.pins
    ∧ (s.raise f).settings = s.settings ∧ (s.raise f).free = s.free ∧ (s.raise f).pending = s.pending
    ∧ (s.raise f).profile = s.profile ∧ (∀ q, (s.raise f).port q = s.port q) := by
  repeat' constructor
  exact fun _ => rfl

@[simp] theorem State.notify_fields :
    (s.notify p n).run = s.run ∧ (s.notify p n).checker = s.checker
    ∧ (s.notify p n).sheetMass = s.sheetMass ∧ (s.notify p n).feeders = s.feeders
    ∧ (s.notify p n).track = s.track ∧ (s.notify p n).census = s.census ∧ (s.notify p n).bins = s.bins
    ∧ (s.notify p n).heads = s.heads ∧ (s.notify p n).pins = s.pins
    ∧ (s.notify p n).settings = s.settings ∧ (s.notify p n).free = s.free
    ∧ (s.notify p n).pending = s.pending ∧ (s.notify p n).profile = s.profile := by
  unfold State.notify; split <;> simp

@[simp] theorem State.notify_queues :
    ((s.notify p n).port q).intake = (s.port q).intake
    ∧ ((s.notify p n).port q).responses = (s.port q).responses
    ∧ ((s.notify p n).port q).shifted = (s.port q).shifted := by
  unfold State.notify; split <;> cases p <;> cases q <;> simp

/-- What sending a notice does to the queue it is sent to (R192). -/
@[simp] theorem State.notify_notices :
    ((s.notify p n).port p).notices = pushNotice (s.port p).notices n := by
  unfold State.notify pushNotice; split <;> simp

theorem State.notify_notices_ne (h : q ≠ p) :
    ((s.notify p n).port q).notices = (s.port q).notices := by
  unfold State.notify; split <;> simp [State.onPort_port_ne _ _ _ h]

@[simp] theorem State.notify_track_plan :
    ((s.notify .track n).port .plan).notices = (s.port .plan).notices :=
  s.notify_notices_ne _ _ n (by decide)

@[simp] theorem State.notify_plan_track :
    ((s.notify .plan n).port .track).notices = (s.port .track).notices :=
  s.notify_notices_ne _ _ n (by decide)

/-- A dropped notice sets the NOTICE_LOST flag of its port (R192). -/
@[simp] theorem State.notify_flags :
    (s.notify p n).flags = s.flags ||| s.lostFlag p [n] := by
  unfold State.notify State.lostFlag pushNotices
  simp only [List.foldl, pushNotice]
  split <;> simp_all

@[simp] theorem State.notifyBoth_fields :
    (s.notifyBoth n).run = s.run ∧ (s.notifyBoth n).checker = s.checker
    ∧ (s.notifyBoth n).sheetMass = s.sheetMass ∧ (s.notifyBoth n).feeders = s.feeders
    ∧ (s.notifyBoth n).track = s.track ∧ (s.notifyBoth n).census = s.census
    ∧ (s.notifyBoth n).bins = s.bins ∧ (s.notifyBoth n).heads = s.heads
    ∧ (s.notifyBoth n).pins = s.pins ∧ (s.notifyBoth n).settings = s.settings
    ∧ (s.notifyBoth n).free = s.free ∧ (s.notifyBoth n).pending = s.pending
    ∧ (s.notifyBoth n).profile = s.profile := by simp [State.notifyBoth]

@[simp] theorem State.notifyBoth_queues :
    ((s.notifyBoth n).port q).intake = (s.port q).intake
    ∧ ((s.notifyBoth n).port q).responses = (s.port q).responses
    ∧ ((s.notifyBoth n).port q).shifted = (s.port q).shifted := by simp [State.notifyBoth]

@[simp] theorem State.notifyBoth_notices :
    ((s.notifyBoth n).port q).notices = pushNotice (s.port q).notices n := by
  cases q <;> simp [State.notifyBoth]

@[simp] theorem State.settle_fields :
    s.settle.run = s.run ∧ s.settle.checker = s.checker ∧ s.settle.sheetMass = s.sheetMass
    ∧ s.settle.feeders = s.feeders ∧ s.settle.track = s.track ∧ s.settle.census = s.census
    ∧ s.settle.bins = s.bins ∧ s.settle.heads = s.heads ∧ s.settle.ports = s.ports
    ∧ s.settle.flags = s.flags ∧ s.settle.pins = s.outputs ∧ s.settle.settings = s.settings
    ∧ s.settle.free = s.free ∧ s.settle.pending = s.pending ∧ s.settle.profile = s.profile
    ∧ (∀ p, s.settle.port p = s.port p) := by
  repeat' constructor
  exact fun _ => rfl

/-- The output lines follow after `settle` (R194, R195). -/
theorem State.settle_outputs : s.settle.pins = s.settle.outputs := rfl

@[simp] theorem State.dropFrame_fields :
    (s.dropFrame p).run = s.run ∧ (s.dropFrame p).checker = s.checker
    ∧ (s.dropFrame p).sheetMass = s.sheetMass ∧ (s.dropFrame p).feeders = s.feeders
    ∧ (s.dropFrame p).track = s.track ∧ (s.dropFrame p).census = s.census
    ∧ (s.dropFrame p).bins = s.bins ∧ (s.dropFrame p).heads = s.heads
    ∧ (s.dropFrame p).flags = s.flags ∧ (s.dropFrame p).pins = s.pins
    ∧ (s.dropFrame p).settings = s.settings ∧ (s.dropFrame p).free = s.free
    ∧ (s.dropFrame p).pending = s.pending ∧ (s.dropFrame p).profile = s.profile := by
  repeat' constructor

@[simp] theorem State.dropFrame_port :
    ((s.dropFrame p).port q).responses = (s.port q).responses
    ∧ ((s.dropFrame p).port q).notices = (s.port q).notices
    ∧ ((s.dropFrame p).port q).shifted = (s.port q).shifted := by
  cases p <;> cases q <;> simp [State.dropFrame]

@[simp] theorem State.dropFrame_intake :
    ((s.dropFrame p).port p).intake = (s.port p).intake.drop 1 := by simp [State.dropFrame]

theorem State.dropFrame_intake_ne (h : q ≠ p) :
    ((s.dropFrame p).port q).intake = (s.port q).intake := by
  simp [State.dropFrame, State.onPort_port_ne _ _ _ h]

@[simp] theorem State.respond_fields :
    (s.respond p r).run = s.run ∧ (s.respond p r).checker = s.checker
    ∧ (s.respond p r).sheetMass = s.sheetMass ∧ (s.respond p r).feeders = s.feeders
    ∧ (s.respond p r).track = s.track ∧ (s.respond p r).census = s.census
    ∧ (s.respond p r).bins = s.bins ∧ (s.respond p r).heads = s.heads
    ∧ (s.respond p r).flags = s.flags ∧ (s.respond p r).pins = s.pins
    ∧ (s.respond p r).settings = s.settings ∧ (s.respond p r).free = s.free
    ∧ (s.respond p r).pending = s.pending ∧ (s.respond p r).profile = s.profile := by
  repeat' constructor

@[simp] theorem State.respond_port :
    ((s.respond p r).port q).intake = (s.port q).intake
    ∧ ((s.respond p r).port q).notices = (s.port q).notices
    ∧ ((s.respond p r).port q).shifted = (s.port q).shifted := by
  cases p <;> cases q <;> simp [State.respond]

@[simp] theorem State.respond_responses :
    ((s.respond p r).port p).responses = (s.port p).responses ++ [r] := by simp [State.respond]

theorem State.respond_responses_ne (h : q ≠ p) :
    ((s.respond p r).port q).responses = (s.port q).responses := by
  simp [State.respond, State.onPort_port_ne _ _ _ h]

end

/-! ### What an executed request leaves -/

section
variable (s : State) (p q : Port) (f : List Byte) (r : Reply)

@[simp] theorem State.answerFrame_fields :
    (s.answerFrame p f r).run = s.run ∧ (s.answerFrame p f r).checker = s.checker
    ∧ (s.answerFrame p f r).sheetMass = s.sheetMass ∧ (s.answerFrame p f r).feeders = s.feeders
    ∧ (s.answerFrame p f r).track = s.track ∧ (s.answerFrame p f r).census = s.census
    ∧ (s.answerFrame p f r).bins = s.bins ∧ (s.answerFrame p f r).heads = s.heads
    ∧ (s.answerFrame p f r).flags = s.flags ∧ (s.answerFrame p f r).settings = s.settings
    ∧ (s.answerFrame p f r).free = s.free ∧ (s.answerFrame p f r).pending = s.pending
    ∧ (s.answerFrame p f r).profile = s.profile := by simp [State.answerFrame]

@[simp] theorem State.answerFrame_port :
    ((s.answerFrame p f r).port q).intake = (s.port q).intake
    ∧ ((s.answerFrame p f r).port q).notices = (s.port q).notices
    ∧ ((s.answerFrame p f r).port q).shifted = (s.port q).shifted := by simp [State.answerFrame]

@[simp] theorem State.answerFrame_responses :
    ((s.answerFrame p f r).port p).responses
      = (s.port p).responses ++ [⟨frameKind f, r.result, r.answer⟩] := by simp [State.answerFrame]

theorem State.answerFrame_responses_ne (h : q ≠ p) :
    ((s.answerFrame p f r).port q).responses = (s.port q).responses := by
  simp [State.answerFrame, State.respond_responses_ne _ _ _ _ h]

theorem State.answerFrame_outputs : (s.answerFrame p f r).pins = (s.answerFrame p f r).outputs := rfl

end

/-! ### Runs of operations -/

/-- A projection that one operation keeps is kept by a run of it over a list. -/
theorem foldl_keeps {α β : Type} (g : State → α → State) (proj : State → β)
    (h : ∀ s a, proj (g s a) = proj s) (xs : List α) (s : State) :
    proj (xs.foldl g s) = proj s := by
  induction xs generalizing s with
  | nil => rfl
  | cons x xs ih => simp [ih, h]

/-- A property that one operation keeps is kept by a run of it over a list. -/
theorem foldl_preserves {α : Type} (g : State → α → State) (P : State → Prop)
    (h : ∀ s a, P s → P (g s a)) (xs : List α) (s : State) (hs : P s) : P (xs.foldl g s) := by
  induction xs generalizing s with
  | nil => exact hs
  | cons x xs ih => exact ih _ (h _ _ hs)

/-! ### Notice queues -/

/-- One more notice neither brings a queue over its capacity nor back within it. -/
theorem pushNotice_length_le_iff {ns : List Notice} {n : Notice} :
    (pushNotice ns n).length ≤ noticeCapacity ↔ ns.length ≤ noticeCapacity := by
  unfold pushNotice; split
  · simp; omega
  · rfl

end Sys2Proof.Machine
end

