-- ==== Sys2Proof/Laws/Shell.lean ====
section
/-! SUPPORT. The part of the state that no operation of a block touches, and the bound of the notice queues: what
the updates and the notices do to them. -/

namespace Sys2Proof.Machine

/-- What the operations of the blocks leave alone: the intakes and response queues, the output lines, the stored
profile and the save, and the model's own fields. -/
def State.shell (s : State) :=
  (((s.port .track).intake, (s.port .track).responses, (s.port .track).shifted),
   ((s.port .plan).intake, (s.port .plan).responses, (s.port .plan).shifted),
   s.pins, (s.settings.stored, s.settings.save, s.settings.starting), s.free, s.pending)

/-- The notice queues are within their capacity (R192). -/
def NoticesBounded (s : State) : Prop := ∀ p, (s.port p).notices.length ≤ noticeCapacity

section
variable (s : State)
@[simp] theorem State.onRun_shell (f) : (s.onRun f).shell = s.shell := rfl
@[simp] theorem State.onChecker_shell (f) : (s.onChecker f).shell = s.shell := rfl
@[simp] theorem State.onSheetMass_shell (f) : (s.onSheetMass f).shell = s.shell := rfl
@[simp] theorem State.onFeeders_shell (f) : (s.onFeeders f).shell = s.shell := rfl
@[simp] theorem State.onTrack_shell (f) : (s.onTrack f).shell = s.shell := rfl
@[simp] theorem State.onCensus_shell (f) : (s.onCensus f).shell = s.shell := rfl
@[simp] theorem State.onBins_shell (f) : (s.onBins f).shell = s.shell := rfl
@[simp] theorem State.onHeads_shell (f) : (s.onHeads f).shell = s.shell := rfl
@[simp] theorem State.onFlags_shell (f) : (s.onFlags f).shell = s.shell := rfl
@[simp] theorem State.onActive_shell (f) : (s.onActive f).shell = s.shell := rfl
@[simp] theorem State.raise_shell (f) : (s.raise f).shell = s.shell := rfl
@[simp] theorem State.notify_shell (p n) : (s.notify p n).shell = s.shell := by simp [State.shell]
@[simp] theorem State.notifyBoth_shell (n) : (s.notifyBoth n).shell = s.shell := by
  simp [State.notifyBoth]

@[simp] theorem State.onRun_NB (f) : NoticesBounded (s.onRun f) ↔ NoticesBounded s := Iff.rfl
@[simp] theorem State.onChecker_NB (f) : NoticesBounded (s.onChecker f) ↔ NoticesBounded s := Iff.rfl
@[simp] theorem State.onSheetMass_NB (f) : NoticesBounded (s.onSheetMass f) ↔ NoticesBounded s := Iff.rfl
@[simp] theorem State.onFeeders_NB (f) : NoticesBounded (s.onFeeders f) ↔ NoticesBounded s := Iff.rfl
@[simp] theorem State.onTrack_NB (f) : NoticesBounded (s.onTrack f) ↔ NoticesBounded s := Iff.rfl
@[simp] theorem State.onCensus_NB (f) : NoticesBounded (s.onCensus f) ↔ NoticesBounded s := Iff.rfl
@[simp] theorem State.onBins_NB (f) : NoticesBounded (s.onBins f) ↔ NoticesBounded s := Iff.rfl
@[simp] theorem State.onHeads_NB (f) : NoticesBounded (s.onHeads f) ↔ NoticesBounded s := Iff.rfl
@[simp] theorem State.onFlags_NB (f) : NoticesBounded (s.onFlags f) ↔ NoticesBounded s := Iff.rfl
@[simp] theorem State.onActive_NB (f) : NoticesBounded (s.onActive f) ↔ NoticesBounded s := Iff.rfl
@[simp] theorem State.onSettings_NB (f) : NoticesBounded (s.onSettings f) ↔ NoticesBounded s := Iff.rfl
@[simp] theorem State.onPins_NB (f) : NoticesBounded (s.onPins f) ↔ NoticesBounded s := Iff.rfl
@[simp] theorem State.onFree_NB (f) : NoticesBounded (s.onFree f) ↔ NoticesBounded s := Iff.rfl
@[simp] theorem State.raise_NB (f) : NoticesBounded (s.raise f) ↔ NoticesBounded s := Iff.rfl
@[simp] theorem State.settle_NB : NoticesBounded s.settle ↔ NoticesBounded s := Iff.rfl
@[simp] theorem State.notify_NB (p n) : NoticesBounded (s.notify p n) ↔ NoticesBounded s := by
  refine forall_congr' fun q => ?_
  by_cases hq : q = p
  · subst hq; simpa using pushNotice_length_le_iff
  · simp [State.notify_notices_ne _ _ _ _ hq]
@[simp] theorem State.notifyBoth_NB (n) : NoticesBounded (s.notifyBoth n) ↔ NoticesBounded s := by
  simp [State.notifyBoth]
end

end Sys2Proof.Machine
end

