-- ==== Sys2Proof/Laws/FramesBins.lean ====
section
/-! SUPPORT. What the operations over the piece table, the census, the bins and the trays leave unchanged. -/

namespace Sys2Proof.Machine

@[simp] theorem State.onPiece_frame (id : PieceId) (f : Piece → Piece) (s : State) :
    (State.onPiece id f s).checker = s.checker ∧ (State.onPiece id f s).sheetMass = s.sheetMass
    ∧ (State.onPiece id f s).feeders = s.feeders ∧ (State.onPiece id f s).track = s.track
    ∧ (State.onPiece id f s).census = s.census ∧ (State.onPiece id f s).bins = s.bins
    ∧ (State.onPiece id f s).heads = s.heads ∧ (State.onPiece id f s).settings = s.settings
    ∧ (State.onPiece id f s).shell = s.shell ∧ (State.onPiece id f s).profile = s.profile
    ∧ (NoticesBounded (State.onPiece id f s) ↔ NoticesBounded s) := by
  simp [State.onPiece]

@[simp] theorem State.addCause_frame (id : PieceId) (c : Cause) (s : State) :
    (State.addCause id c s).checker = s.checker ∧ (State.addCause id c s).sheetMass = s.sheetMass
    ∧ (State.addCause id c s).feeders = s.feeders ∧ (State.addCause id c s).track = s.track
    ∧ (State.addCause id c s).census = s.census ∧ (State.addCause id c s).bins = s.bins
    ∧ (State.addCause id c s).heads = s.heads ∧ (State.addCause id c s).settings = s.settings
    ∧ (State.addCause id c s).shell = s.shell ∧ (State.addCause id c s).profile = s.profile
    ∧ (NoticesBounded (State.addCause id c s) ↔ NoticesBounded s) := by
  simp [State.addCause]

@[simp] theorem State.addCauses_frame (id : PieceId) (cs : List Cause) (s : State) :
    (State.addCauses id cs s).checker = s.checker ∧ (State.addCauses id cs s).sheetMass = s.sheetMass
    ∧ (State.addCauses id cs s).feeders = s.feeders ∧ (State.addCauses id cs s).track = s.track
    ∧ (State.addCauses id cs s).census = s.census ∧ (State.addCauses id cs s).bins = s.bins
    ∧ (State.addCauses id cs s).heads = s.heads ∧ (State.addCauses id cs s).settings = s.settings
    ∧ (State.addCauses id cs s).shell = s.shell ∧ (State.addCauses id cs s).profile = s.profile
    ∧ (NoticesBounded (State.addCauses id cs s) ↔ NoticesBounded s) := by
  unfold State.addCauses
  simpa using foldl_keeps _ (fun s => (s.checker, s.sheetMass, s.feeders, s.track, s.census, s.bins, s.heads, s.settings, s.shell, s.profile, NoticesBounded s))
    (by intros; (repeat' split) <;> simp) _ _

@[simp] theorem State.onEntry_frame (tag : Nat) (f : TrackEntry → TrackEntry) (s : State) :
    (State.onEntry tag f s).run = s.run ∧ (State.onEntry tag f s).checker = s.checker
    ∧ (State.onEntry tag f s).sheetMass = s.sheetMass ∧ (State.onEntry tag f s).feeders = s.feeders
    ∧ (State.onEntry tag f s).census = s.census ∧ (State.onEntry tag f s).bins = s.bins
    ∧ (State.onEntry tag f s).heads = s.heads ∧ (State.onEntry tag f s).settings = s.settings
    ∧ (State.onEntry tag f s).shell = s.shell ∧ (State.onEntry tag f s).profile = s.profile
    ∧ (NoticesBounded (State.onEntry tag f s) ↔ NoticesBounded s) := by
  simp [State.onEntry]

@[simp] theorem State.areaAnswer_frame (a : List Nat) (s : State) :
    (State.areaAnswer a s).1.run = s.run ∧ (State.areaAnswer a s).1.checker = s.checker
    ∧ (State.areaAnswer a s).1.sheetMass = s.sheetMass ∧ (State.areaAnswer a s).1.feeders = s.feeders
    ∧ (State.areaAnswer a s).1.track = s.track ∧ (State.areaAnswer a s).1.bins = s.bins
    ∧ (State.areaAnswer a s).1.heads = s.heads ∧ (State.areaAnswer a s).1.settings = s.settings
    ∧ (State.areaAnswer a s).1.shell = s.shell ∧ (State.areaAnswer a s).1.profile = s.profile
    ∧ (NoticesBounded (State.areaAnswer a s).1 ↔ NoticesBounded s) := by
  unfold State.areaAnswer; (repeat' split) <;> simp

@[simp] theorem State.levelAnswer_frame (r : Piece) (s : State) :
    (State.levelAnswer r s).1.run = s.run ∧ (State.levelAnswer r s).1.checker = s.checker
    ∧ (State.levelAnswer r s).1.sheetMass = s.sheetMass ∧ (State.levelAnswer r s).1.feeders = s.feeders
    ∧ (State.levelAnswer r s).1.track = s.track ∧ (State.levelAnswer r s).1.bins = s.bins
    ∧ (State.levelAnswer r s).1.heads = s.heads ∧ (State.levelAnswer r s).1.settings = s.settings
    ∧ (State.levelAnswer r s).1.shell = s.shell ∧ (State.levelAnswer r s).1.profile = s.profile
    ∧ (NoticesBounded (State.levelAnswer r s).1 ↔ NoticesBounded s) := by
  unfold State.levelAnswer; dsimp only; (repeat' split) <;> simp

@[simp] theorem State.onBin_frame (b : Nat) (f : Bin → Bin) (s : State) :
    (State.onBin b f s).run = s.run ∧ (State.onBin b f s).checker = s.checker
    ∧ (State.onBin b f s).sheetMass = s.sheetMass ∧ (State.onBin b f s).feeders = s.feeders
    ∧ (State.onBin b f s).track = s.track ∧ (State.onBin b f s).census = s.census
    ∧ (State.onBin b f s).heads = s.heads ∧ (State.onBin b f s).settings = s.settings
    ∧ (State.onBin b f s).shell = s.shell ∧ (State.onBin b f s).profile = s.profile
    ∧ (NoticesBounded (State.onBin b f s) ↔ NoticesBounded s) := by
  simp [State.onBin]

@[simp] theorem State.onTray_frame (b : Nat) (f : Tray → Tray) (s : State) :
    (State.onTray b f s).run = s.run ∧ (State.onTray b f s).checker = s.checker
    ∧ (State.onTray b f s).sheetMass = s.sheetMass ∧ (State.onTray b f s).feeders = s.feeders
    ∧ (State.onTray b f s).track = s.track ∧ (State.onTray b f s).census = s.census
    ∧ (State.onTray b f s).heads = s.heads ∧ (State.onTray b f s).settings = s.settings
    ∧ (State.onTray b f s).shell = s.shell ∧ (State.onTray b f s).profile = s.profile
    ∧ (NoticesBounded (State.onTray b f s) ↔ NoticesBounded s) := by
  simp [State.onTray]

@[simp] theorem State.setBinState_frame (b : Nat) (st : BinState) (s : State) :
    (State.setBinState b st s).run = s.run ∧ (State.setBinState b st s).checker = s.checker
    ∧ (State.setBinState b st s).sheetMass = s.sheetMass ∧ (State.setBinState b st s).feeders = s.feeders
    ∧ (State.setBinState b st s).track = s.track ∧ (State.setBinState b st s).census = s.census
    ∧ (State.setBinState b st s).heads = s.heads ∧ (State.setBinState b st s).settings = s.settings
    ∧ (State.setBinState b st s).shell = s.shell ∧ (State.setBinState b st s).profile = s.profile
    ∧ (NoticesBounded (State.setBinState b st s) ↔ NoticesBounded s) := by
  simp [State.setBinState]

@[simp] theorem State.releaseTest_frame (b : Nat) (s : State) :
    (State.releaseTest b s).run = s.run ∧ (State.releaseTest b s).checker = s.checker
    ∧ (State.releaseTest b s).sheetMass = s.sheetMass ∧ (State.releaseTest b s).feeders = s.feeders
    ∧ (State.releaseTest b s).track = s.track ∧ (State.releaseTest b s).census = s.census
    ∧ (State.releaseTest b s).heads = s.heads ∧ (State.releaseTest b s).settings = s.settings
    ∧ (State.releaseTest b s).shell = s.shell ∧ (State.releaseTest b s).profile = s.profile
    ∧ (NoticesBounded (State.releaseTest b s) ↔ NoticesBounded s) := by
  unfold State.releaseTest; (repeat' split) <;> simp

@[simp] theorem State.removeAreaIfDone_frame (a : List Nat) (s : State) :
    (State.removeAreaIfDone a s).run = s.run ∧ (State.removeAreaIfDone a s).checker = s.checker
    ∧ (State.removeAreaIfDone a s).sheetMass = s.sheetMass
    ∧ (State.removeAreaIfDone a s).feeders = s.feeders ∧ (State.removeAreaIfDone a s).track = s.track
    ∧ (State.removeAreaIfDone a s).bins = s.bins ∧ (State.removeAreaIfDone a s).heads = s.heads
    ∧ (State.removeAreaIfDone a s).settings = s.settings ∧ (State.removeAreaIfDone a s).shell = s.shell
    ∧ (State.removeAreaIfDone a s).profile = s.profile
    ∧ (NoticesBounded (State.removeAreaIfDone a s) ↔ NoticesBounded s) := by
  unfold State.removeAreaIfDone; split <;> simp

@[simp] theorem State.removeFineIfDone_frame (d : List Nat) (s : State) :
    (State.removeFineIfDone d s).run = s.run ∧ (State.removeFineIfDone d s).checker = s.checker
    ∧ (State.removeFineIfDone d s).sheetMass = s.sheetMass
    ∧ (State.removeFineIfDone d s).feeders = s.feeders ∧ (State.removeFineIfDone d s).track = s.track
    ∧ (State.removeFineIfDone d s).bins = s.bins ∧ (State.removeFineIfDone d s).heads = s.heads
    ∧ (State.removeFineIfDone d s).settings = s.settings ∧ (State.removeFineIfDone d s).shell = s.shell
    ∧ (State.removeFineIfDone d s).profile = s.profile
    ∧ (NoticesBounded (State.removeFineIfDone d s) ↔ NoticesBounded s) := by
  unfold State.removeFineIfDone; split <;> simp

@[simp] theorem State.trayClosedReport_frame (g : TrayGroup) (s : State) :
    (State.trayClosedReport g s).run = s.run ∧ (State.trayClosedReport g s).checker = s.checker
    ∧ (State.trayClosedReport g s).sheetMass = s.sheetMass
    ∧ (State.trayClosedReport g s).feeders = s.feeders ∧ (State.trayClosedReport g s).track = s.track
    ∧ (State.trayClosedReport g s).bins = s.bins ∧ (State.trayClosedReport g s).heads = s.heads
    ∧ (State.trayClosedReport g s).settings = s.settings ∧ (State.trayClosedReport g s).shell = s.shell
    ∧ (State.trayClosedReport g s).profile = s.profile
    ∧ (NoticesBounded (State.trayClosedReport g s) ↔ NoticesBounded s) := by
  unfold State.trayClosedReport; split <;> simp

@[simp] theorem State.deliverTray_frame (b : Nat) (t : Tray) (s : State) :
    (State.deliverTray b t s).run = s.run ∧ (State.deliverTray b t s).checker = s.checker
    ∧ (State.deliverTray b t s).sheetMass = s.sheetMass ∧ (State.deliverTray b t s).feeders = s.feeders
    ∧ (State.deliverTray b t s).track = s.track ∧ (State.deliverTray b t s).census = s.census
    ∧ (State.deliverTray b t s).heads = s.heads ∧ (State.deliverTray b t s).settings = s.settings
    ∧ (State.deliverTray b t s).shell = s.shell ∧ (State.deliverTray b t s).profile = s.profile
    ∧ (NoticesBounded (State.deliverTray b t s) ↔ NoticesBounded s) := by
  simp [State.deliverTray]

@[simp] theorem State.deliverOldest_frame (s : State) :
    (State.deliverOldest s).run = s.run ∧ (State.deliverOldest s).checker = s.checker
    ∧ (State.deliverOldest s).sheetMass = s.sheetMass ∧ (State.deliverOldest s).feeders = s.feeders
    ∧ (State.deliverOldest s).track = s.track ∧ (State.deliverOldest s).census = s.census
    ∧ (State.deliverOldest s).heads = s.heads ∧ (State.deliverOldest s).settings = s.settings
    ∧ (State.deliverOldest s).shell = s.shell ∧ (State.deliverOldest s).profile = s.profile
    ∧ (NoticesBounded (State.deliverOldest s) ↔ NoticesBounded s) := by
  unfold State.deliverOldest; dsimp only; (repeat' split) <;> simp

@[simp] theorem State.deliverWaiting_frame (a0 : Nat) (a1 : State) :
    (State.deliverWaiting a0 a1).run = a1.run ∧ (State.deliverWaiting a0 a1).checker = a1.checker
    ∧ (State.deliverWaiting a0 a1).sheetMass = a1.sheetMass
    ∧ (State.deliverWaiting a0 a1).feeders = a1.feeders ∧ (State.deliverWaiting a0 a1).track = a1.track
    ∧ (State.deliverWaiting a0 a1).heads = a1.heads ∧ (State.deliverWaiting a0 a1).settings = a1.settings
    ∧ (State.deliverWaiting a0 a1).shell = a1.shell ∧ (State.deliverWaiting a0 a1).profile = a1.profile
    ∧ (NoticesBounded (State.deliverWaiting a0 a1) ↔ NoticesBounded a1) := by
  induction a0 generalizing a1 with
  | zero => simp [State.deliverWaiting]
  | succ n ih => unfold State.deliverWaiting; split <;> simp [ih]

@[simp] theorem State.joinDelivery_frame (b : Nat) (s : State) :
    (State.joinDelivery b s).run = s.run ∧ (State.joinDelivery b s).checker = s.checker
    ∧ (State.joinDelivery b s).sheetMass = s.sheetMass ∧ (State.joinDelivery b s).feeders = s.feeders
    ∧ (State.joinDelivery b s).track = s.track ∧ (State.joinDelivery b s).heads = s.heads
    ∧ (State.joinDelivery b s).settings = s.settings ∧ (State.joinDelivery b s).shell = s.shell
    ∧ (State.joinDelivery b s).profile = s.profile
    ∧ (NoticesBounded (State.joinDelivery b s) ↔ NoticesBounded s) := by
  unfold State.joinDelivery; split <;> simp

@[simp] theorem State.closeIfEmptied_frame (b : Nat) (s : State) :
    (State.closeIfEmptied b s).run = s.run ∧ (State.closeIfEmptied b s).checker = s.checker
    ∧ (State.closeIfEmptied b s).sheetMass = s.sheetMass ∧ (State.closeIfEmptied b s).feeders = s.feeders
    ∧ (State.closeIfEmptied b s).track = s.track ∧ (State.closeIfEmptied b s).heads = s.heads
    ∧ (State.closeIfEmptied b s).settings = s.settings ∧ (State.closeIfEmptied b s).shell = s.shell
    ∧ (State.closeIfEmptied b s).profile = s.profile
    ∧ (NoticesBounded (State.closeIfEmptied b s) ↔ NoticesBounded s) := by
  unfold State.closeIfEmptied; (repeat' split) <;> simp

@[simp] theorem State.beginClosing_frame (b : Nat) (reason : CloseReason) (s : State) :
    (State.beginClosing b reason s).run = s.run ∧ (State.beginClosing b reason s).checker = s.checker
    ∧ (State.beginClosing b reason s).sheetMass = s.sheetMass
    ∧ (State.beginClosing b reason s).feeders = s.feeders ∧ (State.beginClosing b reason s).track = s.track
    ∧ (State.beginClosing b reason s).heads = s.heads
    ∧ (State.beginClosing b reason s).settings = s.settings
    ∧ (State.beginClosing b reason s).shell = s.shell ∧ (State.beginClosing b reason s).profile = s.profile
    ∧ (NoticesBounded (State.beginClosing b reason s) ↔ NoticesBounded s) := by
  unfold State.beginClosing; dsimp only; (repeat' split) <;> simp

@[simp] theorem State.groupEnd_frame (g : TrayGroup) (s : State) :
    (State.groupEnd g s).run = s.run ∧ (State.groupEnd g s).checker = s.checker
    ∧ (State.groupEnd g s).sheetMass = s.sheetMass ∧ (State.groupEnd g s).feeders = s.feeders
    ∧ (State.groupEnd g s).track = s.track ∧ (State.groupEnd g s).heads = s.heads
    ∧ (State.groupEnd g s).settings = s.settings ∧ (State.groupEnd g s).shell = s.shell
    ∧ (State.groupEnd g s).profile = s.profile ∧ (NoticesBounded (State.groupEnd g s) ↔ NoticesBounded s) := by
  unfold State.groupEnd; split <;> simp

@[simp] theorem State.closeAllTrays_frame (s : State) :
    (State.closeAllTrays s).run = s.run ∧ (State.closeAllTrays s).checker = s.checker
    ∧ (State.closeAllTrays s).sheetMass = s.sheetMass ∧ (State.closeAllTrays s).feeders = s.feeders
    ∧ (State.closeAllTrays s).track = s.track ∧ (State.closeAllTrays s).heads = s.heads
    ∧ (State.closeAllTrays s).settings = s.settings ∧ (State.closeAllTrays s).shell = s.shell
    ∧ (State.closeAllTrays s).profile = s.profile
    ∧ (NoticesBounded (State.closeAllTrays s) ↔ NoticesBounded s) := by
  unfold State.closeAllTrays
  simpa using foldl_keeps _ (fun s => (s.run, s.checker, s.sheetMass, s.feeders, s.track, s.heads, s.settings, s.shell, s.profile, NoticesBounded s))
    (by intros; (repeat' split) <;> simp) _ _

@[simp] theorem State.applyStatusToBin_frame (w : Half) (b : Nat) (s : State) :
    (State.applyStatusToBin w b s).run = s.run ∧ (State.applyStatusToBin w b s).checker = s.checker
    ∧ (State.applyStatusToBin w b s).sheetMass = s.sheetMass
    ∧ (State.applyStatusToBin w b s).feeders = s.feeders ∧ (State.applyStatusToBin w b s).track = s.track
    ∧ (State.applyStatusToBin w b s).heads = s.heads ∧ (State.applyStatusToBin w b s).settings = s.settings
    ∧ (State.applyStatusToBin w b s).shell = s.shell ∧ (State.applyStatusToBin w b s).profile = s.profile
    ∧ (NoticesBounded (State.applyStatusToBin w b s) ↔ NoticesBounded s) := by
  unfold State.applyStatusToBin; dsimp only; (repeat' split) <;> simp

@[simp] theorem State.applySorterStatus_frame (w : Half) (s : State) :
    (State.applySorterStatus w s).run = s.run ∧ (State.applySorterStatus w s).checker = s.checker
    ∧ (State.applySorterStatus w s).sheetMass = s.sheetMass
    ∧ (State.applySorterStatus w s).feeders = s.feeders ∧ (State.applySorterStatus w s).track = s.track
    ∧ (State.applySorterStatus w s).heads = s.heads ∧ (State.applySorterStatus w s).settings = s.settings
    ∧ (State.applySorterStatus w s).shell = s.shell ∧ (State.applySorterStatus w s).profile = s.profile
    ∧ (NoticesBounded (State.applySorterStatus w s) ↔ NoticesBounded s) := by
  unfold State.applySorterStatus
  simpa using foldl_keeps _ (fun s => (s.run, s.checker, s.sheetMass, s.feeders, s.track, s.heads, s.settings, s.shell, s.profile, NoticesBounded s))
    (by intros; (repeat' split) <;> simp) _ _

@[simp] theorem State.sorterLost_frame (s : State) :
    (State.sorterLost s).run = s.run ∧ (State.sorterLost s).checker = s.checker
    ∧ (State.sorterLost s).sheetMass = s.sheetMass ∧ (State.sorterLost s).feeders = s.feeders
    ∧ (State.sorterLost s).track = s.track ∧ (State.sorterLost s).heads = s.heads
    ∧ (State.sorterLost s).settings = s.settings ∧ (State.sorterLost s).shell = s.shell
    ∧ (State.sorterLost s).profile = s.profile ∧ (NoticesBounded (State.sorterLost s) ↔ NoticesBounded s) := by
  unfold State.sorterLost
  simpa using foldl_keeps _ (fun s => (s.run, s.checker, s.sheetMass, s.feeders, s.track, s.heads, s.settings, s.shell, s.profile, NoticesBounded s))
    (by intros; (repeat' split) <;> simp) _ _

@[simp] theorem State.binsBack_frame (s : State) :
    (State.binsBack s).run = s.run ∧ (State.binsBack s).checker = s.checker
    ∧ (State.binsBack s).sheetMass = s.sheetMass ∧ (State.binsBack s).feeders = s.feeders
    ∧ (State.binsBack s).track = s.track ∧ (State.binsBack s).census = s.census
    ∧ (State.binsBack s).heads = s.heads ∧ (State.binsBack s).settings = s.settings
    ∧ (State.binsBack s).shell = s.shell ∧ (State.binsBack s).profile = s.profile
    ∧ (NoticesBounded (State.binsBack s) ↔ NoticesBounded s) := by
  unfold State.binsBack
  simpa using foldl_keeps _ (fun s => (s.run, s.checker, s.sheetMass, s.feeders, s.track, s.census, s.heads, s.settings, s.shell, s.profile, NoticesBounded s))
    (by intros; (repeat' split) <;> simp) _ _

@[simp] theorem State.sorterReturned_frame (w : Half) (s : State) :
    (State.sorterReturned w s).run = s.run ∧ (State.sorterReturned w s).checker = s.checker
    ∧ (State.sorterReturned w s).sheetMass = s.sheetMass ∧ (State.sorterReturned w s).feeders = s.feeders
    ∧ (State.sorterReturned w s).track = s.track ∧ (State.sorterReturned w s).heads = s.heads
    ∧ (State.sorterReturned w s).settings = s.settings ∧ (State.sorterReturned w s).shell = s.shell
    ∧ (State.sorterReturned w s).profile = s.profile
    ∧ (NoticesBounded (State.sorterReturned w s) ↔ NoticesBounded s) := by
  simp [State.sorterReturned]

@[simp] theorem State.openTray_frame (b : Nat) (g : TrayGroup) (s : State) :
    (State.openTray b g s).run = s.run ∧ (State.openTray b g s).checker = s.checker
    ∧ (State.openTray b g s).sheetMass = s.sheetMass ∧ (State.openTray b g s).feeders = s.feeders
    ∧ (State.openTray b g s).track = s.track ∧ (State.openTray b g s).census = s.census
    ∧ (State.openTray b g s).heads = s.heads ∧ (State.openTray b g s).settings = s.settings
    ∧ (State.openTray b g s).shell = s.shell ∧ (State.openTray b g s).profile = s.profile
    ∧ (NoticesBounded (State.openTray b g s) ↔ NoticesBounded s) := by
  simp [State.openTray]

@[simp] theorem State.reserve_frame (b : Nat) (tag : Nat) (m : Nat) (s : State) :
    (State.reserve b tag m s).run = s.run ∧ (State.reserve b tag m s).checker = s.checker
    ∧ (State.reserve b tag m s).sheetMass = s.sheetMass ∧ (State.reserve b tag m s).feeders = s.feeders
    ∧ (State.reserve b tag m s).track = s.track ∧ (State.reserve b tag m s).heads = s.heads
    ∧ (State.reserve b tag m s).settings = s.settings ∧ (State.reserve b tag m s).shell = s.shell
    ∧ (State.reserve b tag m s).profile = s.profile
    ∧ (NoticesBounded (State.reserve b tag m s) ↔ NoticesBounded s) := by
  unfold State.reserve; dsimp only; (repeat' split) <;> simp

@[simp] theorem State.dropReservation_frame (tag : Nat) (s : State) :
    (State.dropReservation tag s).run = s.run ∧ (State.dropReservation tag s).checker = s.checker
    ∧ (State.dropReservation tag s).sheetMass = s.sheetMass
    ∧ (State.dropReservation tag s).feeders = s.feeders ∧ (State.dropReservation tag s).track = s.track
    ∧ (State.dropReservation tag s).census = s.census ∧ (State.dropReservation tag s).heads = s.heads
    ∧ (State.dropReservation tag s).settings = s.settings ∧ (State.dropReservation tag s).shell = s.shell
    ∧ (State.dropReservation tag s).profile = s.profile
    ∧ (NoticesBounded (State.dropReservation tag s) ↔ NoticesBounded s) := by
  simp [State.dropReservation]

@[simp] theorem State.onReservedTray_frame (b : Nat) (x : Reservation) (f : Tray → Tray) (s : State) :
    (State.onReservedTray b x f s).run = s.run ∧ (State.onReservedTray b x f s).checker = s.checker
    ∧ (State.onReservedTray b x f s).sheetMass = s.sheetMass ∧ (State.onReservedTray b x f s).feeders = s.feeders
    ∧ (State.onReservedTray b x f s).track = s.track ∧ (State.onReservedTray b x f s).census = s.census
    ∧ (State.onReservedTray b x f s).heads = s.heads ∧ (State.onReservedTray b x f s).settings = s.settings
    ∧ (State.onReservedTray b x f s).shell = s.shell ∧ (State.onReservedTray b x f s).profile = s.profile
    ∧ (NoticesBounded (State.onReservedTray b x f s) ↔ NoticesBounded s) := by
  simp [State.onReservedTray]

@[simp] theorem State.releaseReservation_frame (tag b : Nat) (s : State) :
    (State.releaseReservation tag b s).run = s.run ∧ (State.releaseReservation tag b s).checker = s.checker
    ∧ (State.releaseReservation tag b s).sheetMass = s.sheetMass
    ∧ (State.releaseReservation tag b s).feeders = s.feeders
    ∧ (State.releaseReservation tag b s).track = s.track ∧ (State.releaseReservation tag b s).heads = s.heads
    ∧ (State.releaseReservation tag b s).settings = s.settings
    ∧ (State.releaseReservation tag b s).shell = s.shell
    ∧ (State.releaseReservation tag b s).profile = s.profile
    ∧ (NoticesBounded (State.releaseReservation tag b s) ↔ NoticesBounded s) := by
  unfold State.releaseReservation; (repeat' split) <;> simp

@[simp] theorem State.areaTest_frame (a : List Nat) (before : Nat) (s : State) :
    (State.areaTest a before s).run = s.run ∧ (State.areaTest a before s).checker = s.checker
    ∧ (State.areaTest a before s).sheetMass = s.sheetMass ∧ (State.areaTest a before s).feeders = s.feeders
    ∧ (State.areaTest a before s).track = s.track ∧ (State.areaTest a before s).heads = s.heads
    ∧ (State.areaTest a before s).settings = s.settings ∧ (State.areaTest a before s).shell = s.shell
    ∧ (State.areaTest a before s).profile = s.profile
    ∧ (NoticesBounded (State.areaTest a before s) ↔ NoticesBounded s) := by
  unfold State.areaTest; split <;> simp

@[simp] theorem State.countFalls_frame (d : List Nat) (s : State) :
    (State.countFalls d s).run = s.run ∧ (State.countFalls d s).checker = s.checker
    ∧ (State.countFalls d s).sheetMass = s.sheetMass ∧ (State.countFalls d s).feeders = s.feeders
    ∧ (State.countFalls d s).track = s.track ∧ (State.countFalls d s).heads = s.heads
    ∧ (State.countFalls d s).settings = s.settings ∧ (State.countFalls d s).shell = s.shell
    ∧ (State.countFalls d s).profile = s.profile
    ∧ (NoticesBounded (State.countFalls d s) ↔ NoticesBounded s) := by
  unfold State.countFalls; dsimp only; (repeat' split) <;> simp

@[simp] theorem State.countRises_frame (d : List Nat) (s : State) :
    (State.countRises d s).run = s.run ∧ (State.countRises d s).checker = s.checker
    ∧ (State.countRises d s).sheetMass = s.sheetMass ∧ (State.countRises d s).feeders = s.feeders
    ∧ (State.countRises d s).track = s.track ∧ (State.countRises d s).heads = s.heads
    ∧ (State.countRises d s).settings = s.settings ∧ (State.countRises d s).shell = s.shell
    ∧ (State.countRises d s).profile = s.profile
    ∧ (NoticesBounded (State.countRises d s) ↔ NoticesBounded s) := by
  unfold State.countRises; split <;> simp

@[simp] theorem State.classify_frame (r : Piece) (s : State) :
    (State.classify r s).checker = s.checker ∧ (State.classify r s).sheetMass = s.sheetMass
    ∧ (State.classify r s).feeders = s.feeders ∧ (State.classify r s).track = s.track
    ∧ (State.classify r s).heads = s.heads ∧ (State.classify r s).settings = s.settings
    ∧ (State.classify r s).shell = s.shell ∧ (State.classify r s).profile = s.profile
    ∧ (NoticesBounded (State.classify r s) ↔ NoticesBounded s) := by
  unfold State.classify; dsimp only; (repeat' split) <;> simp

@[simp] theorem State.withdraw_frame (r : Piece) (s : State) :
    (State.withdraw r s).run = s.run ∧ (State.withdraw r s).checker = s.checker
    ∧ (State.withdraw r s).sheetMass = s.sheetMass ∧ (State.withdraw r s).feeders = s.feeders
    ∧ (State.withdraw r s).track = s.track ∧ (State.withdraw r s).heads = s.heads
    ∧ (State.withdraw r s).settings = s.settings ∧ (State.withdraw r s).shell = s.shell
    ∧ (State.withdraw r s).profile = s.profile ∧ (NoticesBounded (State.withdraw r s) ↔ NoticesBounded s) := by
  unfold State.withdraw; split <;> simp

@[simp] theorem State.reclassify_frame (old : Piece) (new : Piece) (s : State) :
    (State.reclassify old new s).checker = s.checker ∧ (State.reclassify old new s).sheetMass = s.sheetMass
    ∧ (State.reclassify old new s).feeders = s.feeders ∧ (State.reclassify old new s).track = s.track
    ∧ (State.reclassify old new s).heads = s.heads ∧ (State.reclassify old new s).settings = s.settings
    ∧ (State.reclassify old new s).shell = s.shell ∧ (State.reclassify old new s).profile = s.profile
    ∧ (NoticesBounded (State.reclassify old new s) ↔ NoticesBounded s) := by
  unfold State.reclassify; dsimp only; (repeat' split) <;> simp

@[simp] theorem State.finish_frame (id : PieceId) (d : Disposition) (s : State) :
    (State.finish id d s).checker = s.checker ∧ (State.finish id d s).sheetMass = s.sheetMass
    ∧ (State.finish id d s).feeders = s.feeders ∧ (State.finish id d s).track = s.track
    ∧ (State.finish id d s).heads = s.heads ∧ (State.finish id d s).settings = s.settings
    ∧ (State.finish id d s).shell = s.shell ∧ (State.finish id d s).profile = s.profile
    ∧ (NoticesBounded (State.finish id d s) ↔ NoticesBounded s) := by
  unfold State.finish; (repeat' split) <;> simp

@[simp] theorem State.finishAll_frame (ids : List PieceId) (c : Cause) (d : Disposition) (s : State) :
    (State.finishAll ids c d s).checker = s.checker ∧ (State.finishAll ids c d s).sheetMass = s.sheetMass
    ∧ (State.finishAll ids c d s).feeders = s.feeders ∧ (State.finishAll ids c d s).track = s.track
    ∧ (State.finishAll ids c d s).heads = s.heads ∧ (State.finishAll ids c d s).settings = s.settings
    ∧ (State.finishAll ids c d s).shell = s.shell ∧ (State.finishAll ids c d s).profile = s.profile
    ∧ (NoticesBounded (State.finishAll ids c d s) ↔ NoticesBounded s) := by
  unfold State.finishAll
  simpa using foldl_keeps _ (fun s => (s.checker, s.sheetMass, s.feeders, s.track, s.heads, s.settings, s.shell, s.profile, NoticesBounded s))
    (by intros; (repeat' split) <;> simp) _ _

@[simp] theorem State.closeNow_frame (s : State) :
    (State.closeNow s).checker = s.checker ∧ (State.closeNow s).sheetMass = s.sheetMass
    ∧ (State.closeNow s).feeders = s.feeders ∧ (State.closeNow s).track = s.track
    ∧ (State.closeNow s).heads = s.heads ∧ (State.closeNow s).settings = s.settings
    ∧ (State.closeNow s).shell = s.shell ∧ (State.closeNow s).profile = s.profile
    ∧ (NoticesBounded (State.closeNow s) ↔ NoticesBounded s) := by
  simp [State.closeNow]

@[simp] theorem State.drainTest_frame (s : State) :
    (State.drainTest s).checker = s.checker ∧ (State.drainTest s).sheetMass = s.sheetMass
    ∧ (State.drainTest s).feeders = s.feeders ∧ (State.drainTest s).track = s.track
    ∧ (State.drainTest s).heads = s.heads ∧ (State.drainTest s).settings = s.settings
    ∧ (State.drainTest s).shell = s.shell ∧ (State.drainTest s).profile = s.profile
    ∧ (NoticesBounded (State.drainTest s) ↔ NoticesBounded s) := by
  unfold State.drainTest; split <;> simp

end Sys2Proof.Machine
end

