-- ==== Sys2Proof/Laws/FramesTrack.lean ====
section
/-! SUPPORT. What the operations of the feeders, the gate, the collation checker and the track queue leave unchanged. -/

namespace Sys2Proof.Machine

@[simp] theorem State.onFeeder_frame (k : Nat) (f : Feeder → Feeder) (s : State) :
    (State.onFeeder k f s).run = s.run ∧ (State.onFeeder k f s).checker = s.checker
    ∧ (State.onFeeder k f s).sheetMass = s.sheetMass ∧ (State.onFeeder k f s).track = s.track
    ∧ (State.onFeeder k f s).census = s.census ∧ (State.onFeeder k f s).bins = s.bins
    ∧ (State.onFeeder k f s).heads = s.heads ∧ (State.onFeeder k f s).settings = s.settings
    ∧ (State.onFeeder k f s).shell = s.shell ∧ (State.onFeeder k f s).profile = s.profile
    ∧ (NoticesBounded (State.onFeeder k f s) ↔ NoticesBounded s) := by
  simp [State.onFeeder]

@[simp] theorem State.clearHold_frame (s : State) :
    (State.clearHold s).run = s.run ∧ (State.clearHold s).sheetMass = s.sheetMass
    ∧ (State.clearHold s).feeders = s.feeders ∧ (State.clearHold s).track = s.track
    ∧ (State.clearHold s).census = s.census ∧ (State.clearHold s).bins = s.bins
    ∧ (State.clearHold s).heads = s.heads ∧ (State.clearHold s).settings = s.settings
    ∧ (State.clearHold s).shell = s.shell ∧ (State.clearHold s).profile = s.profile
    ∧ (NoticesBounded (State.clearHold s) ↔ NoticesBounded s) := by
  simp [State.clearHold]

@[simp] theorem State.testFeederHold_frame (s : State) :
    (State.testFeederHold s).run = s.run ∧ (State.testFeederHold s).sheetMass = s.sheetMass
    ∧ (State.testFeederHold s).feeders = s.feeders ∧ (State.testFeederHold s).track = s.track
    ∧ (State.testFeederHold s).census = s.census ∧ (State.testFeederHold s).bins = s.bins
    ∧ (State.testFeederHold s).heads = s.heads ∧ (State.testFeederHold s).settings = s.settings
    ∧ (State.testFeederHold s).shell = s.shell ∧ (State.testFeederHold s).profile = s.profile
    ∧ (NoticesBounded (State.testFeederHold s) ↔ NoticesBounded s) := by
  unfold State.testFeederHold; (repeat' split) <;> simp

@[simp] theorem State.testTrackHold_frame (s : State) :
    (State.testTrackHold s).run = s.run ∧ (State.testTrackHold s).sheetMass = s.sheetMass
    ∧ (State.testTrackHold s).feeders = s.feeders ∧ (State.testTrackHold s).track = s.track
    ∧ (State.testTrackHold s).census = s.census ∧ (State.testTrackHold s).bins = s.bins
    ∧ (State.testTrackHold s).heads = s.heads ∧ (State.testTrackHold s).settings = s.settings
    ∧ (State.testTrackHold s).shell = s.shell ∧ (State.testTrackHold s).profile = s.profile
    ∧ (NoticesBounded (State.testTrackHold s) ↔ NoticesBounded s) := by
  unfold State.testTrackHold; split <;> simp

@[simp] theorem State.derive_frame (k : Nat) (s : State) :
    (State.derive k s).run = s.run ∧ (State.derive k s).sheetMass = s.sheetMass
    ∧ (State.derive k s).track = s.track ∧ (State.derive k s).census = s.census
    ∧ (State.derive k s).bins = s.bins ∧ (State.derive k s).heads = s.heads
    ∧ (State.derive k s).settings = s.settings ∧ (State.derive k s).shell = s.shell
    ∧ (State.derive k s).profile = s.profile ∧ (NoticesBounded (State.derive k s) ↔ NoticesBounded s) := by
  unfold State.derive; dsimp only; (repeat' split) <;> simp

@[simp] theorem State.deriveAll_frame (s : State) :
    (State.deriveAll s).run = s.run ∧ (State.deriveAll s).sheetMass = s.sheetMass
    ∧ (State.deriveAll s).track = s.track ∧ (State.deriveAll s).census = s.census
    ∧ (State.deriveAll s).bins = s.bins ∧ (State.deriveAll s).heads = s.heads
    ∧ (State.deriveAll s).settings = s.settings ∧ (State.deriveAll s).shell = s.shell
    ∧ (State.deriveAll s).profile = s.profile ∧ (NoticesBounded (State.deriveAll s) ↔ NoticesBounded s) := by
  unfold State.deriveAll
  simpa using foldl_keeps _ (fun s => (s.run, s.sheetMass, s.track, s.census, s.bins, s.heads, s.settings, s.shell, s.profile, NoticesBounded s))
    (by intros; (repeat' split) <;> simp) _ _

@[simp] theorem State.feederReport_frame (k : Nat) (w : Option Half) (s : State) :
    (State.feederReport k w s).run = s.run ∧ (State.feederReport k w s).sheetMass = s.sheetMass
    ∧ (State.feederReport k w s).track = s.track ∧ (State.feederReport k w s).census = s.census
    ∧ (State.feederReport k w s).bins = s.bins ∧ (State.feederReport k w s).heads = s.heads
    ∧ (State.feederReport k w s).settings = s.settings ∧ (State.feederReport k w s).shell = s.shell
    ∧ (State.feederReport k w s).profile = s.profile
    ∧ (NoticesBounded (State.feederReport k w s) ↔ NoticesBounded s) := by
  unfold State.feederReport; (repeat' split) <;> simp

@[simp] theorem State.substitute_frame (id : PieceId) (k : Nat) (code : Nat) (s : State) :
    (State.substitute id k code s).1.checker = s.checker
    ∧ (State.substitute id k code s).1.sheetMass = s.sheetMass
    ∧ (State.substitute id k code s).1.feeders = s.feeders
    ∧ (State.substitute id k code s).1.track = s.track ∧ (State.substitute id k code s).1.census = s.census
    ∧ (State.substitute id k code s).1.bins = s.bins ∧ (State.substitute id k code s).1.heads = s.heads
    ∧ (State.substitute id k code s).1.settings = s.settings
    ∧ (State.substitute id k code s).1.shell = s.shell
    ∧ (State.substitute id k code s).1.profile = s.profile
    ∧ (NoticesBounded (State.substitute id k code s).1 ↔ NoticesBounded s) := by
  unfold State.substitute; (repeat' split) <;> simp

@[simp] theorem State.pullDelivered_frame (id : PieceId) (k : Nat) (res : PullResult) (s : State) :
    (State.pullDelivered id k res s).sheetMass = s.sheetMass
    ∧ (State.pullDelivered id k res s).track = s.track ∧ (State.pullDelivered id k res s).census = s.census
    ∧ (State.pullDelivered id k res s).bins = s.bins ∧ (State.pullDelivered id k res s).heads = s.heads
    ∧ (State.pullDelivered id k res s).settings = s.settings
    ∧ (State.pullDelivered id k res s).shell = s.shell
    ∧ (State.pullDelivered id k res s).profile = s.profile
    ∧ (NoticesBounded (State.pullDelivered id k res s) ↔ NoticesBounded s) := by
  unfold State.pullDelivered; (repeat' split) <;> simp

@[simp] theorem State.pullReport_frame (id : PieceId) (e : PullEntry) (res : PullResult) (s : State) :
    (State.pullReport id e res s).1.sheetMass = s.sheetMass
    ∧ (State.pullReport id e res s).1.track = s.track ∧ (State.pullReport id e res s).1.census = s.census
    ∧ (State.pullReport id e res s).1.bins = s.bins ∧ (State.pullReport id e res s).1.heads = s.heads
    ∧ (State.pullReport id e res s).1.settings = s.settings
    ∧ (State.pullReport id e res s).1.shell = s.shell ∧ (State.pullReport id e res s).1.profile = s.profile
    ∧ (NoticesBounded (State.pullReport id e res s).1 ↔ NoticesBounded s) := by
  unfold State.pullReport; split <;> simp

@[simp] theorem State.openOrStall_frame (g : TrayGroup) (tag : Nat) (m : Nat) (s : State) :
    (State.openOrStall g tag m s).1.run = s.run ∧ (State.openOrStall g tag m s).1.checker = s.checker
    ∧ (State.openOrStall g tag m s).1.sheetMass = s.sheetMass
    ∧ (State.openOrStall g tag m s).1.feeders = s.feeders ∧ (State.openOrStall g tag m s).1.track = s.track
    ∧ (State.openOrStall g tag m s).1.heads = s.heads
    ∧ (State.openOrStall g tag m s).1.settings = s.settings
    ∧ (State.openOrStall g tag m s).1.shell = s.shell ∧ (State.openOrStall g tag m s).1.profile = s.profile
    ∧ (NoticesBounded (State.openOrStall g tag m s).1 ↔ NoticesBounded s) := by
  unfold State.openOrStall; split <;> simp

@[simp] theorem State.placeInTray_frame (g : TrayGroup) (tag : Nat) (m : Nat) (s : State) :
    (State.placeInTray g tag m s).1.run = s.run ∧ (State.placeInTray g tag m s).1.checker = s.checker
    ∧ (State.placeInTray g tag m s).1.sheetMass = s.sheetMass
    ∧ (State.placeInTray g tag m s).1.feeders = s.feeders ∧ (State.placeInTray g tag m s).1.track = s.track
    ∧ (State.placeInTray g tag m s).1.heads = s.heads
    ∧ (State.placeInTray g tag m s).1.settings = s.settings
    ∧ (State.placeInTray g tag m s).1.shell = s.shell ∧ (State.placeInTray g tag m s).1.profile = s.profile
    ∧ (NoticesBounded (State.placeInTray g tag m s).1 ↔ NoticesBounded s) := by
  unfold State.placeInTray; (repeat' split) <;> simp

@[simp] theorem State.gateDecision_frame (tag : Nat) (r : Piece) (s : State) :
    (State.gateDecision tag r s).1.run = s.run ∧ (State.gateDecision tag r s).1.checker = s.checker
    ∧ (State.gateDecision tag r s).1.sheetMass = s.sheetMass
    ∧ (State.gateDecision tag r s).1.feeders = s.feeders ∧ (State.gateDecision tag r s).1.track = s.track
    ∧ (State.gateDecision tag r s).1.heads = s.heads ∧ (State.gateDecision tag r s).1.settings = s.settings
    ∧ (State.gateDecision tag r s).1.shell = s.shell ∧ (State.gateDecision tag r s).1.profile = s.profile
    ∧ (NoticesBounded (State.gateDecision tag r s).1 ↔ NoticesBounded s) := by
  unfold State.gateDecision; split <;> simp

@[simp] theorem State.decideEntry_frame (e : TrackEntry) (s : State) :
    (State.decideEntry e s).1.run = s.run ∧ (State.decideEntry e s).1.checker = s.checker
    ∧ (State.decideEntry e s).1.sheetMass = s.sheetMass ∧ (State.decideEntry e s).1.feeders = s.feeders
    ∧ (State.decideEntry e s).1.track = s.track ∧ (State.decideEntry e s).1.heads = s.heads
    ∧ (State.decideEntry e s).1.settings = s.settings ∧ (State.decideEntry e s).1.shell = s.shell
    ∧ (State.decideEntry e s).1.profile = s.profile
    ∧ (NoticesBounded (State.decideEntry e s).1 ↔ NoticesBounded s) := by
  unfold State.decideEntry; split <;> simp

@[simp] theorem State.setGated_frame (tag : Nat) (d : GateDecision) (s : State) :
    (State.setGated tag d s).run = s.run ∧ (State.setGated tag d s).checker = s.checker
    ∧ (State.setGated tag d s).sheetMass = s.sheetMass ∧ (State.setGated tag d s).feeders = s.feeders
    ∧ (State.setGated tag d s).census = s.census ∧ (State.setGated tag d s).bins = s.bins
    ∧ (State.setGated tag d s).heads = s.heads ∧ (State.setGated tag d s).settings = s.settings
    ∧ (State.setGated tag d s).shell = s.shell ∧ (State.setGated tag d s).profile = s.profile
    ∧ (NoticesBounded (State.setGated tag d s) ↔ NoticesBounded s) := by
  simp [State.setGated]

@[simp] theorem State.recordStall_frame (tag : Nat) (g : TrayGroup) (s : State) :
    (State.recordStall tag g s).run = s.run ∧ (State.recordStall tag g s).checker = s.checker
    ∧ (State.recordStall tag g s).sheetMass = s.sheetMass ∧ (State.recordStall tag g s).feeders = s.feeders
    ∧ (State.recordStall tag g s).census = s.census ∧ (State.recordStall tag g s).heads = s.heads
    ∧ (State.recordStall tag g s).settings = s.settings ∧ (State.recordStall tag g s).shell = s.shell
    ∧ (State.recordStall tag g s).profile = s.profile
    ∧ (NoticesBounded (State.recordStall tag g s) ↔ NoticesBounded s) := by
  simp [State.recordStall]

@[simp] theorem State.handOn_frame (a0 : List Nat) (a1 : State) :
    (State.handOn a0 a1).run = a1.run ∧ (State.handOn a0 a1).checker = a1.checker
    ∧ (State.handOn a0 a1).sheetMass = a1.sheetMass ∧ (State.handOn a0 a1).feeders = a1.feeders
    ∧ (State.handOn a0 a1).heads = a1.heads ∧ (State.handOn a0 a1).settings = a1.settings
    ∧ (State.handOn a0 a1).shell = a1.shell ∧ (State.handOn a0 a1).profile = a1.profile
    ∧ (NoticesBounded (State.handOn a0 a1) ↔ NoticesBounded a1) := by
  induction a0 generalizing a1 with
  | nil => simp [State.handOn]
  | cons t ts ih => unfold State.handOn; dsimp only; (repeat' split) <;> simp [ih]

@[simp] theorem State.levelAsked_frame (e : TrackEntry) (s : State) :
    (State.levelAsked e s).run = s.run ∧ (State.levelAsked e s).checker = s.checker
    ∧ (State.levelAsked e s).sheetMass = s.sheetMass ∧ (State.levelAsked e s).feeders = s.feeders
    ∧ (State.levelAsked e s).track = s.track ∧ (State.levelAsked e s).bins = s.bins
    ∧ (State.levelAsked e s).heads = s.heads ∧ (State.levelAsked e s).settings = s.settings
    ∧ (State.levelAsked e s).shell = s.shell ∧ (State.levelAsked e s).profile = s.profile
    ∧ (NoticesBounded (State.levelAsked e s) ↔ NoticesBounded s) := by
  unfold State.levelAsked; split <;> simp

@[simp] theorem State.reevaluate_frame (announce : Bool) (s : State) :
    (State.reevaluate announce s).1.run = s.run ∧ (State.reevaluate announce s).1.checker = s.checker
    ∧ (State.reevaluate announce s).1.sheetMass = s.sheetMass
    ∧ (State.reevaluate announce s).1.feeders = s.feeders ∧ (State.reevaluate announce s).1.heads = s.heads
    ∧ (State.reevaluate announce s).1.settings = s.settings
    ∧ (State.reevaluate announce s).1.shell = s.shell ∧ (State.reevaluate announce s).1.profile = s.profile
    ∧ (NoticesBounded (State.reevaluate announce s).1 ↔ NoticesBounded s) := by
  unfold State.reevaluate; dsimp only; (repeat' split) <;> simp

@[simp] theorem State.afterEvent_frame (s : State) (before : State) :
    (State.afterEvent s before).run = s.run ∧ (State.afterEvent s before).checker = s.checker
    ∧ (State.afterEvent s before).sheetMass = s.sheetMass ∧ (State.afterEvent s before).feeders = s.feeders
    ∧ (State.afterEvent s before).heads = s.heads ∧ (State.afterEvent s before).settings = s.settings
    ∧ (State.afterEvent s before).shell = s.shell ∧ (State.afterEvent s before).profile = s.profile
    ∧ (NoticesBounded (State.afterEvent s before) ↔ NoticesBounded s) := by
  unfold State.afterEvent; split <;> simp

@[simp] theorem State.refuseOrder_frame (target : Stage) (s : State) :
    (State.refuseOrder target s).1.run = s.run ∧ (State.refuseOrder target s).1.checker = s.checker
    ∧ (State.refuseOrder target s).1.sheetMass = s.sheetMass
    ∧ (State.refuseOrder target s).1.feeders = s.feeders ∧ (State.refuseOrder target s).1.track = s.track
    ∧ (State.refuseOrder target s).1.census = s.census ∧ (State.refuseOrder target s).1.bins = s.bins
    ∧ (State.refuseOrder target s).1.heads = s.heads ∧ (State.refuseOrder target s).1.settings = s.settings
    ∧ (State.refuseOrder target s).1.shell = s.shell ∧ (State.refuseOrder target s).1.profile = s.profile
    ∧ (NoticesBounded (State.refuseOrder target s).1 ↔ NoticesBounded s) := by
  simp [State.refuseOrder]

@[simp] theorem State.exitIntoBin_frame (tag : Nat) (b : Nat) (r : Piece) (s : State) :
    (State.exitIntoBin tag b r s).checker = s.checker
    ∧ (State.exitIntoBin tag b r s).sheetMass = s.sheetMass
    ∧ (State.exitIntoBin tag b r s).feeders = s.feeders ∧ (State.exitIntoBin tag b r s).track = s.track
    ∧ (State.exitIntoBin tag b r s).heads = s.heads ∧ (State.exitIntoBin tag b r s).settings = s.settings
    ∧ (State.exitIntoBin tag b r s).shell = s.shell ∧ (State.exitIntoBin tag b r s).profile = s.profile
    ∧ (NoticesBounded (State.exitIntoBin tag b r s) ↔ NoticesBounded s) := by
  unfold State.exitIntoBin; split <;> simp

@[simp] theorem State.exitDiverted_frame (tag : Nat) (id : PieceId) (decision : GateDecision) (s : State) :
    (State.exitDiverted tag id decision s).checker = s.checker
    ∧ (State.exitDiverted tag id decision s).sheetMass = s.sheetMass
    ∧ (State.exitDiverted tag id decision s).feeders = s.feeders
    ∧ (State.exitDiverted tag id decision s).track = s.track
    ∧ (State.exitDiverted tag id decision s).heads = s.heads
    ∧ (State.exitDiverted tag id decision s).settings = s.settings
    ∧ (State.exitDiverted tag id decision s).shell = s.shell
    ∧ (State.exitDiverted tag id decision s).profile = s.profile
    ∧ (NoticesBounded (State.exitDiverted tag id decision s) ↔ NoticesBounded s) := by
  unfold State.exitDiverted; split <;> simp

@[simp] theorem State.removeEntry_frame (tag : Nat) (s : State) :
    (State.removeEntry tag s).run = s.run ∧ (State.removeEntry tag s).checker = s.checker
    ∧ (State.removeEntry tag s).sheetMass = s.sheetMass ∧ (State.removeEntry tag s).feeders = s.feeders
    ∧ (State.removeEntry tag s).census = s.census ∧ (State.removeEntry tag s).bins = s.bins
    ∧ (State.removeEntry tag s).heads = s.heads ∧ (State.removeEntry tag s).settings = s.settings
    ∧ (State.removeEntry tag s).shell = s.shell ∧ (State.removeEntry tag s).profile = s.profile
    ∧ (NoticesBounded (State.removeEntry tag s) ↔ NoticesBounded s) := by
  simp [State.removeEntry]

@[simp] theorem State.setForming_frame (c : Collation) (s : State) :
    (State.setForming c s).run = s.run ∧ (State.setForming c s).sheetMass = s.sheetMass
    ∧ (State.setForming c s).feeders = s.feeders ∧ (State.setForming c s).track = s.track
    ∧ (State.setForming c s).census = s.census ∧ (State.setForming c s).bins = s.bins
    ∧ (State.setForming c s).heads = s.heads ∧ (State.setForming c s).settings = s.settings
    ∧ (State.setForming c s).shell = s.shell ∧ (State.setForming c s).profile = s.profile
    ∧ (NoticesBounded (State.setForming c s) ↔ NoticesBounded s) := by
  simp [State.setForming]

@[simp] theorem State.addOutcome_frame (id : PieceId) (out : SheetOutcome) (s : State) :
    (State.addOutcome id out s).checker = s.checker ∧ (State.addOutcome id out s).sheetMass = s.sheetMass
    ∧ (State.addOutcome id out s).feeders = s.feeders ∧ (State.addOutcome id out s).track = s.track
    ∧ (State.addOutcome id out s).census = s.census ∧ (State.addOutcome id out s).bins = s.bins
    ∧ (State.addOutcome id out s).heads = s.heads ∧ (State.addOutcome id out s).settings = s.settings
    ∧ (State.addOutcome id out s).shell = s.shell ∧ (State.addOutcome id out s).profile = s.profile
    ∧ (NoticesBounded (State.addOutcome id out s) ↔ NoticesBounded s) := by
  unfold State.addOutcome; split <;> simp

@[simp] theorem State.joinPiece_frame (id : PieceId) (c : Collation) (m : Mark) (skipped : Nat) (s : State) :
    (State.joinPiece id c m skipped s).1.sheetMass = s.sheetMass
    ∧ (State.joinPiece id c m skipped s).1.feeders = s.feeders
    ∧ (State.joinPiece id c m skipped s).1.track = s.track
    ∧ (State.joinPiece id c m skipped s).1.census = s.census
    ∧ (State.joinPiece id c m skipped s).1.bins = s.bins
    ∧ (State.joinPiece id c m skipped s).1.heads = s.heads
    ∧ (State.joinPiece id c m skipped s).1.settings = s.settings
    ∧ (State.joinPiece id c m skipped s).1.shell = s.shell
    ∧ (State.joinPiece id c m skipped s).1.profile = s.profile
    ∧ (NoticesBounded (State.joinPiece id c m skipped s).1 ↔ NoticesBounded s) := by
  simp [State.joinPiece]

@[simp] theorem State.joinSheet_frame (sh : SheetReport) (c : Collation) (s : State) :
    (State.joinSheet sh c s).1.sheetMass = s.sheetMass ∧ (State.joinSheet sh c s).1.feeders = s.feeders
    ∧ (State.joinSheet sh c s).1.track = s.track ∧ (State.joinSheet sh c s).1.census = s.census
    ∧ (State.joinSheet sh c s).1.bins = s.bins ∧ (State.joinSheet sh c s).1.heads = s.heads
    ∧ (State.joinSheet sh c s).1.settings = s.settings ∧ (State.joinSheet sh c s).1.shell = s.shell
    ∧ (State.joinSheet sh c s).1.profile = s.profile
    ∧ (NoticesBounded (State.joinSheet sh c s).1 ↔ NoticesBounded s) := by
  unfold State.joinSheet; split <;> simp

@[simp] theorem State.openFor_frame (id : PieceId) (s : State) :
    (State.openFor id s).sheetMass = s.sheetMass ∧ (State.openFor id s).feeders = s.feeders
    ∧ (State.openFor id s).track = s.track ∧ (State.openFor id s).census = s.census
    ∧ (State.openFor id s).bins = s.bins ∧ (State.openFor id s).heads = s.heads
    ∧ (State.openFor id s).settings = s.settings ∧ (State.openFor id s).shell = s.shell
    ∧ (State.openFor id s).profile = s.profile ∧ (NoticesBounded (State.openFor id s) ↔ NoticesBounded s) := by
  simp [State.openFor]

@[simp] theorem State.enterSyncLost_frame (s : State) :
    (State.enterSyncLost s).run = s.run ∧ (State.enterSyncLost s).sheetMass = s.sheetMass
    ∧ (State.enterSyncLost s).feeders = s.feeders ∧ (State.enterSyncLost s).track = s.track
    ∧ (State.enterSyncLost s).census = s.census ∧ (State.enterSyncLost s).bins = s.bins
    ∧ (State.enterSyncLost s).heads = s.heads ∧ (State.enterSyncLost s).settings = s.settings
    ∧ (State.enterSyncLost s).shell = s.shell ∧ (State.enterSyncLost s).profile = s.profile
    ∧ (NoticesBounded (State.enterSyncLost s) ↔ NoticesBounded s) := by
  simp [State.enterSyncLost]

@[simp] theorem State.startOrphan_frame (sh : SheetReport) (s : State) :
    (State.startOrphan sh s).1.run = s.run ∧ (State.startOrphan sh s).1.sheetMass = s.sheetMass
    ∧ (State.startOrphan sh s).1.feeders = s.feeders ∧ (State.startOrphan sh s).1.track = s.track
    ∧ (State.startOrphan sh s).1.census = s.census ∧ (State.startOrphan sh s).1.bins = s.bins
    ∧ (State.startOrphan sh s).1.heads = s.heads ∧ (State.startOrphan sh s).1.settings = s.settings
    ∧ (State.startOrphan sh s).1.shell = s.shell ∧ (State.startOrphan sh s).1.profile = s.profile
    ∧ (NoticesBounded (State.startOrphan sh s).1 ↔ NoticesBounded s) := by
  unfold State.startOrphan; dsimp only; (repeat' split) <;> simp

@[simp] theorem State.startSheet_frame (sh : SheetReport) (s : State) :
    (State.startSheet sh s).1.sheetMass = s.sheetMass ∧ (State.startSheet sh s).1.feeders = s.feeders
    ∧ (State.startSheet sh s).1.track = s.track ∧ (State.startSheet sh s).1.heads = s.heads
    ∧ (State.startSheet sh s).1.settings = s.settings ∧ (State.startSheet sh s).1.shell = s.shell
    ∧ (State.startSheet sh s).1.profile = s.profile
    ∧ (NoticesBounded (State.startSheet sh s).1 ↔ NoticesBounded s) := by
  unfold State.startSheet; (repeat' split) <;> simp

@[simp] theorem State.endForming_frame (c : Collation) (s : State) :
    (State.endForming c s).sheetMass = s.sheetMass ∧ (State.endForming c s).feeders = s.feeders
    ∧ (State.endForming c s).track = s.track ∧ (State.endForming c s).census = s.census
    ∧ (State.endForming c s).bins = s.bins ∧ (State.endForming c s).heads = s.heads
    ∧ (State.endForming c s).settings = s.settings ∧ (State.endForming c s).shell = s.shell
    ∧ (State.endForming c s).profile = s.profile
    ∧ (NoticesBounded (State.endForming c s) ↔ NoticesBounded s) := by
  unfold State.endForming; (repeat' split) <;> simp

@[simp] theorem State.judgeSheet_frame (sh : SheetReport) (s : State) :
    (State.judgeSheet sh s).1.sheetMass = s.sheetMass ∧ (State.judgeSheet sh s).1.feeders = s.feeders
    ∧ (State.judgeSheet sh s).1.track = s.track ∧ (State.judgeSheet sh s).1.heads = s.heads
    ∧ (State.judgeSheet sh s).1.settings = s.settings ∧ (State.judgeSheet sh s).1.shell = s.shell
    ∧ (State.judgeSheet sh s).1.profile = s.profile
    ∧ (NoticesBounded (State.judgeSheet sh s).1 ↔ NoticesBounded s) := by
  unfold State.judgeSheet; (repeat' split) <;> simp

@[simp] theorem sheetBody_frame (pl : List Byte) (s : State) :
    (sheetBody pl s).1.sheetMass = s.sheetMass ∧ (sheetBody pl s).1.feeders = s.feeders
    ∧ (sheetBody pl s).1.heads = s.heads ∧ (sheetBody pl s).1.settings = s.settings
    ∧ (sheetBody pl s).1.shell = s.shell ∧ (sheetBody pl s).1.profile = s.profile
    ∧ (NoticesBounded (sheetBody pl s).1 ↔ NoticesBounded s) := by
  unfold sheetBody; (repeat' split) <;> simp

@[simp] theorem State.emptyReady_frame (s : State) :
    (State.emptyReady s).sheetMass = s.sheetMass ∧ (State.emptyReady s).feeders = s.feeders
    ∧ (State.emptyReady s).track = s.track ∧ (State.emptyReady s).heads = s.heads
    ∧ (State.emptyReady s).settings = s.settings ∧ (State.emptyReady s).shell = s.shell
    ∧ (State.emptyReady s).profile = s.profile ∧ (NoticesBounded (State.emptyReady s) ↔ NoticesBounded s) := by
  simp [State.emptyReady]

@[simp] theorem State.setHold_frame (h : ReleaseHold) (s : State) :
    (State.setHold h s).run = s.run ∧ (State.setHold h s).sheetMass = s.sheetMass
    ∧ (State.setHold h s).feeders = s.feeders ∧ (State.setHold h s).track = s.track
    ∧ (State.setHold h s).census = s.census ∧ (State.setHold h s).bins = s.bins
    ∧ (State.setHold h s).heads = s.heads ∧ (State.setHold h s).settings = s.settings
    ∧ (State.setHold h s).shell = s.shell ∧ (State.setHold h s).profile = s.profile
    ∧ (NoticesBounded (State.setHold h s) ↔ NoticesBounded s) := by
  simp [State.setHold]

@[simp] theorem State.foldPiece_frame (r : Piece) (s : State) :
    (State.foldPiece r s).sheetMass = s.sheetMass ∧ (State.foldPiece r s).feeders = s.feeders
    ∧ (State.foldPiece r s).heads = s.heads ∧ (State.foldPiece r s).settings = s.settings
    ∧ (State.foldPiece r s).shell = s.shell ∧ (State.foldPiece r s).profile = s.profile
    ∧ (NoticesBounded (State.foldPiece r s) ↔ NoticesBounded s) := by
  simp [State.foldPiece]

@[simp] theorem State.releaseClean_frame (r : Piece) (joined : Nat) (s : State) :
    (State.releaseClean r joined s).1.sheetMass = s.sheetMass
    ∧ (State.releaseClean r joined s).1.feeders = s.feeders
    ∧ (State.releaseClean r joined s).1.heads = s.heads
    ∧ (State.releaseClean r joined s).1.settings = s.settings
    ∧ (State.releaseClean r joined s).1.shell = s.shell
    ∧ (State.releaseClean r joined s).1.profile = s.profile
    ∧ (NoticesBounded (State.releaseClean r joined s).1 ↔ NoticesBounded s) := by
  unfold State.releaseClean; (repeat' split) <;> simp

@[simp] theorem State.releaseVerdict_frame (c : Collation) (s : State) :
    (State.releaseVerdict c s).1.sheetMass = s.sheetMass ∧ (State.releaseVerdict c s).1.feeders = s.feeders
    ∧ (State.releaseVerdict c s).1.heads = s.heads ∧ (State.releaseVerdict c s).1.settings = s.settings
    ∧ (State.releaseVerdict c s).1.shell = s.shell ∧ (State.releaseVerdict c s).1.profile = s.profile
    ∧ (NoticesBounded (State.releaseVerdict c s).1 ↔ NoticesBounded s) := by
  unfold State.releaseVerdict; (repeat' split) <;> simp

@[simp] theorem State.flushForming_frame (c : Collation) (s : State) :
    (State.flushForming c s).sheetMass = s.sheetMass ∧ (State.flushForming c s).feeders = s.feeders
    ∧ (State.flushForming c s).track = s.track ∧ (State.flushForming c s).census = s.census
    ∧ (State.flushForming c s).bins = s.bins ∧ (State.flushForming c s).heads = s.heads
    ∧ (State.flushForming c s).settings = s.settings ∧ (State.flushForming c s).shell = s.shell
    ∧ (State.flushForming c s).profile = s.profile
    ∧ (NoticesBounded (State.flushForming c s) ↔ NoticesBounded s) := by
  unfold State.flushForming; split <;> simp

@[simp] theorem releaseBody_frame (pl : List Byte) (s : State) :
    (releaseBody pl s).1.sheetMass = s.sheetMass ∧ (releaseBody pl s).1.feeders = s.feeders
    ∧ (releaseBody pl s).1.heads = s.heads ∧ (releaseBody pl s).1.settings = s.settings
    ∧ (releaseBody pl s).1.shell = s.shell ∧ (releaseBody pl s).1.profile = s.profile
    ∧ (NoticesBounded (releaseBody pl s).1 ↔ NoticesBounded s) := by
  unfold releaseBody; dsimp only; (repeat' split) <;> simp

@[simp] theorem State.resyncTo_frame (id : PieceId) (s : State) :
    (State.resyncTo id s).sheetMass = s.sheetMass ∧ (State.resyncTo id s).feeders = s.feeders
    ∧ (State.resyncTo id s).track = s.track ∧ (State.resyncTo id s).heads = s.heads
    ∧ (State.resyncTo id s).settings = s.settings ∧ (State.resyncTo id s).shell = s.shell
    ∧ (State.resyncTo id s).profile = s.profile ∧ (NoticesBounded (State.resyncTo id s) ↔ NoticesBounded s) := by
  simp [State.resyncTo]

@[simp] theorem resyncBody_frame (pl : List Byte) (s : State) :
    (resyncBody pl s).1.sheetMass = s.sheetMass ∧ (resyncBody pl s).1.feeders = s.feeders
    ∧ (resyncBody pl s).1.heads = s.heads ∧ (resyncBody pl s).1.settings = s.settings
    ∧ (resyncBody pl s).1.shell = s.shell ∧ (resyncBody pl s).1.profile = s.profile
    ∧ (NoticesBounded (resyncBody pl s).1 ↔ NoticesBounded s) := by
  unfold resyncBody; (repeat' split) <;> simp

@[simp] theorem State.purgeCollation_frame (c : Option Collation) (s : State) :
    (State.purgeCollation c s).checker = s.checker ∧ (State.purgeCollation c s).sheetMass = s.sheetMass
    ∧ (State.purgeCollation c s).feeders = s.feeders ∧ (State.purgeCollation c s).track = s.track
    ∧ (State.purgeCollation c s).heads = s.heads ∧ (State.purgeCollation c s).settings = s.settings
    ∧ (State.purgeCollation c s).shell = s.shell ∧ (State.purgeCollation c s).profile = s.profile
    ∧ (NoticesBounded (State.purgeCollation c s) ↔ NoticesBounded s) := by
  unfold State.purgeCollation; split <;> simp

@[simp] theorem State.purgeCollations_frame (s : State) :
    (State.purgeCollations s).sheetMass = s.sheetMass ∧ (State.purgeCollations s).feeders = s.feeders
    ∧ (State.purgeCollations s).track = s.track ∧ (State.purgeCollations s).heads = s.heads
    ∧ (State.purgeCollations s).settings = s.settings ∧ (State.purgeCollations s).shell = s.shell
    ∧ (State.purgeCollations s).profile = s.profile
    ∧ (NoticesBounded (State.purgeCollations s) ↔ NoticesBounded s) := by
  simp [State.purgeCollations]

@[simp] theorem State.setStage_frame (tag : Nat) (st : Stage) (s : State) :
    (State.setStage tag st s).run = s.run ∧ (State.setStage tag st s).checker = s.checker
    ∧ (State.setStage tag st s).sheetMass = s.sheetMass ∧ (State.setStage tag st s).feeders = s.feeders
    ∧ (State.setStage tag st s).census = s.census ∧ (State.setStage tag st s).bins = s.bins
    ∧ (State.setStage tag st s).heads = s.heads ∧ (State.setStage tag st s).settings = s.settings
    ∧ (State.setStage tag st s).shell = s.shell ∧ (State.setStage tag st s).profile = s.profile
    ∧ (NoticesBounded (State.setStage tag st s) ↔ NoticesBounded s) := by
  simp [State.setStage]

@[simp] theorem State.foldReport_frame (e : TrackEntry) (panels : Nat) (s : State) :
    (State.foldReport e panels s).1.checker = s.checker
    ∧ (State.foldReport e panels s).1.sheetMass = s.sheetMass
    ∧ (State.foldReport e panels s).1.feeders = s.feeders
    ∧ (State.foldReport e panels s).1.census = s.census ∧ (State.foldReport e panels s).1.bins = s.bins
    ∧ (State.foldReport e panels s).1.heads = s.heads
    ∧ (State.foldReport e panels s).1.settings = s.settings
    ∧ (State.foldReport e panels s).1.shell = s.shell ∧ (State.foldReport e panels s).1.profile = s.profile
    ∧ (NoticesBounded (State.foldReport e panels s).1 ↔ NoticesBounded s) := by
  unfold State.foldReport; dsimp only; (repeat' split) <;> simp

@[simp] theorem foldedBody_frame (pl : List Byte) (s : State) :
    (foldedBody pl s).1.checker = s.checker ∧ (foldedBody pl s).1.sheetMass = s.sheetMass
    ∧ (foldedBody pl s).1.feeders = s.feeders ∧ (foldedBody pl s).1.census = s.census
    ∧ (foldedBody pl s).1.bins = s.bins ∧ (foldedBody pl s).1.heads = s.heads
    ∧ (foldedBody pl s).1.settings = s.settings ∧ (foldedBody pl s).1.shell = s.shell
    ∧ (foldedBody pl s).1.profile = s.profile ∧ (NoticesBounded (foldedBody pl s).1 ↔ NoticesBounded s) := by
  unfold foldedBody; dsimp only; (repeat' split) <;> simp

@[simp] theorem pullResultBody_frame (pl : List Byte) (s : State) :
    (pullResultBody pl s).1.sheetMass = s.sheetMass ∧ (pullResultBody pl s).1.track = s.track
    ∧ (pullResultBody pl s).1.census = s.census ∧ (pullResultBody pl s).1.bins = s.bins
    ∧ (pullResultBody pl s).1.heads = s.heads ∧ (pullResultBody pl s).1.settings = s.settings
    ∧ (pullResultBody pl s).1.shell = s.shell ∧ (pullResultBody pl s).1.profile = s.profile
    ∧ (NoticesBounded (pullResultBody pl s).1 ↔ NoticesBounded s) := by
  unfold pullResultBody; dsimp only; (repeat' split) <;> simp

@[simp] theorem State.envelopeReport_frame (e : TrackEntry) (s : State) :
    (State.envelopeReport e s).1.checker = s.checker ∧ (State.envelopeReport e s).1.sheetMass = s.sheetMass
    ∧ (State.envelopeReport e s).1.feeders = s.feeders ∧ (State.envelopeReport e s).1.census = s.census
    ∧ (State.envelopeReport e s).1.bins = s.bins ∧ (State.envelopeReport e s).1.heads = s.heads
    ∧ (State.envelopeReport e s).1.settings = s.settings ∧ (State.envelopeReport e s).1.shell = s.shell
    ∧ (State.envelopeReport e s).1.profile = s.profile
    ∧ (NoticesBounded (State.envelopeReport e s).1 ↔ NoticesBounded s) := by
  unfold State.envelopeReport; split <;> simp

@[simp] theorem envelopedBody_frame (pl : List Byte) (s : State) :
    (envelopedBody pl s).1.checker = s.checker ∧ (envelopedBody pl s).1.sheetMass = s.sheetMass
    ∧ (envelopedBody pl s).1.feeders = s.feeders ∧ (envelopedBody pl s).1.census = s.census
    ∧ (envelopedBody pl s).1.bins = s.bins ∧ (envelopedBody pl s).1.heads = s.heads
    ∧ (envelopedBody pl s).1.settings = s.settings ∧ (envelopedBody pl s).1.shell = s.shell
    ∧ (envelopedBody pl s).1.profile = s.profile
    ∧ (NoticesBounded (envelopedBody pl s).1 ↔ NoticesBounded s) := by
  unfold envelopedBody; (repeat' split) <;> simp

@[simp] theorem State.weighReport_frame (e : TrackEntry) (report : ScaleReport) (s : State) :
    (State.weighReport e report s).1.checker = s.checker
    ∧ (State.weighReport e report s).1.sheetMass = s.sheetMass
    ∧ (State.weighReport e report s).1.feeders = s.feeders
    ∧ (State.weighReport e report s).1.census = s.census ∧ (State.weighReport e report s).1.bins = s.bins
    ∧ (State.weighReport e report s).1.heads = s.heads
    ∧ (State.weighReport e report s).1.settings = s.settings
    ∧ (State.weighReport e report s).1.shell = s.shell
    ∧ (State.weighReport e report s).1.profile = s.profile
    ∧ (NoticesBounded (State.weighReport e report s).1 ↔ NoticesBounded s) := by
  unfold State.weighReport; split <;> simp

@[simp] theorem weighedBody_frame (pl : List Byte) (s : State) :
    (weighedBody pl s).1.checker = s.checker ∧ (weighedBody pl s).1.sheetMass = s.sheetMass
    ∧ (weighedBody pl s).1.feeders = s.feeders ∧ (weighedBody pl s).1.census = s.census
    ∧ (weighedBody pl s).1.bins = s.bins ∧ (weighedBody pl s).1.heads = s.heads
    ∧ (weighedBody pl s).1.settings = s.settings ∧ (weighedBody pl s).1.shell = s.shell
    ∧ (weighedBody pl s).1.profile = s.profile ∧ (NoticesBounded (weighedBody pl s).1 ↔ NoticesBounded s) := by
  unfold weighedBody; (repeat' split) <;> simp

@[simp] theorem State.decideAtGate_frame (tag : Nat) (s : State) :
    (State.decideAtGate tag s).1.run = s.run ∧ (State.decideAtGate tag s).1.checker = s.checker
    ∧ (State.decideAtGate tag s).1.sheetMass = s.sheetMass
    ∧ (State.decideAtGate tag s).1.feeders = s.feeders ∧ (State.decideAtGate tag s).1.heads = s.heads
    ∧ (State.decideAtGate tag s).1.settings = s.settings ∧ (State.decideAtGate tag s).1.shell = s.shell
    ∧ (State.decideAtGate tag s).1.profile = s.profile
    ∧ (NoticesBounded (State.decideAtGate tag s).1 ↔ NoticesBounded s) := by
  unfold State.decideAtGate; dsimp only; (repeat' split) <;> simp

@[simp] theorem State.reachGate_frame (tag : Nat) (s : State) :
    (State.reachGate tag s).1.run = s.run ∧ (State.reachGate tag s).1.checker = s.checker
    ∧ (State.reachGate tag s).1.sheetMass = s.sheetMass ∧ (State.reachGate tag s).1.feeders = s.feeders
    ∧ (State.reachGate tag s).1.heads = s.heads ∧ (State.reachGate tag s).1.settings = s.settings
    ∧ (State.reachGate tag s).1.shell = s.shell ∧ (State.reachGate tag s).1.profile = s.profile
    ∧ (NoticesBounded (State.reachGate tag s).1 ↔ NoticesBounded s) := by
  unfold State.reachGate; split <;> simp

@[simp] theorem State.repeatGate_frame (e : TrackEntry) (s : State) :
    (State.repeatGate e s).1.run = s.run ∧ (State.repeatGate e s).1.checker = s.checker
    ∧ (State.repeatGate e s).1.sheetMass = s.sheetMass ∧ (State.repeatGate e s).1.feeders = s.feeders
    ∧ (State.repeatGate e s).1.heads = s.heads ∧ (State.repeatGate e s).1.settings = s.settings
    ∧ (State.repeatGate e s).1.shell = s.shell ∧ (State.repeatGate e s).1.profile = s.profile
    ∧ (NoticesBounded (State.repeatGate e s).1 ↔ NoticesBounded s) := by
  unfold State.repeatGate; split <;> simp

@[simp] theorem atGateBody_frame (pl : List Byte) (s : State) :
    (atGateBody pl s).1.run = s.run ∧ (atGateBody pl s).1.checker = s.checker
    ∧ (atGateBody pl s).1.sheetMass = s.sheetMass ∧ (atGateBody pl s).1.feeders = s.feeders
    ∧ (atGateBody pl s).1.heads = s.heads ∧ (atGateBody pl s).1.settings = s.settings
    ∧ (atGateBody pl s).1.shell = s.shell ∧ (atGateBody pl s).1.profile = s.profile
    ∧ (NoticesBounded (atGateBody pl s).1 ↔ NoticesBounded s) := by
  unfold atGateBody; dsimp only; (repeat' split) <;> simp

@[simp] theorem State.applyExit_frame (e : TrackEntry) (d : GateDecision) (reported : GateDecision) (s : State) :
    (State.applyExit e d reported s).checker = s.checker
    ∧ (State.applyExit e d reported s).sheetMass = s.sheetMass
    ∧ (State.applyExit e d reported s).feeders = s.feeders
    ∧ (State.applyExit e d reported s).track = s.track ∧ (State.applyExit e d reported s).heads = s.heads
    ∧ (State.applyExit e d reported s).settings = s.settings
    ∧ (State.applyExit e d reported s).shell = s.shell
    ∧ (State.applyExit e d reported s).profile = s.profile
    ∧ (NoticesBounded (State.applyExit e d reported s) ↔ NoticesBounded s) := by
  unfold State.applyExit; split <;> simp

@[simp] theorem State.exitReport_frame (e : TrackEntry) (d : GateDecision) (reported : GateDecision) (s : State) :
    (State.exitReport e d reported s).sheetMass = s.sheetMass
    ∧ (State.exitReport e d reported s).feeders = s.feeders
    ∧ (State.exitReport e d reported s).heads = s.heads
    ∧ (State.exitReport e d reported s).settings = s.settings
    ∧ (State.exitReport e d reported s).shell = s.shell
    ∧ (State.exitReport e d reported s).profile = s.profile
    ∧ (NoticesBounded (State.exitReport e d reported s) ↔ NoticesBounded s) := by
  simp [State.exitReport]

@[simp] theorem exitedBody_frame (pl : List Byte) (s : State) :
    (exitedBody pl s).1.sheetMass = s.sheetMass ∧ (exitedBody pl s).1.feeders = s.feeders
    ∧ (exitedBody pl s).1.heads = s.heads ∧ (exitedBody pl s).1.settings = s.settings
    ∧ (exitedBody pl s).1.shell = s.shell ∧ (exitedBody pl s).1.profile = s.profile
    ∧ (NoticesBounded (exitedBody pl s).1 ↔ NoticesBounded s) := by
  unfold exitedBody; (repeat' split) <;> simp

@[simp] theorem State.endStall_frame (s : State) :
    (State.endStall s).run = s.run ∧ (State.endStall s).checker = s.checker
    ∧ (State.endStall s).sheetMass = s.sheetMass ∧ (State.endStall s).feeders = s.feeders
    ∧ (State.endStall s).census = s.census ∧ (State.endStall s).heads = s.heads
    ∧ (State.endStall s).settings = s.settings ∧ (State.endStall s).shell = s.shell
    ∧ (State.endStall s).profile = s.profile ∧ (NoticesBounded (State.endStall s) ↔ NoticesBounded s) := by
  simp [State.endStall]

@[simp] theorem State.purgeEntry_frame (e : TrackEntry) (s : State) :
    (State.purgeEntry e s).checker = s.checker ∧ (State.purgeEntry e s).sheetMass = s.sheetMass
    ∧ (State.purgeEntry e s).feeders = s.feeders ∧ (State.purgeEntry e s).heads = s.heads
    ∧ (State.purgeEntry e s).settings = s.settings ∧ (State.purgeEntry e s).shell = s.shell
    ∧ (State.purgeEntry e s).profile = s.profile
    ∧ (NoticesBounded (State.purgeEntry e s) ↔ NoticesBounded s) := by
  unfold State.purgeEntry; split <;> simp

@[simp] theorem State.purgeEntries_frame (es : List TrackEntry) (s : State) :
    (State.purgeEntries es s).checker = s.checker ∧ (State.purgeEntries es s).sheetMass = s.sheetMass
    ∧ (State.purgeEntries es s).feeders = s.feeders ∧ (State.purgeEntries es s).heads = s.heads
    ∧ (State.purgeEntries es s).settings = s.settings ∧ (State.purgeEntries es s).shell = s.shell
    ∧ (State.purgeEntries es s).profile = s.profile
    ∧ (NoticesBounded (State.purgeEntries es s) ↔ NoticesBounded s) := by
  unfold State.purgeEntries
  simpa using foldl_keeps _ (fun s => (s.checker, s.sheetMass, s.feeders, s.heads, s.settings, s.shell, s.profile, NoticesBounded s))
    (by intros; (repeat' split) <;> simp) _ _

@[simp] theorem State.purgeAll_frame (s : State) :
    (State.purgeAll s).sheetMass = s.sheetMass ∧ (State.purgeAll s).feeders = s.feeders
    ∧ (State.purgeAll s).heads = s.heads ∧ (State.purgeAll s).settings = s.settings
    ∧ (State.purgeAll s).shell = s.shell ∧ (State.purgeAll s).profile = s.profile
    ∧ (NoticesBounded (State.purgeAll s) ↔ NoticesBounded s) := by
  simp [State.purgeAll]

@[simp] theorem purgeBody_frame (pl : List Byte) (s : State) :
    (purgeBody pl s).1.sheetMass = s.sheetMass ∧ (purgeBody pl s).1.feeders = s.feeders
    ∧ (purgeBody pl s).1.heads = s.heads ∧ (purgeBody pl s).1.settings = s.settings
    ∧ (purgeBody pl s).1.shell = s.shell ∧ (purgeBody pl s).1.profile = s.profile
    ∧ (NoticesBounded (purgeBody pl s).1 ↔ NoticesBounded s) := by
  unfold purgeBody; split <;> simp

end Sys2Proof.Machine
end

