-- ==== Sys2Proof/Laws/FramesControl.lean ====
section
/-! SUPPORT. What the request bodies of the run, the settings, the head line, the ports and the resets leave unchanged. -/

namespace Sys2Proof.Machine

@[simp] theorem lineStateBody_frame (pl : List Byte) (s : State) :
    (lineStateBody pl s).1.checker = s.checker ∧ (lineStateBody pl s).1.sheetMass = s.sheetMass
    ∧ (lineStateBody pl s).1.feeders = s.feeders ∧ (lineStateBody pl s).1.track = s.track
    ∧ (lineStateBody pl s).1.census = s.census ∧ (lineStateBody pl s).1.bins = s.bins
    ∧ (lineStateBody pl s).1.heads = s.heads ∧ (lineStateBody pl s).1.settings = s.settings
    ∧ (lineStateBody pl s).1.shell = s.shell ∧ (lineStateBody pl s).1.profile = s.profile
    ∧ (NoticesBounded (lineStateBody pl s).1 ↔ NoticesBounded s) := by
  unfold lineStateBody; split <;> simp

@[simp] theorem State.openRunWith_frame (n : Nat) (s : State) :
    (State.openRunWith n s).checker = s.checker ∧ (State.openRunWith n s).sheetMass = s.sheetMass
    ∧ (State.openRunWith n s).feeders = s.feeders ∧ (State.openRunWith n s).track = s.track
    ∧ (State.openRunWith n s).heads = s.heads ∧ (State.openRunWith n s).settings = s.settings
    ∧ (State.openRunWith n s).shell = s.shell ∧ (State.openRunWith n s).profile = s.profile
    ∧ (NoticesBounded (State.openRunWith n s) ↔ NoticesBounded s) := by
  simp [State.openRunWith]

@[simp] theorem openRunBody_frame (pl : List Byte) (s : State) :
    (openRunBody pl s).1.checker = s.checker ∧ (openRunBody pl s).1.sheetMass = s.sheetMass
    ∧ (openRunBody pl s).1.feeders = s.feeders ∧ (openRunBody pl s).1.track = s.track
    ∧ (openRunBody pl s).1.heads = s.heads ∧ (openRunBody pl s).1.settings = s.settings
    ∧ (openRunBody pl s).1.shell = s.shell ∧ (openRunBody pl s).1.profile = s.profile
    ∧ (NoticesBounded (openRunBody pl s).1 ↔ NoticesBounded s) := by
  unfold openRunBody; (repeat' split) <;> simp

@[simp] theorem State.closeRun_frame (s : State) :
    (State.closeRun s).checker = s.checker ∧ (State.closeRun s).sheetMass = s.sheetMass
    ∧ (State.closeRun s).feeders = s.feeders ∧ (State.closeRun s).track = s.track
    ∧ (State.closeRun s).heads = s.heads ∧ (State.closeRun s).settings = s.settings
    ∧ (State.closeRun s).shell = s.shell ∧ (State.closeRun s).profile = s.profile
    ∧ (NoticesBounded (State.closeRun s) ↔ NoticesBounded s) := by
  unfold State.closeRun; dsimp only; (repeat' split) <;> simp

@[simp] theorem closeRunBody_frame (pl : List Byte) (s : State) :
    (closeRunBody pl s).1.checker = s.checker ∧ (closeRunBody pl s).1.sheetMass = s.sheetMass
    ∧ (closeRunBody pl s).1.feeders = s.feeders ∧ (closeRunBody pl s).1.heads = s.heads
    ∧ (closeRunBody pl s).1.settings = s.settings ∧ (closeRunBody pl s).1.shell = s.shell
    ∧ (closeRunBody pl s).1.profile = s.profile ∧ (NoticesBounded (closeRunBody pl s).1 ↔ NoticesBounded s) := by
  unfold closeRunBody; split <;> simp

@[simp] theorem State.appendPiece_frame (x : PieceSpec × MakeUp) (s : State) :
    (State.appendPiece x s).checker = s.checker ∧ (State.appendPiece x s).sheetMass = s.sheetMass
    ∧ (State.appendPiece x s).feeders = s.feeders ∧ (State.appendPiece x s).track = s.track
    ∧ (State.appendPiece x s).heads = s.heads ∧ (State.appendPiece x s).settings = s.settings
    ∧ (State.appendPiece x s).shell = s.shell ∧ (State.appendPiece x s).profile = s.profile
    ∧ (NoticesBounded (State.appendPiece x s) ↔ NoticesBounded s) := by
  simp [State.appendPiece]

@[simp] theorem State.appendAll_frame (xs : List (PieceSpec × MakeUp)) (s : State) :
    (State.appendAll xs s).checker = s.checker ∧ (State.appendAll xs s).sheetMass = s.sheetMass
    ∧ (State.appendAll xs s).feeders = s.feeders ∧ (State.appendAll xs s).track = s.track
    ∧ (State.appendAll xs s).heads = s.heads ∧ (State.appendAll xs s).settings = s.settings
    ∧ (State.appendAll xs s).shell = s.shell ∧ (State.appendAll xs s).profile = s.profile
    ∧ (NoticesBounded (State.appendAll xs s) ↔ NoticesBounded s) := by
  unfold State.appendAll
  simpa using foldl_keeps _ (fun s => (s.checker, s.sheetMass, s.feeders, s.track, s.heads, s.settings, s.shell, s.profile, NoticesBounded s))
    (by intros; (repeat' split) <;> simp) _ _

@[simp] theorem loadPiecesBody_frame (pl : List Byte) (s : State) :
    (loadPiecesBody pl s).1.checker = s.checker ∧ (loadPiecesBody pl s).1.sheetMass = s.sheetMass
    ∧ (loadPiecesBody pl s).1.feeders = s.feeders ∧ (loadPiecesBody pl s).1.heads = s.heads
    ∧ (loadPiecesBody pl s).1.settings = s.settings ∧ (loadPiecesBody pl s).1.shell = s.shell
    ∧ (loadPiecesBody pl s).1.profile = s.profile
    ∧ (NoticesBounded (loadPiecesBody pl s).1 ↔ NoticesBounded s) := by
  unfold loadPiecesBody; (repeat' split) <;> simp

@[simp] theorem State.amend_frame (a : Amendment) (m : MakeUp) (r : Piece) (s : State) :
    (State.amend a m r s).checker = s.checker ∧ (State.amend a m r s).sheetMass = s.sheetMass
    ∧ (State.amend a m r s).feeders = s.feeders ∧ (State.amend a m r s).track = s.track
    ∧ (State.amend a m r s).heads = s.heads ∧ (State.amend a m r s).settings = s.settings
    ∧ (State.amend a m r s).shell = s.shell ∧ (State.amend a m r s).profile = s.profile
    ∧ (NoticesBounded (State.amend a m r s) ↔ NoticesBounded s) := by
  unfold State.amend; split <;> simp

@[simp] theorem amendPieceBody_frame (pl : List Byte) (s : State) :
    (amendPieceBody pl s).1.checker = s.checker ∧ (amendPieceBody pl s).1.sheetMass = s.sheetMass
    ∧ (amendPieceBody pl s).1.feeders = s.feeders ∧ (amendPieceBody pl s).1.heads = s.heads
    ∧ (amendPieceBody pl s).1.settings = s.settings ∧ (amendPieceBody pl s).1.shell = s.shell
    ∧ (amendPieceBody pl s).1.profile = s.profile
    ∧ (NoticesBounded (amendPieceBody pl s).1 ↔ NoticesBounded s) := by
  unfold amendPieceBody; dsimp only; (repeat' split) <;> simp

@[simp] theorem State.setCancelPending_frame (id : PieceId) (s : State) :
    (State.setCancelPending id s).sheetMass = s.sheetMass
    ∧ (State.setCancelPending id s).feeders = s.feeders ∧ (State.setCancelPending id s).heads = s.heads
    ∧ (State.setCancelPending id s).settings = s.settings ∧ (State.setCancelPending id s).shell = s.shell
    ∧ (State.setCancelPending id s).profile = s.profile
    ∧ (NoticesBounded (State.setCancelPending id s) ↔ NoticesBounded s) := by
  unfold State.setCancelPending; dsimp only; (repeat' split) <;> simp

@[simp] theorem cancelPieceBody_frame (pl : List Byte) (s : State) :
    (cancelPieceBody pl s).1.sheetMass = s.sheetMass ∧ (cancelPieceBody pl s).1.feeders = s.feeders
    ∧ (cancelPieceBody pl s).1.heads = s.heads ∧ (cancelPieceBody pl s).1.settings = s.settings
    ∧ (cancelPieceBody pl s).1.shell = s.shell ∧ (cancelPieceBody pl s).1.profile = s.profile
    ∧ (NoticesBounded (cancelPieceBody pl s).1 ↔ NoticesBounded s) := by
  unfold cancelPieceBody; (repeat' split) <;> simp

@[simp] theorem State.ackOutcomes_frame (n : Nat) (s : State) :
    (State.ackOutcomes n s).sheetMass = s.sheetMass ∧ (State.ackOutcomes n s).feeders = s.feeders
    ∧ (State.ackOutcomes n s).track = s.track ∧ (State.ackOutcomes n s).census = s.census
    ∧ (State.ackOutcomes n s).bins = s.bins ∧ (State.ackOutcomes n s).heads = s.heads
    ∧ (State.ackOutcomes n s).settings = s.settings ∧ (State.ackOutcomes n s).shell = s.shell
    ∧ (State.ackOutcomes n s).profile = s.profile
    ∧ (NoticesBounded (State.ackOutcomes n s) ↔ NoticesBounded s) := by
  simp [State.ackOutcomes]

@[simp] theorem ackOutcomesBody_frame (pl : List Byte) (s : State) :
    (ackOutcomesBody pl s).1.sheetMass = s.sheetMass ∧ (ackOutcomesBody pl s).1.feeders = s.feeders
    ∧ (ackOutcomesBody pl s).1.track = s.track ∧ (ackOutcomesBody pl s).1.census = s.census
    ∧ (ackOutcomesBody pl s).1.bins = s.bins ∧ (ackOutcomesBody pl s).1.heads = s.heads
    ∧ (ackOutcomesBody pl s).1.settings = s.settings ∧ (ackOutcomesBody pl s).1.shell = s.shell
    ∧ (ackOutcomesBody pl s).1.profile = s.profile
    ∧ (NoticesBounded (ackOutcomesBody pl s).1 ↔ NoticesBounded s) := by
  unfold ackOutcomesBody; dsimp only; (repeat' split) <;> simp

@[simp] theorem readPieceBody_frame (pl : List Byte) (s : State) :
    (readPieceBody pl s).1.run = s.run ∧ (readPieceBody pl s).1.checker = s.checker
    ∧ (readPieceBody pl s).1.sheetMass = s.sheetMass ∧ (readPieceBody pl s).1.feeders = s.feeders
    ∧ (readPieceBody pl s).1.track = s.track ∧ (readPieceBody pl s).1.census = s.census
    ∧ (readPieceBody pl s).1.bins = s.bins ∧ (readPieceBody pl s).1.heads = s.heads
    ∧ (readPieceBody pl s).1.settings = s.settings ∧ (readPieceBody pl s).1.shell = s.shell
    ∧ (readPieceBody pl s).1.profile = s.profile
    ∧ (NoticesBounded (readPieceBody pl s).1 ↔ NoticesBounded s) := by
  unfold readPieceBody; split <;> simp

@[simp] theorem setSortBody_frame (pl : List Byte) (s : State) :
    (setSortBody pl s).1.run = s.run ∧ (setSortBody pl s).1.checker = s.checker
    ∧ (setSortBody pl s).1.sheetMass = s.sheetMass ∧ (setSortBody pl s).1.feeders = s.feeders
    ∧ (setSortBody pl s).1.track = s.track ∧ (setSortBody pl s).1.census = s.census
    ∧ (setSortBody pl s).1.bins = s.bins ∧ (setSortBody pl s).1.heads = s.heads
    ∧ (setSortBody pl s).1.shell = s.shell ∧ (NoticesBounded (setSortBody pl s).1 ↔ NoticesBounded s) := by
  unfold setSortBody; dsimp only; (repeat' split) <;> simp

@[simp] theorem setKeyRuleBody_frame (pl : List Byte) (s : State) :
    (setKeyRuleBody pl s).1.run = s.run ∧ (setKeyRuleBody pl s).1.checker = s.checker
    ∧ (setKeyRuleBody pl s).1.sheetMass = s.sheetMass ∧ (setKeyRuleBody pl s).1.feeders = s.feeders
    ∧ (setKeyRuleBody pl s).1.track = s.track ∧ (setKeyRuleBody pl s).1.census = s.census
    ∧ (setKeyRuleBody pl s).1.bins = s.bins ∧ (setKeyRuleBody pl s).1.heads = s.heads
    ∧ (setKeyRuleBody pl s).1.shell = s.shell ∧ (NoticesBounded (setKeyRuleBody pl s).1 ↔ NoticesBounded s) := by
  unfold setKeyRuleBody; (repeat' split) <;> simp

@[simp] theorem readCensusBody_frame (pl : List Byte) (s : State) :
    (readCensusBody pl s).1.run = s.run ∧ (readCensusBody pl s).1.checker = s.checker
    ∧ (readCensusBody pl s).1.sheetMass = s.sheetMass ∧ (readCensusBody pl s).1.feeders = s.feeders
    ∧ (readCensusBody pl s).1.track = s.track ∧ (readCensusBody pl s).1.census = s.census
    ∧ (readCensusBody pl s).1.bins = s.bins ∧ (readCensusBody pl s).1.heads = s.heads
    ∧ (readCensusBody pl s).1.settings = s.settings ∧ (readCensusBody pl s).1.shell = s.shell
    ∧ (readCensusBody pl s).1.profile = s.profile
    ∧ (NoticesBounded (readCensusBody pl s).1 ↔ NoticesBounded s) := by
  unfold readCensusBody; split <;> simp

@[simp] theorem State.ackTrays_frame (n : Nat) (s : State) :
    (State.ackTrays n s).run = s.run ∧ (State.ackTrays n s).checker = s.checker
    ∧ (State.ackTrays n s).sheetMass = s.sheetMass ∧ (State.ackTrays n s).feeders = s.feeders
    ∧ (State.ackTrays n s).heads = s.heads ∧ (State.ackTrays n s).settings = s.settings
    ∧ (State.ackTrays n s).shell = s.shell ∧ (State.ackTrays n s).profile = s.profile
    ∧ (NoticesBounded (State.ackTrays n s) ↔ NoticesBounded s) := by
  simp [State.ackTrays]

@[simp] theorem ackTraysBody_frame (pl : List Byte) (s : State) :
    (ackTraysBody pl s).1.run = s.run ∧ (ackTraysBody pl s).1.checker = s.checker
    ∧ (ackTraysBody pl s).1.sheetMass = s.sheetMass ∧ (ackTraysBody pl s).1.feeders = s.feeders
    ∧ (ackTraysBody pl s).1.heads = s.heads ∧ (ackTraysBody pl s).1.settings = s.settings
    ∧ (ackTraysBody pl s).1.shell = s.shell ∧ (ackTraysBody pl s).1.profile = s.profile
    ∧ (NoticesBounded (ackTraysBody pl s).1 ↔ NoticesBounded s) := by
  unfold ackTraysBody; dsimp only; (repeat' split) <;> simp

@[simp] theorem State.onHead_frame (a : Nat) (f : HeadEntry → HeadEntry) (s : State) :
    (State.onHead a f s).run = s.run ∧ (State.onHead a f s).checker = s.checker
    ∧ (State.onHead a f s).sheetMass = s.sheetMass ∧ (State.onHead a f s).feeders = s.feeders
    ∧ (State.onHead a f s).track = s.track ∧ (State.onHead a f s).census = s.census
    ∧ (State.onHead a f s).bins = s.bins ∧ (State.onHead a f s).settings = s.settings
    ∧ (State.onHead a f s).shell = s.shell ∧ (State.onHead a f s).profile = s.profile
    ∧ (NoticesBounded (State.onHead a f s) ↔ NoticesBounded s) := by
  simp [State.onHead]

@[simp] theorem State.arbitrate_frame (s : State) :
    (State.arbitrate s).run = s.run ∧ (State.arbitrate s).checker = s.checker
    ∧ (State.arbitrate s).sheetMass = s.sheetMass ∧ (State.arbitrate s).feeders = s.feeders
    ∧ (State.arbitrate s).track = s.track ∧ (State.arbitrate s).census = s.census
    ∧ (State.arbitrate s).bins = s.bins ∧ (State.arbitrate s).settings = s.settings
    ∧ (State.arbitrate s).shell = s.shell ∧ (State.arbitrate s).profile = s.profile
    ∧ (NoticesBounded (State.arbitrate s) ↔ NoticesBounded s) := by
  simp [State.arbitrate]

@[simp] theorem State.sorterReport_frame (change : HeadChange) (w : Option Half) (s : State) :
    (State.sorterReport change w s).run = s.run ∧ (State.sorterReport change w s).checker = s.checker
    ∧ (State.sorterReport change w s).sheetMass = s.sheetMass
    ∧ (State.sorterReport change w s).feeders = s.feeders ∧ (State.sorterReport change w s).track = s.track
    ∧ (State.sorterReport change w s).heads = s.heads
    ∧ (State.sorterReport change w s).settings = s.settings
    ∧ (State.sorterReport change w s).shell = s.shell ∧ (State.sorterReport change w s).profile = s.profile
    ∧ (NoticesBounded (State.sorterReport change w s) ↔ NoticesBounded s) := by
  unfold State.sorterReport; split <;> simp

@[simp] theorem State.tellOwner_frame (change : HeadChange) (a : Nat) (s : State) :
    (State.tellOwner change a s).run = s.run ∧ (State.tellOwner change a s).sheetMass = s.sheetMass
    ∧ (State.tellOwner change a s).track = s.track ∧ (State.tellOwner change a s).heads = s.heads
    ∧ (State.tellOwner change a s).settings = s.settings ∧ (State.tellOwner change a s).shell = s.shell
    ∧ (State.tellOwner change a s).profile = s.profile
    ∧ (NoticesBounded (State.tellOwner change a s) ↔ NoticesBounded s) := by
  unfold State.tellOwner; (repeat' split) <;> simp

@[simp] theorem State.dispatch_frame (change : HeadChange) (a : Nat) (s : State) :
    (State.dispatch change a s).run = s.run ∧ (State.dispatch change a s).sheetMass = s.sheetMass
    ∧ (State.dispatch change a s).track = s.track ∧ (State.dispatch change a s).heads = s.heads
    ∧ (State.dispatch change a s).settings = s.settings ∧ (State.dispatch change a s).shell = s.shell
    ∧ (State.dispatch change a s).profile = s.profile
    ∧ (NoticesBounded (State.dispatch change a s) ↔ NoticesBounded s) := by
  simp [State.dispatch]

@[simp] theorem State.movePoll_frame (a : Nat) (s : State) :
    (State.movePoll a s).run = s.run ∧ (State.movePoll a s).checker = s.checker
    ∧ (State.movePoll a s).sheetMass = s.sheetMass ∧ (State.movePoll a s).feeders = s.feeders
    ∧ (State.movePoll a s).track = s.track ∧ (State.movePoll a s).census = s.census
    ∧ (State.movePoll a s).bins = s.bins ∧ (State.movePoll a s).settings = s.settings
    ∧ (State.movePoll a s).shell = s.shell ∧ (State.movePoll a s).profile = s.profile
    ∧ (NoticesBounded (State.movePoll a s) ↔ NoticesBounded s) := by
  simp [State.movePoll]

@[simp] theorem State.identityDue_frame (a : Nat) (s : State) :
    (State.identityDue a s).run = s.run ∧ (State.identityDue a s).checker = s.checker
    ∧ (State.identityDue a s).sheetMass = s.sheetMass ∧ (State.identityDue a s).feeders = s.feeders
    ∧ (State.identityDue a s).track = s.track ∧ (State.identityDue a s).census = s.census
    ∧ (State.identityDue a s).bins = s.bins ∧ (State.identityDue a s).settings = s.settings
    ∧ (State.identityDue a s).shell = s.shell ∧ (State.identityDue a s).profile = s.profile
    ∧ (NoticesBounded (State.identityDue a s) ↔ NoticesBounded s) := by
  unfold State.identityDue; split <;> simp

@[simp] theorem State.silence_frame (a : Nat) (s : State) :
    (State.silence a s).run = s.run ∧ (State.silence a s).sheetMass = s.sheetMass
    ∧ (State.silence a s).track = s.track ∧ (State.silence a s).settings = s.settings
    ∧ (State.silence a s).shell = s.shell ∧ (State.silence a s).profile = s.profile
    ∧ (NoticesBounded (State.silence a s) ↔ NoticesBounded s) := by
  simp [State.silence]

@[simp] theorem State.pollFailed_frame (a : Nat) (s : State) :
    (State.pollFailed a s).run = s.run ∧ (State.pollFailed a s).sheetMass = s.sheetMass
    ∧ (State.pollFailed a s).track = s.track ∧ (State.pollFailed a s).settings = s.settings
    ∧ (State.pollFailed a s).shell = s.shell ∧ (State.pollFailed a s).profile = s.profile
    ∧ (NoticesBounded (State.pollFailed a s) ↔ NoticesBounded s) := by
  unfold State.pollFailed; dsimp only; (repeat' split) <;> simp

@[simp] theorem State.statusRead_frame (a : Nat) (w : Half) (s : State) :
    (State.statusRead a w s).run = s.run ∧ (State.statusRead a w s).sheetMass = s.sheetMass
    ∧ (State.statusRead a w s).track = s.track ∧ (State.statusRead a w s).settings = s.settings
    ∧ (State.statusRead a w s).shell = s.shell ∧ (State.statusRead a w s).profile = s.profile
    ∧ (NoticesBounded (State.statusRead a w s) ↔ NoticesBounded s) := by
  unfold State.statusRead; split <;> simp

@[simp] theorem State.statusPollEnd_frame (a : Nat) (w : Option Half) (s : State) :
    (State.statusPollEnd a w s).run = s.run ∧ (State.statusPollEnd a w s).sheetMass = s.sheetMass
    ∧ (State.statusPollEnd a w s).track = s.track ∧ (State.statusPollEnd a w s).settings = s.settings
    ∧ (State.statusPollEnd a w s).shell = s.shell ∧ (State.statusPollEnd a w s).profile = s.profile
    ∧ (NoticesBounded (State.statusPollEnd a w s) ↔ NoticesBounded s) := by
  unfold State.statusPollEnd; split <;> simp

@[simp] theorem State.identify_frame (a : Nat) (w : Half) (s : State) :
    (State.identify a w s).run = s.run ∧ (State.identify a w s).sheetMass = s.sheetMass
    ∧ (State.identify a w s).track = s.track ∧ (State.identify a w s).settings = s.settings
    ∧ (State.identify a w s).shell = s.shell ∧ (State.identify a w s).profile = s.profile
    ∧ (NoticesBounded (State.identify a w s) ↔ NoticesBounded s) := by
  unfold State.identify; (repeat' split) <;> simp

@[simp] theorem State.identityReadEnd_frame (a : Nat) (w : Option Half) (s : State) :
    (State.identityReadEnd a w s).run = s.run ∧ (State.identityReadEnd a w s).sheetMass = s.sheetMass
    ∧ (State.identityReadEnd a w s).track = s.track ∧ (State.identityReadEnd a w s).settings = s.settings
    ∧ (State.identityReadEnd a w s).shell = s.shell ∧ (State.identityReadEnd a w s).profile = s.profile
    ∧ (NoticesBounded (State.identityReadEnd a w s) ↔ NoticesBounded s) := by
  unfold State.identityReadEnd; split <;> simp

@[simp] theorem State.slotEnd_frame (p : Port) (a : Access) (o : LineOutcome) (data : Option Half) (s : State) :
    (State.slotEnd p a o data s).run = s.run ∧ (State.slotEnd p a o data s).checker = s.checker
    ∧ (State.slotEnd p a o data s).sheetMass = s.sheetMass
    ∧ (State.slotEnd p a o data s).feeders = s.feeders ∧ (State.slotEnd p a o data s).track = s.track
    ∧ (State.slotEnd p a o data s).census = s.census ∧ (State.slotEnd p a o data s).bins = s.bins
    ∧ (State.slotEnd p a o data s).settings = s.settings ∧ (State.slotEnd p a o data s).shell = s.shell
    ∧ (State.slotEnd p a o data s).profile = s.profile
    ∧ (NoticesBounded (State.slotEnd p a o data s) ↔ NoticesBounded s) := by
  simp [State.slotEnd]

@[simp] theorem State.endOf_frame (t : Transaction) (o : LineOutcome) (data : Option Half) (s : State) :
    (State.endOf t o data s).run = s.run ∧ (State.endOf t o data s).sheetMass = s.sheetMass
    ∧ (State.endOf t o data s).track = s.track ∧ (State.endOf t o data s).settings = s.settings
    ∧ (State.endOf t o data s).shell = s.shell ∧ (State.endOf t o data s).profile = s.profile
    ∧ (NoticesBounded (State.endOf t o data s) ↔ NoticesBounded s) := by
  unfold State.endOf; (repeat' split) <;> simp

@[simp] theorem State.endTransaction_frame (t : Transaction) (o : LineOutcome) (data : Option Half) (s : State) :
    (State.endTransaction t o data s).run = s.run
    ∧ (State.endTransaction t o data s).sheetMass = s.sheetMass
    ∧ (State.endTransaction t o data s).settings = s.settings
    ∧ (State.endTransaction t o data s).profile = s.profile
    ∧ (NoticesBounded (State.endTransaction t o data s) ↔ NoticesBounded s) := by
  simp [State.endTransaction]

@[simp] theorem State.headReply_frame (bytes : List Byte) (s : State) :
    (State.headReply bytes s).run = s.run ∧ (State.headReply bytes s).sheetMass = s.sheetMass
    ∧ (State.headReply bytes s).settings = s.settings ∧ (State.headReply bytes s).profile = s.profile
    ∧ (NoticesBounded (State.headReply bytes s) ↔ NoticesBounded s) := by
  unfold State.headReply; split <;> simp

@[simp] theorem State.windowExpiry_frame (s : State) :
    (State.windowExpiry s).run = s.run ∧ (State.windowExpiry s).sheetMass = s.sheetMass
    ∧ (State.windowExpiry s).settings = s.settings ∧ (State.windowExpiry s).profile = s.profile
    ∧ (NoticesBounded (State.windowExpiry s) ↔ NoticesBounded s) := by
  unfold State.windowExpiry; split <;> simp

@[simp] theorem headAccessBody_frame (p : Port) (pl : List Byte) (s : State) :
    (headAccessBody p pl s).1.run = s.run ∧ (headAccessBody p pl s).1.checker = s.checker
    ∧ (headAccessBody p pl s).1.sheetMass = s.sheetMass ∧ (headAccessBody p pl s).1.feeders = s.feeders
    ∧ (headAccessBody p pl s).1.track = s.track ∧ (headAccessBody p pl s).1.census = s.census
    ∧ (headAccessBody p pl s).1.bins = s.bins ∧ (headAccessBody p pl s).1.settings = s.settings
    ∧ (headAccessBody p pl s).1.shell = s.shell ∧ (headAccessBody p pl s).1.profile = s.profile
    ∧ (NoticesBounded (headAccessBody p pl s).1 ↔ NoticesBounded s) := by
  unfold headAccessBody; (repeat' split) <;> simp

@[simp] theorem State.resetHead_frame (a : Nat) (s : State) :
    (State.resetHead a s).run = s.run ∧ (State.resetHead a s).checker = s.checker
    ∧ (State.resetHead a s).sheetMass = s.sheetMass ∧ (State.resetHead a s).feeders = s.feeders
    ∧ (State.resetHead a s).track = s.track ∧ (State.resetHead a s).census = s.census
    ∧ (State.resetHead a s).bins = s.bins ∧ (State.resetHead a s).settings = s.settings
    ∧ (State.resetHead a s).shell = s.shell ∧ (State.resetHead a s).profile = s.profile
    ∧ (NoticesBounded (State.resetHead a s) ↔ NoticesBounded s) := by
  unfold State.resetHead; split <;> simp

@[simp] theorem State.resetHeads_frame (changed : List Nat) (s : State) :
    (State.resetHeads changed s).run = s.run ∧ (State.resetHeads changed s).checker = s.checker
    ∧ (State.resetHeads changed s).sheetMass = s.sheetMass
    ∧ (State.resetHeads changed s).feeders = s.feeders ∧ (State.resetHeads changed s).track = s.track
    ∧ (State.resetHeads changed s).census = s.census ∧ (State.resetHeads changed s).bins = s.bins
    ∧ (State.resetHeads changed s).settings = s.settings ∧ (State.resetHeads changed s).shell = s.shell
    ∧ (State.resetHeads changed s).profile = s.profile
    ∧ (NoticesBounded (State.resetHeads changed s) ↔ NoticesBounded s) := by
  unfold State.resetHeads
  simpa using foldl_keeps _ (fun s => (s.run, s.checker, s.sheetMass, s.feeders, s.track, s.census, s.bins, s.settings, s.shell, s.profile, NoticesBounded s))
    (by intros; (repeat' split) <;> simp) _ _

@[simp] theorem State.dropDue_frame (s : State) :
    (State.dropDue s).run = s.run ∧ (State.dropDue s).checker = s.checker
    ∧ (State.dropDue s).sheetMass = s.sheetMass ∧ (State.dropDue s).feeders = s.feeders
    ∧ (State.dropDue s).track = s.track ∧ (State.dropDue s).census = s.census
    ∧ (State.dropDue s).bins = s.bins ∧ (State.dropDue s).settings = s.settings
    ∧ (State.dropDue s).shell = s.shell ∧ (State.dropDue s).profile = s.profile
    ∧ (NoticesBounded (State.dropDue s) ↔ NoticesBounded s) := by
  unfold State.dropDue; (repeat' split) <;> simp

@[simp] theorem State.sorterMoved_frame (old : Option Nat) (s : State) :
    (State.sorterMoved old s).run = s.run ∧ (State.sorterMoved old s).checker = s.checker
    ∧ (State.sorterMoved old s).sheetMass = s.sheetMass ∧ (State.sorterMoved old s).feeders = s.feeders
    ∧ (State.sorterMoved old s).track = s.track ∧ (State.sorterMoved old s).heads = s.heads
    ∧ (State.sorterMoved old s).settings = s.settings ∧ (State.sorterMoved old s).shell = s.shell
    ∧ (State.sorterMoved old s).profile = s.profile
    ∧ (NoticesBounded (State.sorterMoved old s) ↔ NoticesBounded s) := by
  unfold State.sorterMoved; (repeat' split) <;> simp

@[simp] theorem State.withHeadMap_frame (m : Vector HeadKind 16) (enable : Bool) (s : State) :
    (State.withHeadMap m enable s).run = s.run ∧ (State.withHeadMap m enable s).sheetMass = s.sheetMass
    ∧ (State.withHeadMap m enable s).track = s.track ∧ (State.withHeadMap m enable s).shell = s.shell
    ∧ (NoticesBounded (State.withHeadMap m enable s) ↔ NoticesBounded s) := by
  unfold State.withHeadMap; dsimp only; (repeat' split) <;> simp

@[simp] theorem setHeadMapBody_frame (pl : List Byte) (s : State) :
    (setHeadMapBody pl s).1.run = s.run ∧ (setHeadMapBody pl s).1.sheetMass = s.sheetMass
    ∧ (setHeadMapBody pl s).1.shell = s.shell ∧ (NoticesBounded (setHeadMapBody pl s).1 ↔ NoticesBounded s) := by
  unfold setHeadMapBody; (repeat' split) <;> simp

@[simp] theorem State.withStock_frame (id : Nat) (k : Stock) (s : State) :
    (State.withStock id k s).run = s.run ∧ (State.withStock id k s).checker = s.checker
    ∧ (State.withStock id k s).feeders = s.feeders ∧ (State.withStock id k s).track = s.track
    ∧ (State.withStock id k s).census = s.census ∧ (State.withStock id k s).bins = s.bins
    ∧ (State.withStock id k s).heads = s.heads ∧ (State.withStock id k s).shell = s.shell
    ∧ (NoticesBounded (State.withStock id k s) ↔ NoticesBounded s) := by
  simp [State.withStock]

@[simp] theorem setStockBody_frame (pl : List Byte) (s : State) :
    (setStockBody pl s).1.run = s.run ∧ (setStockBody pl s).1.checker = s.checker
    ∧ (setStockBody pl s).1.feeders = s.feeders ∧ (setStockBody pl s).1.track = s.track
    ∧ (setStockBody pl s).1.census = s.census ∧ (setStockBody pl s).1.bins = s.bins
    ∧ (setStockBody pl s).1.heads = s.heads ∧ (setStockBody pl s).1.shell = s.shell
    ∧ (NoticesBounded (setStockBody pl s).1 ↔ NoticesBounded s) := by
  unfold setStockBody; (repeat' split) <;> simp

@[simp] theorem setEnvelopeBody_frame (pl : List Byte) (s : State) :
    (setEnvelopeBody pl s).1.run = s.run ∧ (setEnvelopeBody pl s).1.checker = s.checker
    ∧ (setEnvelopeBody pl s).1.sheetMass = s.sheetMass ∧ (setEnvelopeBody pl s).1.feeders = s.feeders
    ∧ (setEnvelopeBody pl s).1.track = s.track ∧ (setEnvelopeBody pl s).1.census = s.census
    ∧ (setEnvelopeBody pl s).1.bins = s.bins ∧ (setEnvelopeBody pl s).1.heads = s.heads
    ∧ (setEnvelopeBody pl s).1.shell = s.shell
    ∧ (NoticesBounded (setEnvelopeBody pl s).1 ↔ NoticesBounded s) := by
  unfold setEnvelopeBody; (repeat' split) <;> simp

@[simp] theorem State.withLimits_frame (l : Limits) (s : State) :
    (State.withLimits l s).run = s.run ∧ (State.withLimits l s).sheetMass = s.sheetMass
    ∧ (State.withLimits l s).feeders = s.feeders ∧ (State.withLimits l s).track = s.track
    ∧ (State.withLimits l s).census = s.census ∧ (State.withLimits l s).bins = s.bins
    ∧ (State.withLimits l s).heads = s.heads ∧ (State.withLimits l s).shell = s.shell
    ∧ (NoticesBounded (State.withLimits l s) ↔ NoticesBounded s) := by
  unfold State.withLimits; split <;> simp

@[simp] theorem setLimitsBody_frame (pl : List Byte) (s : State) :
    (setLimitsBody pl s).1.run = s.run ∧ (setLimitsBody pl s).1.sheetMass = s.sheetMass
    ∧ (setLimitsBody pl s).1.feeders = s.feeders ∧ (setLimitsBody pl s).1.track = s.track
    ∧ (setLimitsBody pl s).1.census = s.census ∧ (setLimitsBody pl s).1.bins = s.bins
    ∧ (setLimitsBody pl s).1.heads = s.heads ∧ (setLimitsBody pl s).1.shell = s.shell
    ∧ (NoticesBounded (setLimitsBody pl s).1 ↔ NoticesBounded s) := by
  unfold setLimitsBody; (repeat' split) <;> simp

@[simp] theorem setBandsBody_frame (pl : List Byte) (s : State) :
    (setBandsBody pl s).1.run = s.run ∧ (setBandsBody pl s).1.checker = s.checker
    ∧ (setBandsBody pl s).1.sheetMass = s.sheetMass ∧ (setBandsBody pl s).1.feeders = s.feeders
    ∧ (setBandsBody pl s).1.track = s.track ∧ (setBandsBody pl s).1.census = s.census
    ∧ (setBandsBody pl s).1.bins = s.bins ∧ (setBandsBody pl s).1.heads = s.heads
    ∧ (setBandsBody pl s).1.shell = s.shell ∧ (NoticesBounded (setBandsBody pl s).1 ↔ NoticesBounded s) := by
  unfold setBandsBody; (repeat' split) <;> simp

@[simp] theorem State.withFeeder_frame (k : Nat) (x : FeederSetting) (s : State) :
    (State.withFeeder k x s).run = s.run ∧ (State.withFeeder k x s).sheetMass = s.sheetMass
    ∧ (State.withFeeder k x s).track = s.track ∧ (State.withFeeder k x s).census = s.census
    ∧ (State.withFeeder k x s).bins = s.bins ∧ (State.withFeeder k x s).heads = s.heads
    ∧ (State.withFeeder k x s).shell = s.shell
    ∧ (NoticesBounded (State.withFeeder k x s) ↔ NoticesBounded s) := by
  simp [State.withFeeder]

@[simp] theorem setFeederBody_frame (pl : List Byte) (s : State) :
    (setFeederBody pl s).1.run = s.run ∧ (setFeederBody pl s).1.sheetMass = s.sheetMass
    ∧ (setFeederBody pl s).1.track = s.track ∧ (setFeederBody pl s).1.census = s.census
    ∧ (setFeederBody pl s).1.bins = s.bins ∧ (setFeederBody pl s).1.heads = s.heads
    ∧ (setFeederBody pl s).1.shell = s.shell ∧ (NoticesBounded (setFeederBody pl s).1 ↔ NoticesBounded s) := by
  unfold setFeederBody; (repeat' split) <;> simp

@[simp] theorem saveSettingsBody_frame (pl : List Byte) (s : State) :
    (saveSettingsBody pl s).1.run = s.run ∧ (saveSettingsBody pl s).1.checker = s.checker
    ∧ (saveSettingsBody pl s).1.sheetMass = s.sheetMass ∧ (saveSettingsBody pl s).1.feeders = s.feeders
    ∧ (saveSettingsBody pl s).1.track = s.track ∧ (saveSettingsBody pl s).1.census = s.census
    ∧ (saveSettingsBody pl s).1.bins = s.bins ∧ (saveSettingsBody pl s).1.heads = s.heads
    ∧ (NoticesBounded (saveSettingsBody pl s).1 ↔ NoticesBounded s) := by
  unfold saveSettingsBody; split <;> simp

@[simp] theorem State.endSave_frame (r : SaveResult) (s : State) :
    (State.endSave r s).run = s.run ∧ (State.endSave r s).checker = s.checker
    ∧ (State.endSave r s).sheetMass = s.sheetMass ∧ (State.endSave r s).feeders = s.feeders
    ∧ (State.endSave r s).track = s.track ∧ (State.endSave r s).census = s.census
    ∧ (State.endSave r s).bins = s.bins ∧ (State.endSave r s).heads = s.heads
    ∧ (NoticesBounded (State.endSave r s) ↔ NoticesBounded s) := by
  unfold State.endSave; (repeat' split) <;> simp

@[simp] theorem statusBody_frame (p : Port) (pl : List Byte) (s : State) :
    (statusBody p pl s).1.run = s.run ∧ (statusBody p pl s).1.checker = s.checker
    ∧ (statusBody p pl s).1.sheetMass = s.sheetMass ∧ (statusBody p pl s).1.feeders = s.feeders
    ∧ (statusBody p pl s).1.track = s.track ∧ (statusBody p pl s).1.census = s.census
    ∧ (statusBody p pl s).1.bins = s.bins ∧ (statusBody p pl s).1.heads = s.heads
    ∧ (statusBody p pl s).1.settings = s.settings ∧ (statusBody p pl s).1.shell = s.shell
    ∧ (statusBody p pl s).1.profile = s.profile ∧ (NoticesBounded (statusBody p pl s).1 ↔ NoticesBounded s) := by
  unfold statusBody; split <;> simp

@[simp] theorem readNoticesBody_frame (p : Port) (pl : List Byte) (s : State) :
    (readNoticesBody p pl s).1.run = s.run ∧ (readNoticesBody p pl s).1.checker = s.checker
    ∧ (readNoticesBody p pl s).1.sheetMass = s.sheetMass ∧ (readNoticesBody p pl s).1.feeders = s.feeders
    ∧ (readNoticesBody p pl s).1.track = s.track ∧ (readNoticesBody p pl s).1.census = s.census
    ∧ (readNoticesBody p pl s).1.bins = s.bins ∧ (readNoticesBody p pl s).1.heads = s.heads
    ∧ (readNoticesBody p pl s).1.settings = s.settings ∧ (readNoticesBody p pl s).1.profile = s.profile := by
  simp [readNoticesBody]

@[simp] theorem clearFlagsBody_frame (pl : List Byte) (s : State) :
    (clearFlagsBody pl s).1.run = s.run ∧ (clearFlagsBody pl s).1.checker = s.checker
    ∧ (clearFlagsBody pl s).1.sheetMass = s.sheetMass ∧ (clearFlagsBody pl s).1.feeders = s.feeders
    ∧ (clearFlagsBody pl s).1.track = s.track ∧ (clearFlagsBody pl s).1.census = s.census
    ∧ (clearFlagsBody pl s).1.bins = s.bins ∧ (clearFlagsBody pl s).1.heads = s.heads
    ∧ (clearFlagsBody pl s).1.settings = s.settings ∧ (clearFlagsBody pl s).1.shell = s.shell
    ∧ (clearFlagsBody pl s).1.profile = s.profile
    ∧ (NoticesBounded (clearFlagsBody pl s).1 ↔ NoticesBounded s) := by
  unfold clearFlagsBody; split <;> simp

@[simp] theorem setAttentionMaskBody_frame (p : Port) (pl : List Byte) (s : State) :
    (setAttentionMaskBody p pl s).1.run = s.run ∧ (setAttentionMaskBody p pl s).1.checker = s.checker
    ∧ (setAttentionMaskBody p pl s).1.sheetMass = s.sheetMass
    ∧ (setAttentionMaskBody p pl s).1.feeders = s.feeders ∧ (setAttentionMaskBody p pl s).1.track = s.track
    ∧ (setAttentionMaskBody p pl s).1.census = s.census ∧ (setAttentionMaskBody p pl s).1.bins = s.bins
    ∧ (setAttentionMaskBody p pl s).1.heads = s.heads ∧ (setAttentionMaskBody p pl s).1.shell = s.shell
    ∧ (NoticesBounded (setAttentionMaskBody p pl s).1 ↔ NoticesBounded s) := by
  unfold setAttentionMaskBody; split <;> simp

@[simp] theorem setDefaultReportBody_frame (p : Port) (pl : List Byte) (s : State) :
    (setDefaultReportBody p pl s).1.run = s.run ∧ (setDefaultReportBody p pl s).1.checker = s.checker
    ∧ (setDefaultReportBody p pl s).1.sheetMass = s.sheetMass
    ∧ (setDefaultReportBody p pl s).1.feeders = s.feeders ∧ (setDefaultReportBody p pl s).1.track = s.track
    ∧ (setDefaultReportBody p pl s).1.census = s.census ∧ (setDefaultReportBody p pl s).1.bins = s.bins
    ∧ (setDefaultReportBody p pl s).1.heads = s.heads ∧ (setDefaultReportBody p pl s).1.shell = s.shell
    ∧ (NoticesBounded (setDefaultReportBody p pl s).1 ↔ NoticesBounded s) := by
  unfold setDefaultReportBody; split <;> simp

@[simp] theorem State.resetRunTable_frame (s : State) :
    (State.resetRunTable s).checker = s.checker ∧ (State.resetRunTable s).sheetMass = s.sheetMass
    ∧ (State.resetRunTable s).feeders = s.feeders ∧ (State.resetRunTable s).track = s.track
    ∧ (State.resetRunTable s).census = s.census ∧ (State.resetRunTable s).bins = s.bins
    ∧ (State.resetRunTable s).heads = s.heads ∧ (State.resetRunTable s).settings = s.settings
    ∧ (State.resetRunTable s).shell = s.shell ∧ (State.resetRunTable s).profile = s.profile
    ∧ (NoticesBounded (State.resetRunTable s) ↔ NoticesBounded s) := by
  unfold State.resetRunTable; split <;> simp

@[simp] theorem State.clearBin_frame (b : Nat) (s : State) :
    (State.clearBin b s).run = s.run ∧ (State.clearBin b s).checker = s.checker
    ∧ (State.clearBin b s).sheetMass = s.sheetMass ∧ (State.clearBin b s).feeders = s.feeders
    ∧ (State.clearBin b s).track = s.track ∧ (State.clearBin b s).census = s.census
    ∧ (State.clearBin b s).heads = s.heads ∧ (State.clearBin b s).settings = s.settings
    ∧ (State.clearBin b s).shell = s.shell ∧ (State.clearBin b s).profile = s.profile
    ∧ (NoticesBounded (State.clearBin b s) ↔ NoticesBounded s) := by
  unfold State.clearBin; split <;> simp

@[simp] theorem State.testCleared_frame (b : Nat) (s : State) :
    (State.testCleared b s).run = s.run ∧ (State.testCleared b s).checker = s.checker
    ∧ (State.testCleared b s).sheetMass = s.sheetMass ∧ (State.testCleared b s).feeders = s.feeders
    ∧ (State.testCleared b s).track = s.track ∧ (State.testCleared b s).census = s.census
    ∧ (State.testCleared b s).heads = s.heads ∧ (State.testCleared b s).settings = s.settings
    ∧ (State.testCleared b s).shell = s.shell ∧ (State.testCleared b s).profile = s.profile
    ∧ (NoticesBounded (State.testCleared b s) ↔ NoticesBounded s) := by
  unfold State.testCleared; split <;> simp

@[simp] theorem State.clearBins_frame (s : State) :
    (State.clearBins s).run = s.run ∧ (State.clearBins s).checker = s.checker
    ∧ (State.clearBins s).sheetMass = s.sheetMass ∧ (State.clearBins s).feeders = s.feeders
    ∧ (State.clearBins s).track = s.track ∧ (State.clearBins s).census = s.census
    ∧ (State.clearBins s).heads = s.heads ∧ (State.clearBins s).settings = s.settings
    ∧ (State.clearBins s).shell = s.shell ∧ (State.clearBins s).profile = s.profile
    ∧ (NoticesBounded (State.clearBins s) ↔ NoticesBounded s) := by
  unfold State.clearBins
  simpa using foldl_keeps _ (fun s => (s.run, s.checker, s.sheetMass, s.feeders, s.track, s.census, s.heads, s.settings, s.shell, s.profile, NoticesBounded s))
    (by intros; (repeat' split) <;> simp) _ _

@[simp] theorem State.testAllCleared_frame (s : State) :
    (State.testAllCleared s).run = s.run ∧ (State.testAllCleared s).checker = s.checker
    ∧ (State.testAllCleared s).sheetMass = s.sheetMass ∧ (State.testAllCleared s).feeders = s.feeders
    ∧ (State.testAllCleared s).track = s.track ∧ (State.testAllCleared s).census = s.census
    ∧ (State.testAllCleared s).heads = s.heads ∧ (State.testAllCleared s).settings = s.settings
    ∧ (State.testAllCleared s).shell = s.shell ∧ (State.testAllCleared s).profile = s.profile
    ∧ (NoticesBounded (State.testAllCleared s) ↔ NoticesBounded s) := by
  unfold State.testAllCleared
  simpa using foldl_keeps _ (fun s => (s.run, s.checker, s.sheetMass, s.feeders, s.track, s.census, s.heads, s.settings, s.shell, s.profile, NoticesBounded s))
    (by intros; (repeat' split) <;> simp) _ _

@[simp] theorem State.resetBins_frame (s : State) :
    (State.resetBins s).run = s.run ∧ (State.resetBins s).checker = s.checker
    ∧ (State.resetBins s).sheetMass = s.sheetMass ∧ (State.resetBins s).feeders = s.feeders
    ∧ (State.resetBins s).track = s.track ∧ (State.resetBins s).census = s.census
    ∧ (State.resetBins s).heads = s.heads ∧ (State.resetBins s).settings = s.settings
    ∧ (State.resetBins s).shell = s.shell ∧ (State.resetBins s).profile = s.profile
    ∧ (NoticesBounded (State.resetBins s) ↔ NoticesBounded s) := by
  simp [State.resetBins]

@[simp] theorem State.resetFeeders_frame (s : State) :
    (State.resetFeeders s).run = s.run ∧ (State.resetFeeders s).sheetMass = s.sheetMass
    ∧ (State.resetFeeders s).track = s.track ∧ (State.resetFeeders s).census = s.census
    ∧ (State.resetFeeders s).bins = s.bins ∧ (State.resetFeeders s).heads = s.heads
    ∧ (State.resetFeeders s).settings = s.settings ∧ (State.resetFeeders s).shell = s.shell
    ∧ (State.resetFeeders s).profile = s.profile
    ∧ (NoticesBounded (State.resetFeeders s) ↔ NoticesBounded s) := by
  simp [State.resetFeeders]

@[simp] theorem State.runReset_frame (s : State) :
    (State.runReset s).sheetMass = s.sheetMass ∧ (State.runReset s).heads = s.heads
    ∧ (State.runReset s).settings = s.settings ∧ (State.runReset s).shell = s.shell
    ∧ (State.runReset s).profile = s.profile ∧ (NoticesBounded (State.runReset s) ↔ NoticesBounded s) := by
  simp [State.runReset]

@[simp] theorem runResetBody_frame (pl : List Byte) (s : State) :
    (runResetBody pl s).1.sheetMass = s.sheetMass ∧ (runResetBody pl s).1.heads = s.heads
    ∧ (runResetBody pl s).1.settings = s.settings ∧ (runResetBody pl s).1.shell = s.shell
    ∧ (runResetBody pl s).1.profile = s.profile ∧ (NoticesBounded (runResetBody pl s).1 ↔ NoticesBounded s) := by
  unfold runResetBody; split <;> simp

end Sys2Proof.Machine
end

