-- ==== Sys2Proof/Laws/Answers.lean ====
section
/-! SUPPORT. What a command that executes a due request leaves, in the terms of the statements: from what the body of
the request does to `Answered`, `Happened` and `ChangesOnly`. -/

namespace Sys2Proof.Machine

/-! ### Pieces of state -/

theorem Block.same_refl (s : State) (b : Block) : b.same s s := by cases b <;> rfl

theorem Block.same_trans {s t u : State} {b : Block} (h : b.same s t) (h' : b.same t u) : b.same s u := by
  cases b <;> exact Eq.trans h' h

theorem ChangesOnly.refl (bs : List Block) (s : State) : ChangesOnly bs s s := fun b _ => b.same_refl s

theorem ChangesOnly.trans {bs : List Block} {s t u : State} (h : ChangesOnly bs s t) (h' : ChangesOnly bs t u) :
    ChangesOnly bs s u := fun b hb => Block.same_trans (h b hb) (h' b hb)

theorem ChangesOnly.mono {bs cs : List Block} {s t : State} (h : ChangesOnly bs s t) (hc : ∀ b ∈ bs, b ∈ cs) :
    ChangesOnly cs s t := fun b hb => h b fun hb' => hb (hc b hb')

/-- Taking the executed frame from the intake changes the intake alone. -/
theorem State.dropFrame_changes (p : Port) (s : State) : ChangesOnly [.intake p] s (s.dropFrame p) := by
  intro b hb
  cases b <;> simp only [List.mem_singleton, Block.intake.injEq] at hb <;>
    first
      | exact State.dropFrame_intake_ne s p _ hb
      | simp [Block.same]

/-- Answering a frame changes the responses and the output lines alone. -/
theorem State.answerFrame_changes (p : Port) (f : List Byte) (r : Reply) (s : State) :
    ChangesOnly [.responses p, .pins] s (s.answerFrame p f r) := by
  intro b hb
  cases b <;> simp only [List.mem_cons, List.not_mem_nil, or_false, or_true, not_true_eq_false,
      Block.responses.injEq, reduceCtorEq] at hb <;>
    first
      | exact State.answerFrame_responses_ne s p _ f r hb
      | simp [Block.same]

section
variable {k : RequestKind} {p : Port} {f : List Byte} {r : Reply} {s s' : State}

/-- From a body that leaves the port's queues alone to `Answered`. -/
theorem Answered.of_body (hi : (s'.port p).intake = (s.port p).intake.drop 1)
    (hr : (s'.port p).responses = (s.port p).responses) (hf : frameKind f = k.code) :
    Answered p k r.result r.answer s (s'.answerFrame p f r) := by
  simp [Answered, hi, hr, hf]

/-- From what a body does to `Happened`. -/
theorem Happened.of_body {track plan : List Notice} {raised : FlagSet} {bs : List Block}
    (ht : (s'.port .track).notices = pushNotices (s.port .track).notices track)
    (hp : (s'.port .plan).notices = pushNotices (s.port .plan).notices plan)
    (hf : s'.flags = s.flags ||| raised ||| s.lostFlag .track track ||| s.lostFlag .plan plan)
    (hc : ChangesOnly ([.notices .track, .notices .plan, .flags, .pins] ++ (requestBlocks p ++ bs)) s s') :
    Happened track plan raised (requestBlocks p ++ bs) s (s'.answerFrame p f r) where
  toTrack := by simp [ht]
  toPlan := by simp [hp]
  flags := by simp [hf]
  outputs := State.answerFrame_outputs _ _ _ _
  frame := hc.trans ((State.answerFrame_changes p f r s').mono (by simp [requestBlocks]))

@[simp] theorem State.lostFlag_nil (p : Port) : s.lostFlag p [] = 0 := by simp [State.lostFlag, pushNotices]

/-- A body that changes nothing leaves the frame answered and everything else as it was. -/
theorem Happened.of_unchanged : Happened [] [] 0 (requestBlocks p) s ((s.dropFrame p).answerFrame p f r) := by
  have h := Happened.of_body (s := s) (s' := s.dropFrame p) (p := p) (f := f) (r := r) (track := []) (plan := [])
    (raised := 0) (bs := []) (by simp [pushNotices]) (by simp [pushNotices]) (by simp)
    ((s.dropFrame_changes p).mono (by simp [requestBlocks]))
  simpa using h

end

/-- A request that is due and whose body refuses it, or only reads, is answered, and nothing else changes. -/
theorem serve_unchanged {k : RequestKind} {p : Port} {pl : List Byte} {s : State}
    {body : List Byte → State → State × Reply} {r : Reply} (h : Due k p pl s) (hp : k.permitted p = true)
    (hl : k.lengthAllowed pl.length = true) (hb : body pl (s.dropFrame p) = (s.dropFrame p, r)) :
    Answered p k r.result r.answer s (serve k p body s) ∧ Happened [] [] 0 (requestBlocks p) s (serve k p body s) := by
  rw [serve_due h hp hl, hb]
  exact ⟨Answered.of_body (by simp) (by simp) rfl, Happened.of_unchanged⟩

/-- A request that is due and whose body changes `bs` beside notices and flags is answered, and nothing else
changes. -/
theorem serve_changed {k : RequestKind} {p : Port} {pl : List Byte} {s s' : State}
    {body : List Byte → State → State × Reply} {r : Reply} {track plan : List Notice} {raised : FlagSet}
    {bs : List Block} (h : Due k p pl s) (hp : k.permitted p = true) (hl : k.lengthAllowed pl.length = true)
    (hb : body pl (s.dropFrame p) = (s', r)) (hbs : .intake p ∉ bs ∧ .responses p ∉ bs)
    (ht : (s'.port .track).notices = pushNotices (s.port .track).notices track)
    (hn : (s'.port .plan).notices = pushNotices (s.port .plan).notices plan)
    (hf : s'.flags = s.flags ||| raised ||| s.lostFlag .track track ||| s.lostFlag .plan plan)
    (hc : ChangesOnly ([.notices .track, .notices .plan, .flags, .pins] ++ bs) (s.dropFrame p) s') :
    Answered p k r.result r.answer s (serve k p body s)
      ∧ Happened track plan raised (requestBlocks p ++ bs) s (serve k p body s) := by
  rw [serve_due h hp hl, hb]
  have hi : (s'.port p).intake = ((s.dropFrame p).port p).intake := hc (.intake p) (by simp [hbs])
  have hr : (s'.port p).responses = ((s.dropFrame p).port p).responses := hc (.responses p) (by simp [hbs])
  refine ⟨Answered.of_body (by simp [hi]) (by simp [hr]) rfl, Happened.of_body ht hn hf ?_⟩
  exact ((s.dropFrame_changes p).mono (by simp [requestBlocks])).trans
    (hc.mono fun b hb => by simp only [List.mem_append] at hb ⊢; tauto)

/-- The same, for a body whose every effect is named: `Answered` and the frame alone. -/
theorem serve_changesOnly {k : RequestKind} {p : Port} {pl : List Byte} {s s' : State}
    {body : List Byte → State → State × Reply} {r : Reply} {bs : List Block} (h : Due k p pl s)
    (hp : k.permitted p = true) (hl : k.lengthAllowed pl.length = true)
    (hb : body pl (s.dropFrame p) = (s', r)) (hbs : .intake p ∉ bs ∧ .responses p ∉ bs)
    (hc : ChangesOnly bs (s.dropFrame p) s') :
    Answered p k r.result r.answer s (serve k p body s)
      ∧ ChangesOnly (requestBlocks p ++ bs ++ [.pins]) s (serve k p body s) := by
  rw [serve_due h hp hl, hb]
  have hi : (s'.port p).intake = ((s.dropFrame p).port p).intake := hc (.intake p) hbs.1
  have hr : (s'.port p).responses = ((s.dropFrame p).port p).responses := hc (.responses p) hbs.2
  refine ⟨Answered.of_body (by simp [hi]) (by simp [hr]) rfl, ?_⟩
  refine ((s.dropFrame_changes p).mono (by simp [requestBlocks])).trans ?_
  exact (hc.mono fun b hb => by simp only [List.mem_append]; tauto).trans
    ((State.answerFrame_changes _ _ _ _).mono (by simp [requestBlocks]))

/-! ### The commands that execute a request -/

/-- The rule that owns a request: what its execution does with the payload. -/
def RequestKind.body : RequestKind → Port → List Byte → State → State × Reply
  | .status, p => statusBody p
  | .readNotices, p => readNoticesBody p
  | .clearFlags, _ => clearFlagsBody
  | .setAttentionMask, p => setAttentionMaskBody p
  | .setDefaultReport, p => setDefaultReportBody p
  | .headAccess, p => headAccessBody p
  | .readSlot, p => readBody (slotAnswer p)
  | .readPiece, _ => readPieceBody
  | .readFeeders, _ => readBody feedersAnswer
  | .readBins, _ => readBody binsAnswer
  | .readHeads, _ => readBody headsAnswer
  | .readCensus, _ => readCensusBody
  | .runReset, _ => runResetBody
  | .lineState, _ => lineStateBody
  | .sheet, _ => sheetBody
  | .release, _ => releaseBody
  | .folded, _ => foldedBody
  | .pullResult, _ => pullResultBody
  | .enveloped, _ => envelopedBody
  | .weighed, _ => weighedBody
  | .atGate, _ => atGateBody
  | .exited, _ => exitedBody
  | .purge, _ => purgeBody
  | .resync, _ => resyncBody
  | .openRun, _ => openRunBody
  | .closeRun, _ => closeRunBody
  | .loadPieces, _ => loadPiecesBody
  | .amendPiece, _ => amendPieceBody
  | .cancelPiece, _ => cancelPieceBody
  | .readOutcomes, _ => readBody outcomesAnswer
  | .ackOutcomes, _ => ackOutcomesBody
  | .readTrays, _ => readBody traysAnswer
  | .ackTrays, _ => ackTraysBody
  | .setStock, _ => setStockBody
  | .setEnvelope, _ => setEnvelopeBody
  | .setFeeder, _ => setFeederBody
  | .setBands, _ => setBandsBody
  | .setSort, _ => setSortBody
  | .setKeyRule, _ => setKeyRuleBody
  | .setLimits, _ => setLimitsBody
  | .setHeadMap, _ => setHeadMapBody
  | .saveSettings, _ => saveSettingsBody

theorem exec_command (k : RequestKind) (p : Port) (s : State) :
    exec (k.command p) s = .next (serve k p (k.body p) s) := by cases k <;> rfl

/-- Every command executes a request, makes a transfer, or is an event. -/
theorem command_or_event (c : Instr) :
    (∃ k p, c = RequestKind.command k p) ∨ (∃ p bs, c = .send p bs) ∨ (∃ p n, c = .fetch p n)
      ∨ (∃ p code n, c = .statusTransfer p code n) ∨ (∃ p, c = .badFrame p) ∨ (∃ p, c = .unknownRequestKind p)
      ∨ (∃ r, c = .saveEnd r) ∨ c = .powerOnReset ∨ c = .powerOnLoadEnd ∨ (∃ bs, c = .headReply bs)
      ∨ c = .replyWindowExpiry := by
  cases c
  case status p => exact .inl ⟨.status, p, rfl⟩
  case readNotices p => exact .inl ⟨.readNotices, p, rfl⟩
  case clearFlags p => exact .inl ⟨.clearFlags, p, rfl⟩
  case setAttentionMask p => exact .inl ⟨.setAttentionMask, p, rfl⟩
  case setDefaultReport p => exact .inl ⟨.setDefaultReport, p, rfl⟩
  case headAccess p => exact .inl ⟨.headAccess, p, rfl⟩
  case readSlot p => exact .inl ⟨.readSlot, p, rfl⟩
  case readPiece p => exact .inl ⟨.readPiece, p, rfl⟩
  case readFeeders p => exact .inl ⟨.readFeeders, p, rfl⟩
  case readBins p => exact .inl ⟨.readBins, p, rfl⟩
  case readHeads p => exact .inl ⟨.readHeads, p, rfl⟩
  case readCensus p => exact .inl ⟨.readCensus, p, rfl⟩
  case runReset p => exact .inl ⟨.runReset, p, rfl⟩
  case lineState p => exact .inl ⟨.lineState, p, rfl⟩
  case sheet p => exact .inl ⟨.sheet, p, rfl⟩
  case release p => exact .inl ⟨.release, p, rfl⟩
  case folded p => exact .inl ⟨.folded, p, rfl⟩
  case pullResult p => exact .inl ⟨.pullResult, p, rfl⟩
  case enveloped p => exact .inl ⟨.enveloped, p, rfl⟩
  case weighed p => exact .inl ⟨.weighed, p, rfl⟩
  case atGate p => exact .inl ⟨.atGate, p, rfl⟩
  case exited p => exact .inl ⟨.exited, p, rfl⟩
  case purge p => exact .inl ⟨.purge, p, rfl⟩
  case resync p => exact .inl ⟨.resync, p, rfl⟩
  case openRun p => exact .inl ⟨.openRun, p, rfl⟩
  case closeRun p => exact .inl ⟨.closeRun, p, rfl⟩
  case loadPieces p => exact .inl ⟨.loadPieces, p, rfl⟩
  case amendPiece p => exact .inl ⟨.amendPiece, p, rfl⟩
  case cancelPiece p => exact .inl ⟨.cancelPiece, p, rfl⟩
  case readOutcomes p => exact .inl ⟨.readOutcomes, p, rfl⟩
  case ackOutcomes p => exact .inl ⟨.ackOutcomes, p, rfl⟩
  case readTrays p => exact .inl ⟨.readTrays, p, rfl⟩
  case ackTrays p => exact .inl ⟨.ackTrays, p, rfl⟩
  case setStock p => exact .inl ⟨.setStock, p, rfl⟩
  case setEnvelope p => exact .inl ⟨.setEnvelope, p, rfl⟩
  case setFeeder p => exact .inl ⟨.setFeeder, p, rfl⟩
  case setBands p => exact .inl ⟨.setBands, p, rfl⟩
  case setSort p => exact .inl ⟨.setSort, p, rfl⟩
  case setKeyRule p => exact .inl ⟨.setKeyRule, p, rfl⟩
  case setLimits p => exact .inl ⟨.setLimits, p, rfl⟩
  case setHeadMap p => exact .inl ⟨.setHeadMap, p, rfl⟩
  case saveSettings p => exact .inl ⟨.saveSettings, p, rfl⟩
  all_goals simp

end Sys2Proof.Machine
end

