-- ==== Sys2Proof/Tests/Slice0.lean ====
section
/-! SUPPORT. Tests: the refusals of WellFormed, the manual's worked examples, each about one step, and for every
statement with hypotheses a state and operands that meet them. -/

open Sys2Proof Sys2Proof.Machine

namespace Sys2Proof.Tests

set_option Elab.async false

/-! ### Small states -/

/-- The part with run 7 open and the line running. -/
def opened : State :=
  State.reset.onRun fun t => { t with runState := .opened, runNumber := 7, lineState := .running }

/-- The run state changed. -/
def inRun (st : RunState) (s : State) : State := s.onRun fun t => { t with runState := st }

/-- The line stopped. -/
def stopped (s : State) : State := s.onRun fun t => { t with lineState := .stopped }

/-- A piece of two sheets of stock 0, with no inserts, ruled by slot 1. -/
def piece (n : Nat) (st : PieceState) : Piece :=
  ⟨⟨n, 0⟩, 7, 2, 0, [], [1, 2, 3, 4, 5, 6, 7, 8], st, false, [], ⟨3, 14480, 780⟩, some (14480, 780), none, some 1, [],
    [], none, .ruled 1, none, none⟩

/-- The piece table holding the records given, in the open run. -/
def holding (ps : List Piece) : State := opened.onRun fun t => { t with pieces := ps }

/-- The collation records, the forming one first. -/
def collating (f r : Option Collation) (ps : List Piece) : State :=
  (holding ps).onChecker fun c => { c with forming := f, ready := r }

/-- The track queue. -/
def onLine (es : List TrackEntry) (ps : List Piece) : State := (holding ps).onTrack fun q => { q with entries := es }

/-- An entry of piece `n`. -/
def entry (tag n : Nat) (st : Stage) : TrackEntry := ⟨tag, ⟨n, 0⟩, st, false, none⟩

/-- A collation of piece `n` with sheet 1 accepted. -/
def begun (n : Nat) : Collation := ⟨.piece ⟨n, 0⟩, none, [1], 1, 1, [], false⟩

/-- A clean collation of piece `n`. -/
def clean (n : Nat) : Collation := ⟨.piece ⟨n, 0⟩, none, [1, 2], 2, 2, [], true⟩

/-- An orphan begun by sheet 2 of piece 9. -/
def orphan : Collation := ⟨.orphan, some ⟨9, 0⟩, [], 2, 1, [], false⟩

/-- A mark. -/
def mark (n i p : Nat) : Mark := ⟨⟨n, 0⟩, i, p⟩

/-- Feeder `k` READY with an insert code, 5,000 mg and 200 µm. -/
def carrying (k code : Nat) (s : State) : State :=
  (s.onActive fun f => { f with feeders := setNth f.feeders (k - 1) ⟨code, 5000, 200, true⟩ }).onFeeders fun v =>
    setNth v (k - 1) ⟨.ready, 0, 0, 0⟩

/-- Stock 0 configured. -/
def stocked (s : State) : State :=
  s.onActive fun f => { f with stocks := setNth f.stocks 0 { factoryStock with configured := true } }

/-- A bin changed. -/
def withBin (b : Nat) (x : Bin) (s : State) : State := s.onBin b fun _ => x

/-- A tray in bin `b`, of slot 1, with `n` places counted. -/
def tray (b n : Nat) (st : TrayState) : Tray :=
  ⟨3, 7, .rule 1, 1, b, st, n, 1, 0, 14480, Vector.replicate 8 0, none, none, none⟩

/-- Slot 1 enabled with bin 6. -/
def ruled (s : State) : State :=
  s.onActive fun f => { f with keyRules := setNth f.keyRules 0 ⟨true, .wide, List.replicate 8 none, 6⟩ }

/-- The transaction on the line. -/
def line (t : Option Transaction) (s : State) : State := s.onHeads fun h => { h with line := t }

/-- A head table entry changed. -/
def withHead (a : Nat) (e : HeadEntry) (s : State) : State := s.onHeads fun h => { h with table := setNth h.table a e }

/-- A request as the only frame of a port's intake, with three responses waiting. -/
def asking (k : RequestKind) (p : Port) (pl : List Byte) (s : State) : State :=
  s.onPort p fun q => { q with intake := [requestFrame k pl], responses := List.replicate 3 ⟨0, .done, []⟩ }

theorem due_asking {k : RequestKind} {p : Port} {pl : List Byte} {s : State} (h : pl.length ≤ 250 := by decide) :
    Due k p pl (asking k p pl s) := by
  cases p <;> exact ⟨by show 3 < 4; decide, h, rfl⟩

/-- The stall at the gate. -/
def stallAt (tag : Nat) (g : TrayGroup) (s : State) : State := s.onBins fun m => { m with stall := some ⟨tag, g⟩ }

/-- An entry stalled at the gate. -/
def stuck (tag n : Nat) : TrackEntry := { entry tag n .atGate with stalled := true }

/-- A faulted piece on the track. -/
def faulty (n : Nat) : Piece := { piece n .onTrack with faults := [.missingInsert] }

/-- Another tray piece limit. -/
def trayLimit (n : Nat) (s : State) : State := s.onActive fun f => { f with sort := { f.sort with trayPieceLimit := n } }

/-- The sorter head PRESENT with a status word. -/
def sorterShows (w : Half) (s : State) : State := withHead 13 ⟨.present, 0, some w, some 0x6000, none⟩ s

/-- The closed-tray list with `n` records, and the delivery queue. -/
def lists (n : Nat) (d : List Nat) (s : State) : State :=
  s.onBins fun m => { m with closedTrays := List.replicate n (tray 1 1 .closed), delivery := d }

/-- An OPEN tray of a group with `r` reserved places in bin `b`. -/
def groupTray (b : Nat) (g : TrayGroup) (r : Nat) : Tray := { tray b 1 .opened with group := g, reserved := r }

/-- The two slots, the port granted last, and the line idle. -/
def slotted (x y : Slot) (p : Port) (s : State) : State :=
  s.onHeads fun h => { h with slots := ⟨x, y⟩, lastGranted := p, line := none }

/-- A release hold. -/
def held (h : ReleaseHold) (s : State) : State := s.onChecker fun c => { c with releaseHold := h }

/-- The state after a command. -/
def after (c : Instr) (s : State) : Option State :=
  match exec c s with
  | .next t => some t
  | .fault _ | .refused _ => none

/-- The state after a request. -/
def ask (k : RequestKind) (p : Port) (pl : List Byte) (s : State) : Option State :=
  after (k.command p) (asking k p pl s)

/-- The result and payload of the request just executed. -/
def answer (t : Option State) (p : Port) : Option (Result × List Value) :=
  t.bind fun t => (t.port p).responses.getLast?.map fun r => (r.result, r.answer)

/-! ### Well-formed commands -/

theorem test_statusTransfer_refuses_send_code : (Instr.statusTransfer .track 0x5A 1).wellFormed = false := by decide +kernel
theorem test_statusTransfer_refuses_fetch_code : (Instr.statusTransfer .plan 0xA5 0).wellFormed = false := by decide +kernel
theorem test_headReply_refuses_no_bytes : (Instr.headReply []).wellFormed = false := by decide +kernel
theorem test_wellFormed_accepts :
    (Instr.statusTransfer .track 0 1).wellFormed && (Instr.headReply [1]).wellFormed
      && (Instr.send .plan []).wellFormed = true := by decide +kernel

/-! ### Reset -/

/-- R199 to R201: the load of a blank part leaves the state named reset. -/
theorem test_reset_is_the_end_of_the_load :
    after .powerOnLoadEnd (State.reset.onSettings fun x => { x with starting := true }) = some State.reset := by decide +kernel

/-- An empty queue idles. -/
theorem test_empty_queue_idles : step State.reset = .next State.reset := rfl

/-! ### Ports (chapter 9) -/

/-- R185: the register over 01 ends at 07 hex, and over 01 00 at 15 hex. -/
theorem test_check_of_the_manual : crc8 [0x01] = 0x07 ∧ crc8 [0x01, 0x00] = 0x15 := by decide +kernel

/-- R185: a request of kind code 01 with an empty payload is sent as 01, 00, 15 hex. -/
theorem test_status_frame : requestFrame .status [] = [0x01, 0x00, 0x15] := by decide +kernel

/-- R184, R202: a frame with a changed check is taken and sets FRAME_ERROR_T, flag 0. -/
theorem test_send_of_a_broken_frame :
    ((after (.send .track [0x01, 0x00, 0x14]) State.reset).map fun t =>
      ((t.port .track).shifted.drop 1, (t.port .track).intake, t.flags.getLsbD 0))
      = some ([0x01, 0x00, 0x00], [[0x01, 0x00, 0x14]], true) := by decide +kernel

/-- R182, R202: four places free, no response, attention asserted on the plan port alone. -/
theorem test_port_status_bytes :
    State.reset.statusByte .track = 0x04 ∧ State.reset.statusByte .plan = 0x44 := by decide +kernel

/-- R186: a request of the plan port sent on the track port answers NOT_PERMITTED. -/
theorem test_openRun_on_the_track_port :
    answer (ask .openRun .track [0, 7] State.reset) .track = some (.notPermitted, []) := by decide +kernel

/-! ### Make-up (section 3.8 to 3.10) -/

theorem test_sheet_masses :
    stockSheetMass ⟨true, 800, 2100, 2970, 100⟩ = 4990 ∧ stockSheetMass ⟨true, 1200, 2100, 2970, 150⟩ = 7484
      ∧ stockSheetMass ⟨true, 500, 1000, 1001, 100⟩ = 501 := by decide +kernel

theorem test_fold_plan_of_the_reference_piece :
    foldPlan ⟨true, 800, 2100, 2970, 100⟩ factoryEnvelope 4 = some 3
      ∧ foldPlan ⟨true, 3000, 4500, 4500, 100⟩ factoryEnvelope 4 = none := by decide +kernel

theorem test_make_up_of_the_reference_piece :
    makeUpMass 5 4990 [(3200, 180), (5600, 250)] factoryEnvelope = 38250
      ∧ makeUpThickness 5 100 3 [(3200, 180), (5600, 250)] factoryEnvelope = 2110
      ∧ makeUpMass 8 7484 [(25000, 400), (25000, 400)] factoryEnvelope = 114372 := by decide +kernel

theorem test_tolerance_and_band :
    weighTolerance factoryLimits 60000 = 1800 ∧ weighTolerance factoryLimits 38250 = 1500
      ∧ weighTolerance factoryLimits 114372 = 3431
      ∧ bandOf [20000, 50000, 100000] 50000 = 2 ∧ bandOf [20000, 50000, 100000] 114100 = 3 := by decide +kernel

/-- WEIGHED MASS(39,751) of an expected 38,250 mg is a mismatch; 39,750 is not (section 3.10). -/
theorem test_weighed_at_the_tolerance :
    ([39750, 39751].map fun m =>
      (ask .weighed .track (toBytes 1 5 ++ [0] ++ toBytes 3 m)
          (onLine [entry 5 1 .enveloped] [{ piece 1 .onTrack with expected := some (38250, 2110) }])).map
        fun t => t.run.pieces.map fun r => (r.faults, r.measured, r.band))
      = [some [([], some 39750, some 2)], some [([.weightMismatch], some 39751, some 2)]] := by decide +kernel

/-! ### Collation (chapter 2) -/

/-- Sheet 3 of 3 after sheet 1 is judged MISSING_SHEET and ends the collation, which moves to ready (section 2.2). -/
theorem test_missing_sheet_ends_the_collation :
    ((ask .sheet .track (mark 1001 3 3).bytes
        (collating (some (begun 1001)) none [{ piece 1001 .collating with sheets := 3 }])).map fun t =>
      (t.checker.forming, t.checker.ready, t.run.pieces.map Piece.faults))
      = some (none, some ⟨.piece ⟨1001, 0⟩, none, [1], 3, 2, [.missingSheet], true⟩, [[.missingSheet]]) := by decide +kernel

/-- The start sheet of 1,003 skips 1,002, which finishes NOT_FED with SKIPPED_AHEAD (section 2.2). -/
theorem test_start_sheet_looks_ahead :
    ((ask .sheet .track (mark 1003 1 4).bytes
        (holding [piece 1002 .loaded, { piece 1003 .loaded with sheets := 4 }, piece 1004 .loaded])).map fun t =>
      (t.run.pieces.map fun r => (r.state, r.disposition), t.run.outcomes, t.checker.cursor))
      = some ([(.finished, some .notFed), (.collating, none), (.loaded, none)], [⟨1002, 0⟩], 2) := by decide +kernel

/-! ### Feeders and the track (chapters 4 and 5) -/

/-- A MISS at feeder 2, its third, makes it EMPTY and calls feeder 6, which carries the same code (section 4.5). -/
theorem test_miss_is_covered_by_feeder_six :
    ((ask .pullResult .track [17, 2, 3]
        ((withHead 2 ⟨.present, 0, some 0, some 0, none⟩ (carrying 2 12 (carrying 6 12 (onLine [entry 17 4200 .folded]
          [{ piece 4200 .onTrack with inserts := [⟨12, true⟩], pulls := [⟨2, 12, .pending, .release⟩] }])))).onFeeders
          fun v => setNth v 1 ⟨.ready, 2, 0, 0⟩)).map fun t =>
      (t.run.pieces.map Piece.pulls, (t.port .track).notices))
      = some ([[⟨2, 12, .miss, .release⟩, ⟨6, 12, .pending, .substitute⟩]], [.feederState 2 .empty 3]) := by decide +kernel

/-- FOLDED(17, 3) before tag 16 sets OUT_OF_ORDER, flag 3; FOLDED(16, 2) of a letter fold adds FOLD_MISMATCH
(section 5.4). -/
theorem test_stage_order_and_fold_mismatch :
    ((ask .folded .track [17, 3] (onLine [entry 16 4300 .released, entry 17 4301 .released] [])).map fun t =>
        t.flags.getLsbD 3) = some true
      ∧ ((ask .folded .track [16, 2] (onLine [entry 16 4300 .released] [piece 4300 .onTrack])).map fun t =>
        t.run.pieces.map Piece.faults) = some [[.foldMismatch]] := by decide +kernel

/-- RELEASE of a clean piece at allocator position 63 gives tag 63, and the position continues from 0 (R101). -/
theorem test_release_folds_with_the_last_tag :
    ((ask .release .track [0] ((collating none (some (clean 1)) [piece 1 .collating]).onTrack fun q =>
        { q with allocator := 63 })).map fun t => (t.track.entries, t.track.allocator, t.checker.ready))
      = some ([entry 63 1 .released], 0, none) := by decide +kernel

/-! ### Sorting and trays (chapters 6 and 7) -/

/-- The keys of the matching example and the slots that rule them (section 6.2). -/
theorem test_matching_keys :
    let any : List (Option Nat) := List.replicate 4 none
    let f := { factoryProfile with
      keyRules := #v[⟨true, .half, [7, 0, 0, 1, 7, 0, 0, 2].map some, 6⟩,
        ⟨true, .quarter, [9, 8, 9, 9, 9, 7, 9, 7].map some, 5⟩, ⟨true, .wide, [1, 2, 3, 4, 5, 6, 7, 8].map some, 4⟩,
        ⟨true, .quarter, [7, 0, 7, 0, 7, 0, 7, 0].map some, 3⟩, factoryKeyRule 1, factoryKeyRule 1, factoryKeyRule 1,
        ⟨false, .wide, any ++ any, 1⟩] }
    [[7, 0, 0, 2, 1, 2, 3, 4], [7, 0, 0, 3, 1, 2, 3, 4], [9, 8, 7, 6, 5, 4, 3, 2], [1, 2, 3, 4, 5, 6, 7, 8],
      [1, 2, 3, 4, 5, 6, 7, 9]].map f.ruledBy = [some 1, some 4, some 2, some 3, none] := by decide +kernel

/-- The gate of p5 in the census example: 12346 becomes COARSE, and area 123 is created at AREA (section 6.8). -/
theorem test_area_decision_of_the_small_census :
    let s := ((holding []).onActive fun f => { f with sort := { f.sort with fineMinimum := 3, areaMinimum := 3 } }).onCensus
      fun _ => [⟨[1, 2, 3, 4, 6], .fine 2 .undecided⟩, ⟨[1, 2, 3, 5, 0], .fine 1 .undecided⟩,
        ⟨[4, 5, 6, 0, 0], .fine 2 .undecided⟩]
    let x := s.levelAnswer { piece 5 .onTrack with key := [1, 2, 3, 4, 6, 0, 0, 0], census := .counted }
    x.2 = .area [1, 2, 3] ∧ x.1.census = [⟨[1, 2, 3], .area .area⟩, ⟨[1, 2, 3, 4, 6], .fine 2 .coarse⟩,
        ⟨[1, 2, 3, 5, 0], .fine 1 .undecided⟩, ⟨[4, 5, 6, 0, 0], .fine 2 .undecided⟩] := by decide +kernel

/-- The gate that brings count and reserved to the piece limit closes the tray, and its bin waits (section 7.3). -/
theorem test_tray_closes_on_its_count :
    ((ask .atGate .track [5] ((withBin 6 ⟨.opened, some (tray 6 1 .opened)⟩ (ruled
        (onLine [entry 5 1 .weighed] [piece 1 .onTrack]))).onActive fun f =>
          { f with sort := { f.sort with trayPieceLimit := 3 } })).map fun t =>
      ((t.bin 6).state, (t.bin 6).tray.map fun y => (y.state, y.reserved), (t.port .plan).notices))
      = some (.fullWait, some (.closing, 2), [.binState 6 .fullWait (some 3)]) := by decide +kernel

/-! ### The hypotheses of the statements are met

Each theorem shows, for every clause of one statement, a concrete state and operands that meet its hypotheses
together. -/

theorem accepted_both : ∀ i, 1 ≤ i → i ≤ 2 → i ∈ [1, 2] := by
  intro i h1 h2
  interval_cases i <;> decide

theorem no_waiting : ∀ q, ((⟨.idle, .idle⟩ : PerPort Slot).get q).waiting? = none := by
  intro q; cases q <;> rfl

theorem witness_StepRunsFrontCommand :
    ∃ (c : Instr) (q : List Instr) (s : State), s.pending = c :: q :=
  ⟨.closeRun .plan, [.powerOnReset], State.reset.withPending [.closeRun .plan, .powerOnReset], rfl⟩

theorem witness_FramesThatCannotRunAreAnswered :
    (∃ k p pl s, Due k p pl s ∧ k.permitted p = false)
      ∧ (∃ k p pl s, Due k p pl s ∧ k.permitted p = true ∧ k.lengthAllowed pl.length = false)
      ∧ (∃ (p : Port) (f : List Byte) (fs : List (List Byte)) (s : State), (s.port p).intake = f :: fs
        ∧ (s.port p).responses.length < 4 ∧ f.length < 3)
      ∧ ∃ (p : Port) (f : List Byte) (fs : List (List Byte)) (s : State), (s.port p).intake = f :: fs
        ∧ (s.port p).responses.length < 4 ∧ 3 ≤ f.length ∧ f.length = byteAt f 1 + 3 ∧ byteAt f 1 ≤ 250 ∧ crc8 f = 0
        ∧ ∀ k : RequestKind, k.code ≠ f.getD 0 0 :=
  ⟨⟨.sheet, .plan, [], asking .sheet .plan [] State.reset, due_asking, rfl⟩,
    ⟨.purge, .track, [0], asking .purge .track [0] State.reset, due_asking, rfl, rfl⟩,
    ⟨.track, [1, 0], [], State.reset.onPort .track fun q => { q with intake := [[1, 0]] }, rfl, by decide, by decide⟩,
    ⟨.plan, [0, 0, 0], [], State.reset.onPort .plan fun q => { q with intake := [[0, 0, 0]] }, rfl, by decide,
      by decide, by decide, by decide, by decide +kernel, fun k => by cases k <;> decide⟩⟩

theorem witness_SendTakesAFrameWhenAPlaceIsFree :
    (∃ (p : Port) (s : State), s.settings.starting = false ∧ (s.port p).intake.length < 4)
      ∧ (∃ (p : Port) (s : State), s.settings.starting = false ∧ 4 ≤ (s.port p).intake.length)
      ∧ ∃ s : State, s.settings.starting = true :=
  ⟨⟨.track, State.reset.onPort .track fun q => { q with intake := [[], [], []] }, rfl, by decide⟩,
    ⟨.plan, State.reset.onPort .plan fun q => { q with intake := [[], [], [], []] }, rfl, by decide⟩,
    State.reset.onSettings fun x => { x with starting := true }, rfl⟩

theorem witness_FetchShiftsOutTheOldestResponse :
    (∃ (p : Port) (n : Nat) (r : Response) (rs : List Response) (s : State), s.settings.starting = false
        ∧ (s.port p).responses = r :: rs ∧ r.frame.length ≤ n)
      ∧ (∃ (p : Port) (n : Nat) (r : Response) (rs : List Response) (s : State), s.settings.starting = false
        ∧ (s.port p).responses = r :: rs ∧ n < r.frame.length)
      ∧ ∃ (p : Port) (s : State), s.settings.starting = true ∨ (s.port p).responses = [] :=
  ⟨⟨.track, 5, ⟨2, .done, []⟩, [], State.reset.onPort .track fun q => { q with responses := [⟨2, .done, []⟩] }, rfl,
      rfl, by decide⟩,
    ⟨.track, 4, ⟨2, .done, []⟩, [], State.reset.onPort .track fun q => { q with responses := [⟨2, .done, []⟩] }, rfl,
      rfl, by decide⟩,
    .plan, State.reset, .inr rfl⟩

theorem witness_StatusTransferShowsThePort :
    (∃ code : Byte, code ≠ 0x5A ∧ code ≠ 0xA5) ∧ ∃ s, PortsBounded s :=
  ⟨⟨0x5B, by decide, by decide⟩, State.reset, fun p => by cases p <;> decide⟩

theorem witness_FrameCheckFindsAChangedByte :
    ∃ (xs ys : List Byte) (b c : Byte), crc8 (xs ++ b :: ys) = 0 ∧ b ≠ c :=
  ⟨[0x01, 0x00], [], 0x15, 0x14, by decide +kernel, by decide⟩

theorem witness_BatchReadsBackFromItsPayload :
    ∃ xs : List PieceSpec, 1 ≤ xs.length ∧ xs.length ≤ 8 ∧ ∀ x ∈ xs, x.sendable = true :=
  ⟨List.replicate 8 ⟨⟨16777215, 255⟩, 255, 255, [9, 9, 9, 9, 9, 9, 15, 15], 255, List.replicate 8 ⟨255, true⟩⟩,
    by decide, by decide, by decide +kernel⟩

/-- A step that is taken, from the state after reset with a SEND waiting, and from one with an entry stalled; reset meets
every invariant. -/
theorem witness_EveryStepKeeps :
    PortsBounded (State.reset.withPending [.send .track [1, 0, 0x15]])
      ∧ OutputsFollow (State.reset.withPending [.send .track [1, 0, 0x15]])
      ∧ TrackBounded (State.reset.withPending [.send .track [1, 0, 0x15]])
      ∧ CapacitiesHeld (State.reset.withPending [.send .track [1, 0, 0x15]])
      ∧ PiecesDistinct (State.reset.withPending [.send .track [1, 0, 0x15]])
      ∧ (∃ t, step (State.reset.withPending [.send .track [1, 0, 0x15]]) = .next t)
      ∧ TrackBounded ((stallAt 5 .mixed (onLine [entry 4 9 .gated, stuck 5 1, entry 6 2 .folded] [])).withPending
          [.fetch .plan 0])
      ∧ StagesOrdered ((stallAt 5 .mixed (onLine [entry 4 9 .gated, stuck 5 1, entry 6 2 .folded] [])).withPending
          [.fetch .plan 0])
      ∧ ∃ t, step ((stallAt 5 .mixed (onLine [entry 4 9 .gated, stuck 5 1, entry 6 2 .folded] [])).withPending
          [.fetch .plan 0]) = .next t := by
  refine ⟨fun p => by cases p <;> decide, by unfold OutputsFollow; decide, by unfold TrackBounded; decide,
    by unfold CapacitiesHeld; decide, by unfold PiecesDistinct; decide, ⟨_, rfl⟩, by unfold TrackBounded; decide,
    ⟨by decide, ?_⟩, _, rfl⟩
  rintro w ⟨⟩
  exact ⟨[entry 4 9 .gated], stuck 5 1, [entry 6 2 .folded], rfl, rfl, rfl, rfl, by decide⟩

theorem witness_PortsExecuteAndAnswerApart :
    (∃ k p pl s, Due k p pl s)
      ∧ ∃ (p q : Port) (c : Instr) (s t : State), q ≠ p ∧ c = .fetch p 1 ∧ exec c s = .next t :=
  ⟨⟨.purge, .track, List.replicate 250 0, asking .purge .track (List.replicate 250 0) State.reset,
      due_asking (by decide +kernel)⟩,
    .track, .plan, .fetch .track 1, State.reset, _, by decide, rfl, rfl⟩

theorem witness_SettingsAreWrittenByTheirRequestsOnly :
    (∃ c s t, exec c s = .next t ∧ t.settings.active ≠ s.settings.active)
      ∧ (∃ c s t, exec c s = .next t ∧ t.settings.stored ≠ s.settings.stored)
      ∧ (∃ c s t, exec c s = .next t ∧ t.heads.table ≠ s.heads.table)
      ∧ (∃ c s t, exec c s = .next t ∧ t.run.runNumber ≠ s.run.runNumber)
      ∧ ∃ c s t, exec c s = .next t ∧ t.run.lineState ≠ s.run.lineState :=
  ⟨⟨.setDefaultReport .plan, asking .setDefaultReport .plan [3] State.reset, _, rfl, by decide +kernel⟩,
    ⟨.saveSettings .plan, asking .saveSettings .plan [] (State.reset.onSettings fun x =>
      { x with stored := { x.stored with marker := true } }), _, rfl, by decide +kernel⟩,
    ⟨.powerOnReset, withHead 3 ⟨.present, 0, some 0, some 0, none⟩ State.reset, _, rfl, by decide +kernel⟩,
    ⟨.powerOnReset, opened, _, rfl, by decide +kernel⟩, .powerOnReset, opened, _, rfl, by decide +kernel⟩

theorem witness_StatusReturnsAReport :
    (∃ p s, Due .status p [] s) ∧ (∃ p s, Due .status p (toBytes 1 Report.bins.code) s)
      ∧ ∃ (p : Port) (b : Byte) (s : State), 4 ≤ b.toNat ∧ Due .status p [b] s :=
  ⟨⟨.track, _, due_asking (s := State.reset)⟩, ⟨.plan, _, due_asking (s := State.reset)⟩,
    .plan, 4, _, by decide, due_asking (s := State.reset)⟩

theorem witness_ReadNoticesRemovesTheOldest : ∃ p s, Due .readNotices p [] s ∧ (s.port p).notices.length = 9 :=
  ⟨.plan, asking .readNotices .plan [] (State.reset.onPort .plan fun q =>
    { q with notices := List.replicate 9 .outcomes }), due_asking, rfl⟩

theorem witness_ClearFlagsClearsTheFlagsNamed :
    (∃ (p : Port) (s : State) (x : FlagSet), x = 0x1FFF ∧ Due .clearFlags p (toBytes 2 x.toNat) s)
      ∧ (∃ (p : Port) (s : State) (pl : List Byte), pl.length ≠ 2 ∧ Due .clearFlags p pl s)
      ∧ ∃ (p : Port) (s : State) (pl : List Byte), pl.length = 2 ∧ beNat pl = 8192 ∧ Due .clearFlags p pl s :=
  ⟨⟨.track, _, 0x1FFF, rfl, due_asking (s := State.reset)⟩,
    ⟨.track, _, [0], by decide, due_asking (s := State.reset)⟩,
    .plan, _, [0x20, 0], rfl, by decide, due_asking (s := State.reset)⟩

theorem witness_MaskAndReportAreSetForThePort :
    (∃ (p : Port) (s : State) (x : FlagSet), x = 0x1FFF ∧ Due .setAttentionMask p (toBytes 2 x.toNat) s)
      ∧ (∃ (p : Port) (s : State) (pl : List Byte), beNat pl = 8192 ∧ Due .setAttentionMask p pl s)
      ∧ (∃ (p : Port) (s : State), Due .setDefaultReport p (toBytes 1 Report.bins.code) s)
      ∧ ∃ (p : Port) (s : State) (pl : List Byte), beNat pl = 4 ∧ Due .setDefaultReport p pl s :=
  ⟨⟨.plan, _, 0x1FFF, rfl, due_asking (s := State.reset)⟩,
    ⟨.plan, _, [0x20, 0], by decide, due_asking (s := State.reset)⟩,
    ⟨.track, _, due_asking (s := State.reset)⟩, .track, _, [4], by decide, due_asking (s := State.reset)⟩

theorem witness_HeadAccessIsPlacedInThePortsSlot :
    (∃ (p : Port) (a : Access) (s : State), a.inRange = true ∧ Due .headAccess p a.payload s
        ∧ (s.heads.slots.get p).busy = false ∧ s.heads.line = none
        ∧ ∀ q, (s.heads.slots.get q).waiting? = none)
      ∧ (∀ r : Port, ∃ (p q : Port) (a b : Access) (s : State), a.inRange = true ∧ Due .headAccess p a.payload s
        ∧ q ≠ p ∧ (s.heads.slots.get p).busy = false ∧ s.heads.line = none ∧ s.heads.slots.get q = .waiting b
        ∧ s.heads.lastGranted = r)
      ∧ (∃ (p : Port) (a : Access) (s : State), a.inRange = true ∧ Due .headAccess p a.payload s
        ∧ (s.heads.slots.get p).busy = false ∧ s.heads.line ≠ none)
      ∧ (∃ (p : Port) (a : Access) (s : State), a.inRange = true ∧ Due .headAccess p a.payload s
        ∧ (s.heads.slots.get p).busy = true)
      ∧ ∃ (p : Port) (pl : List Byte) (s : State), Due .headAccess p pl s
        ∧ ∀ a : Access, a.inRange = true → pl ≠ a.payload := by
  refine ⟨⟨.track, ⟨15, 31, none⟩, asking .headAccess .track (Access.payload ⟨15, 31, none⟩) (line none State.reset), rfl,
      due_asking, rfl, rfl, no_waiting⟩,
    fun r => ⟨.track, .plan, ⟨15, 31, none⟩, ⟨0, 2, some 0xFFFF⟩, asking .headAccess .track
      (Access.payload ⟨15, 31, none⟩) (slotted .idle (.waiting ⟨0, 2, some 0xFFFF⟩) r opened), rfl, due_asking, by decide,
      rfl, rfl, rfl, rfl⟩,
    ⟨.plan, ⟨15, 2, some 7⟩, asking .headAccess .plan (Access.payload ⟨15, 2, some 7⟩) State.reset, rfl, due_asking, rfl,
      by decide⟩,
    ⟨.plan, ⟨0, 0, none⟩, asking .headAccess .plan (Access.payload ⟨0, 0, none⟩) (State.reset.onHeads fun h =>
      { h with slots := ⟨.idle, .waiting ⟨1, 2, none⟩⟩ }), rfl, due_asking, rfl⟩,
    .track, [], _, due_asking (s := opened), fun a _ h => ?_⟩
  have := congrArg List.length h
  simp [Access.payload, toBytes] at this

theorem witness_ReadsAnswerAndChangeNothing :
    (∃ p s, Due .readFeeders p [] s) ∧ (∃ p s, Due .readHeads p [] s) ∧ (∃ p s, Due .readSlot p [] s)
      ∧ (∃ s, Due .readOutcomes .plan [] s) ∧ (∃ s, Due .readTrays .plan [] s) ∧ ∃ p s, Due .readBins p [] s :=
  ⟨⟨.track, _, due_asking (s := opened)⟩, ⟨.plan, _, due_asking (s := opened)⟩, ⟨.plan, _, due_asking (s := opened)⟩,
    ⟨_, due_asking (s := opened)⟩, ⟨_, due_asking (s := opened)⟩, .track, _, due_asking (s := opened)⟩

theorem witness_ReadPieceReturnsTheNewestRecord :
    (∃ (p : Port) (n : Nat) (s : State) (xs ys : List Piece) (r : Piece), n ≤ 16777215
        ∧ Due .readPiece p (toBytes 3 n) s ∧ s.run.pieces = xs ++ r :: ys ∧ r.id.seq = n ∧ ∀ x ∈ ys, x.id.seq ≠ n)
      ∧ ∃ (p : Port) (n : Nat) (s : State), n ≤ 16777215 ∧ Due .readPiece p (toBytes 3 n) s
        ∧ ∀ x ∈ s.run.pieces, x.id.seq ≠ n :=
  ⟨⟨.track, 16777215, asking .readPiece .track (toBytes 3 16777215) (holding [piece 16777215 .finished,
        { piece 16777215 .loaded with id := ⟨16777215, 1⟩ }, piece 2 .loaded]),
      [piece 16777215 .finished], [piece 2 .loaded], { piece 16777215 .loaded with id := ⟨16777215, 1⟩ }, by decide,
      due_asking, rfl, rfl, by decide⟩,
    .plan, 16777215, asking .readPiece .plan (toBytes 3 16777215) (holding [piece 2 .loaded]), by decide, due_asking,
    by decide⟩

theorem witness_ReadCensusReturnsEntriesInKeyOrder :
    (∃ p s, Due .readCensus p [0xFF] s)
      ∧ (∃ (p : Port) (s : State) (xs ys : List CensusEntry) (e : CensusEntry), s.census = xs ++ e :: ys
        ∧ (s.census.Pairwise fun x y => digitsBefore x.digits y.digits = true)
        ∧ e.digits.length = (if e.kind.isFine then s.profile.sort.fineLength else s.profile.sort.areaLength)
        ∧ s.profile.sort.inRange = true ∧ (∀ d ∈ e.digits, d ≤ 9)
        ∧ Due .readCensus p (toBytes 1 (if e.kind.isFine then 0 else 1) ++ [0] ++ digitBytes e.digits) s)
      ∧ (∀ x ∈ [(0, [1, 2, 3, 0, 8]), (1, [1, 2, 9])],
        let xs : List CensusEntry := [⟨[1, 2, 3], .area .mixed⟩]
        let ys : List CensusEntry := [⟨[1, 2, 3, 0, 9], .fine 1 .coarse⟩]
        let s := asking .readCensus .track (toBytes 1 x.1 ++ [7] ++ digitBytes x.2) (opened.onCensus fun _ =>
          if x.1 = 0 then xs ++ ys else xs)
        x.2.length = (if x.1 = 0 then s.profile.sort.fineLength else s.profile.sort.areaLength)
          ∧ s.profile.sort.inRange = true ∧ (∀ d ∈ x.2, d ≤ 9) ∧ (∀ e ∈ xs, digitsBefore x.2 e.digits = false)
          ∧ (x.1 = 0 → ∀ e ∈ ys, digitsBefore x.2 e.digits = true)
          ∧ Due .readCensus .track (toBytes 1 x.1 ++ [7] ++ digitBytes x.2) s)
      ∧ ∀ pl ∈ ([[0], [254], [2, 0, 0, 0, 0, 0], [0, 0, 0x12, 0x34, 0xA0, 0], [1, 0, 0x1A, 0, 0, 0]] : List (List Byte)),
        let s := asking .readCensus .plan pl opened
        s.profile.sort.inRange = true ∧ Due .readCensus .plan pl s ∧ (pl.length = 1 ∧ byteAt pl 0 ≠ 255
          ∨ pl.length = 6 ∧ (1 < byteAt pl 0
            ∨ ∃ i < (if byteAt pl 0 = 0 then s.profile.sort.fineLength else s.profile.sort.areaLength),
              9 < (if i % 2 = 0 then byteAt pl (2 + i / 2) / 16 else byteAt pl (2 + i / 2) % 16))) :=
  ⟨⟨.plan, _, due_asking (s := opened)⟩,
    ⟨.track, asking .readCensus .track (toBytes 1 1 ++ [0] ++ digitBytes [1, 2, 3]) (opened.onCensus fun _ =>
      [⟨[1, 2, 3], .area .mixed⟩, ⟨[1, 2, 3, 0, 9], .fine 1 .coarse⟩]), [], [⟨[1, 2, 3, 0, 9], .fine 1 .coarse⟩],
    ⟨[1, 2, 3], .area .mixed⟩, rfl, by decide, rfl, rfl, by decide, due_asking⟩, by decide +kernel, by decide +kernel⟩

theorem witness_RunResetEmptiesTheBlocks :
    (∃ p s, Due .runReset p [] s ∧ s.run.lineState = .stopped)
      ∧ ∃ p s, Due .runReset p [] s ∧ s.run.lineState = .running :=
  ⟨⟨.track, _, due_asking (s := stopped (holding [piece 1 .loaded])), rfl⟩, .plan, _, due_asking (s := opened), rfl⟩

theorem witness_LineAndRunAreOpened :
    (∃ s : State, Due .lineState .track (toBytes 1 LineState.running.code) s)
      ∧ (∃ (pl : List Byte) (s : State), pl.length = 1 ∧ beNat pl = 2 ∧ Due .lineState .track pl s)
      ∧ (∃ (n : Nat) (s : State), n = 65535 ∧ Due .openRun .plan (toBytes 2 n) s ∧ s.run.runState = .closed)
      ∧ (∃ (n : Nat) (s : State), n = 0 ∧ Due .openRun .plan (toBytes 2 n) s ∧ s.run.runState = .closed)
      ∧ ∃ (n : Nat) (s : State), n ≤ 65535 ∧ Due .openRun .plan (toBytes 2 n) s ∧ s.run.runState ≠ .closed :=
  ⟨⟨_, due_asking (s := State.reset)⟩, ⟨[2], _, rfl, by decide, due_asking (s := State.reset)⟩,
    ⟨65535, _, rfl, due_asking (s := State.reset), rfl⟩, ⟨0, _, rfl, due_asking (s := State.reset), rfl⟩,
    0, _, by decide, due_asking (s := opened), by decide⟩

theorem witness_SheetsJoinTheOpenCollation :
    (∃ (m : Mark) (c : Collation) (r : Piece) (s : State), m.inRange = true ∧ Due .sheet .track m.bytes s
        ∧ s.run.runState ≠ .closed ∧ s.checker.intake = .inSync ∧ s.checker.forming = some c ∧ c.ended = false
        ∧ c.owner = .piece m.id ∧ s.piece? m.id = some r)
      ∧ (∃ (c : Collation) (s : State) (id : PieceId), s.run.runState ≠ .closed ∧ s.checker.intake = .inSync
        ∧ s.checker.forming = some c ∧ c.ended = false ∧ c.owner = .piece id ∧ Due .sheet .track [0] s)
      ∧ (∃ (c : Collation) (s : State), s.run.runState ≠ .closed ∧ s.checker.intake = .inSync
        ∧ s.checker.forming = some c ∧ c.ended = false ∧ c.owner = .orphan ∧ Due .sheet .track [0] s)
      ∧ ∃ (m : Mark) (c : Collation) (s : State), s.run.runState ≠ .closed ∧ s.checker.intake = .inSync
        ∧ s.checker.forming = some c ∧ c.ended = false ∧ c.owner = .orphan ∧ m.inRange = true ∧ m.index ≠ 1
        ∧ c.identity = some m.id ∧ Due .sheet .track m.bytes s :=
  ⟨⟨mark 1 2 2, begun 1, piece 1 .collating, asking .sheet .track (mark 1 2 2).bytes (inRun .draining
        (collating (some (begun 1)) none [piece 1 .collating])), rfl, due_asking, by decide, rfl, rfl, rfl, rfl, rfl⟩,
    ⟨begun 1, asking .sheet .track [0] (collating (some (begun 1)) none [piece 1 .collating]), ⟨1, 0⟩, by decide, rfl,
      rfl, rfl, rfl, due_asking⟩,
    ⟨orphan, asking .sheet .track [0] (collating (some orphan) none []), by decide, rfl, rfl, rfl, rfl, due_asking⟩,
    mark 9 24 24, orphan, asking .sheet .track (mark 9 24 24).bytes (collating (some orphan) none []), by decide, rfl,
    rfl, rfl, rfl, rfl, by decide, rfl, due_asking⟩

/-- The start sheet of the last record within the resync reach of 4, and of a piece of one sheet, with no record before
it. -/
theorem witness_StartSheetOpensThePiece :
    (∃ (m : Mark) (pre post : List Piece) (r : Piece) (s : State), m.inRange = true ∧ Due .sheet .track m.bytes s
      ∧ s.run.runState = .opened ∧ s.checker.intake = .inSync ∧ s.checker.forming = none ∧ PiecesDistinct s
      ∧ s.loadedAhead = pre ++ r :: post ∧ r.id = m.id ∧ pre.length = s.profile.limits.resyncReach
      ∧ m.index = 24 ∧ m.printed ≠ r.sheets)
      ∧ ∃ (m : Mark) (post : List Piece) (r : Piece) (s : State), m.inRange = true ∧ Due .sheet .track m.bytes s
        ∧ s.run.runState = .opened ∧ s.checker.intake = .inSync ∧ s.checker.forming = none ∧ PiecesDistinct s
        ∧ s.loadedAhead = r :: post ∧ r.id = m.id ∧ r.sheets = 1 ∧ m.index = r.sheets := by
  refine ⟨⟨mark 5 24 24, [piece 1 .loaded, piece 2 .loaded, piece 3 .loaded, piece 4 .loaded], [piece 6 .loaded],
      piece 5 .loaded, asking .sheet .track (mark 5 24 24).bytes (holding [piece 1 .loaded, piece 2 .loaded,
        piece 3 .loaded, piece 4 .loaded, piece 5 .loaded, piece 6 .loaded]), rfl, due_asking, rfl, rfl, rfl,
      by unfold PiecesDistinct; decide, rfl, rfl, rfl, rfl, by decide⟩,
    mark 5 1 1, [], { piece 5 .loaded with sheets := 1 }, asking .sheet .track (mark 5 1 1).bytes
      (holding [{ piece 5 .loaded with sheets := 1 }]), rfl, due_asking, rfl, rfl, rfl,
    by unfold PiecesDistinct; decide, rfl, rfl, rfl, rfl⟩

/-- A NOREAD with the run of orphans at the limit, and a mark of no LOADED record. -/
theorem witness_StartSheetOpensAnOrphan :
    (∃ s : State, Due .sheet .track SheetReport.noRead.bytes s ∧ s.run.runState = .opened
        ∧ s.checker.intake = .inSync ∧ s.checker.forming = none
        ∧ s.profile.limits.orphanLimit = s.checker.orphanRun + 1)
      ∧ ∃ (m : Mark) (s : State), m.inRange = true
        ∧ (∀ pre r post, s.loadedAhead = pre ++ r :: post → r.id = m.id → s.profile.limits.resyncReach < pre.length)
        ∧ Due .sheet .track (SheetReport.mark m).bytes s ∧ s.run.runState = .opened ∧ s.checker.intake = .inSync
        ∧ s.checker.forming = none := by
  refine ⟨⟨asking .sheet .track [0] (opened.onChecker fun c => { c with orphanRun := 2 }), due_asking, rfl, rfl, rfl,
    rfl⟩, mark 9 1 2, asking .sheet .track (mark 9 1 2).bytes (holding [piece 1 .collating]), rfl, ?_, due_asking, rfl,
    rfl, rfl⟩
  intro pre r post h
  have : [] = pre ++ r :: post := h
  simp at this

/-- A sheet of piece 5 that ends the collation of piece 9, and a sheet of no LOADED record that ends an orphan. -/
theorem witness_SheetOfAnotherPieceEndsTheCollation :
    (∃ (m : Mark) (c : Collation) (pre post : List Piece) (r : Piece) (s : State), m.inRange = true
      ∧ Due .sheet .track m.bytes s ∧ s.run.runState = .opened ∧ s.checker.intake = .inSync
      ∧ s.checker.forming = some c ∧ c.ended = false ∧ s.checker.ready = none ∧ c.owner = .piece ⟨9, 0⟩
      ∧ m.id ≠ ⟨9, 0⟩ ∧ PiecesDistinct s ∧ s.loadedAhead = pre ++ r :: post ∧ r.id = m.id
      ∧ pre.length ≤ s.profile.limits.resyncReach)
      ∧ ∃ (m : Mark) (c : Collation) (s : State), m.inRange = true ∧ Due .sheet .track m.bytes s
        ∧ s.run.runState = .opened ∧ s.checker.intake = .inSync ∧ s.checker.forming = some c ∧ c.ended = false
        ∧ s.checker.ready = none ∧ c.owner = .orphan ∧ m.index = 1
        ∧ ∀ pre r post, s.loadedAhead = pre ++ r :: post → r.id = m.id → s.profile.limits.resyncReach < pre.length := by
  refine ⟨⟨mark 5 1 2, begun 9, [piece 4 .loaded], [], piece 5 .loaded, asking .sheet .track (mark 5 1 2).bytes
      (collating (some (begun 9)) none [piece 9 .collating, piece 4 .loaded, piece 5 .loaded]), rfl, due_asking, rfl, rfl,
      rfl, rfl, rfl, rfl, by decide, by unfold PiecesDistinct; decide, by decide +kernel, rfl, by decide⟩,
    mark 9 1 2, orphan, asking .sheet .track (mark 9 1 2).bytes (collating (some orphan) none []), rfl, due_asking, rfl,
    rfl, rfl, rfl, rfl, rfl, rfl, ?_⟩
  intro pre r post h
  have : [] = pre ++ r :: post := h
  simp at this

theorem witness_RefusedSheetsChangeNothing :
    (∃ s, Due .sheet .track SheetReport.noRead.bytes s ∧ s.run.runState = .closed)
      ∧ (∃ s, Due .sheet .track SheetReport.noRead.bytes s ∧ s.run.runState ≠ .closed ∧ s.checker.intake = .syncLost)
      ∧ (∃ s, Due .sheet .track SheetReport.noRead.bytes s ∧ s.run.runState = .draining ∧ s.checker.intake = .inSync
        ∧ ∀ c, s.checker.forming = some c → c.ended = false → SheetReport.noRead.joins c = false)
      ∧ (∃ s c, Due .sheet .track SheetReport.noRead.bytes s ∧ s.run.runState = .opened ∧ s.checker.intake = .inSync
        ∧ s.checker.forming = some c ∧ c.ended = true)
      ∧ ∃ (pl : List Byte) (s : State), Due .sheet .track pl s ∧ pl ≠ [0]
        ∧ ∀ m : Mark, m.inRange = true → pl ≠ m.bytes := by
  refine ⟨⟨_, due_asking (s := State.reset), rfl⟩,
    ⟨_, due_asking (s := opened.onChecker fun c => { c with intake := .syncLost }), by decide, rfl⟩,
    ⟨_, due_asking (s := inRun .draining opened), rfl, rfl, (fun _ h => nomatch h)⟩,
    ⟨_, clean 1, due_asking (s := collating (some (clean 1)) (some (clean 2)) []), rfl, rfl, rfl, rfl⟩,
    [2], _, due_asking (s := opened), by decide, fun m _ h => ?_⟩
  have := congrArg List.length h
  simp [Mark.bytes, toBytes] at this

theorem witness_ReleaseFoldsACleanCollation :
    ∃ (flush : Bool) (c : Collation) (r : Piece) (s : State), Due .release .track (toBytes 1 (yesNo flush)) s
      ∧ s.checker.ready = some c ∧ c.owner = .piece r.id ∧ s.piece? r.id = some r ∧ c.ended = true ∧ c.faults = []
      ∧ (∀ i, 1 ≤ i → i ≤ r.sheets → i ∈ c.accepted) ∧ r.cancelPending = false ∧ s.unavailable r = []
      ∧ s.track.entries.length = 31 :=
  ⟨true, clean 1, { piece 1 .collating with inserts := [⟨11, true⟩] }, asking .release .track (toBytes 1 1)
      (carrying 1 11 ((collating none (some (clean 1)) [{ piece 1 .collating with inserts := [⟨11, true⟩] }]).onTrack
        fun q => { q with entries := (List.range 31).map fun i => entry i 2 .released })),
    due_asking, rfl, rfl, rfl, rfl, rfl, accepted_both, rfl, by decide +kernel, rfl⟩

/-- The feeder rows: a feeder disabled, one with its head silent, and one whose head shows a word. -/
theorem witness_ReleaseChoosesTagAndFeeders :
    (∃ q : TrackQueue, q.entries.length = 31 ∧ q.allocator = 63)
      ∧ (∃ r : Piece, r.inserts ≠ [] ∧ ∀ i ∈ r.inserts, i.code ≠ 0)
      ∧ (∃ (k : Nat) (s : State), k ∈ feederNumbers ∧ (s.profile.feeder k).enabled = false)
      ∧ (∃ (k a : Nat) (s : State), k ∈ feederNumbers ∧ (s.profile.feeder k).enabled = true
        ∧ s.profile.feederHead k = some a ∧ (s.head a).state = .silent)
      ∧ ∀ w : Half, ∃ (k a : Nat) (s : State), k ∈ feederNumbers ∧ (s.profile.feeder k).enabled = true
        ∧ s.profile.feederHead k = some a ∧ (s.head a).state = .present ∧ (s.head a).lastStatus = some w
        ∧ (s.feeder k).missRun = 3 :=
  ⟨⟨⟨(List.range 31).map fun i => entry i 2 .released, 63⟩, rfl, rfl⟩,
    ⟨{ piece 1 .collating with inserts := [⟨255, true⟩, ⟨1, false⟩] }, by decide, by decide⟩,
    ⟨8, opened.onActive fun f => { f with feeders := setNth f.feeders 7 ⟨0, 0, 0, false⟩ }, by decide, rfl⟩,
    ⟨8, 8, withHead 8 ⟨.silent, 0, none, none, none⟩ (carrying 8 11 opened), by decide, rfl, by decide +kernel, rfl⟩,
    fun w => ⟨1, 1, withHead 1 ⟨.present, 0, some w, some 0x1100, none⟩ ((carrying 1 11 opened).onFeeders fun v =>
      setNth v 0 ⟨.empty, 3, 0, 0⟩), by decide, rfl,
      (by decide +kernel : (carrying 1 11 opened).profile.feederHead 1 = some 1), rfl, rfl, rfl⟩⟩

theorem witness_ReleaseDivertsOrphansAndFaultedPieces :
    (∃ (flush : Bool) (c : Collation) (s : State), Due .release .track (toBytes 1 (yesNo flush)) s
        ∧ s.checker.ready = some c ∧ c.owner = .orphan ∧ s.run.runState = .draining ∧ s.checker.forming = none
        ∧ s.track.entries = [])
      ∧ (∃ (flush : Bool) (c : Collation) (r : Piece) (s : State), Due .release .track (toBytes 1 (yesNo flush)) s
        ∧ s.checker.ready = some c ∧ c.owner = .piece r.id ∧ s.piece? r.id = some r
        ∧ r.state = .collating ∧ PiecesDistinct s ∧ r.cancelPending = true)
      ∧ (∃ (flush : Bool) (c : Collation) (r : Piece) (s : State), Due .release .track (toBytes 1 (yesNo flush)) s
        ∧ s.checker.ready = some c ∧ c.owner = .piece r.id ∧ s.piece? r.id = some r
        ∧ r.state = .collating ∧ PiecesDistinct s ∧ c.ended = true ∧ c.faults = []
        ∧ (∀ i, 1 ≤ i → i ≤ r.sheets → i ∈ c.accepted) ∧ r.cancelPending = false ∧ s.unavailable r ≠ []
        ∧ s.profile.limits.feederPolicy = .divert)
      ∧ (∃ (c : Collation) (s : State), Due .release .track (toBytes 1 (yesNo true)) s
        ∧ s.checker.ready = none ∧ s.checker.forming = some c ∧ c.ended = false ∧ c.owner = .orphan)
      ∧ ∃ (c : Collation) (r : Piece) (s : State), Due .release .track (toBytes 1 (yesNo true)) s
        ∧ s.checker.ready = none ∧ s.checker.forming = some c ∧ c.ended = false ∧ c.owner = .piece r.id
        ∧ s.piece? r.id = some r ∧ r.state = .collating ∧ PiecesDistinct s :=
  ⟨⟨false, orphan, _, due_asking (s := inRun .draining (collating none (some orphan) [])), rfl, rfl, rfl, rfl, rfl⟩,
    ⟨true, clean 1, { piece 1 .collating with cancelPending := true }, _, due_asking
      (s := collating none (some (clean 1)) [{ piece 1 .collating with cancelPending := true }]), rfl, rfl,
      rfl, rfl, by unfold PiecesDistinct; decide, rfl⟩,
    ⟨false, clean 1, { piece 1 .collating with inserts := [⟨11, true⟩] }, _, due_asking
      (s := (collating none (some (clean 1)) [{ piece 1 .collating with inserts := [⟨11, true⟩] }]).onActive fun f =>
        { f with limits := { f.limits with feederPolicy := .divert } }), rfl, rfl, rfl, rfl,
      by unfold PiecesDistinct; decide, rfl, rfl, accepted_both, rfl, by decide +kernel, rfl⟩,
    ⟨orphan, _, due_asking (s := collating (some orphan) none []), rfl, rfl, rfl, rfl⟩,
    begun 1, piece 1 .collating, _, due_asking (s := collating (some (begun 1)) none [piece 1 .collating]), rfl, rfl,
    rfl, rfl, rfl, rfl, by unfold PiecesDistinct; decide⟩

theorem witness_ReleaseHoldsOrFindsNothingReady :
    (∃ (c : Collation) (r : Piece) (s : State), Due .release .track (toBytes 1 (yesNo false)) s
        ∧ s.checker.ready = some c ∧ c.owner = .piece r.id ∧ s.piece? r.id = some r ∧ c.ended = true ∧ c.faults = []
        ∧ (∀ i, 1 ≤ i → i ≤ r.sheets → i ∈ c.accepted) ∧ r.cancelPending = false ∧ s.unavailable r ≠ []
        ∧ s.profile.limits.feederPolicy = .hold)
      ∧ (∃ (c : Collation) (r : Piece) (s : State), Due .release .track (toBytes 1 (yesNo true)) s
        ∧ s.checker.ready = some c ∧ c.owner = .piece r.id ∧ s.piece? r.id = some r ∧ c.ended = true ∧ c.faults = []
        ∧ (∀ i, 1 ≤ i → i ≤ r.sheets → i ∈ c.accepted) ∧ r.cancelPending = false ∧ s.unavailable r = []
        ∧ s.track.entries.length = 32)
      ∧ (∃ s, Due .release .track (toBytes 1 (yesNo false)) s ∧ s.checker.ready = none)
      ∧ ∃ s, Due .release .track (toBytes 1 (yesNo true)) s ∧ s.checker.ready = none
        ∧ ∀ c, s.checker.forming = some c → c.ended = true :=
  ⟨⟨clean 1, { piece 1 .collating with inserts := [⟨11, true⟩] }, _, due_asking
      (s := collating none (some (clean 1)) [{ piece 1 .collating with inserts := [⟨11, true⟩] }]), rfl, rfl, rfl, rfl,
      rfl, accepted_both, rfl, by decide +kernel, rfl⟩,
    ⟨clean 1, piece 1 .collating, _, due_asking (s := (collating none (some (clean 1)) [piece 1 .collating]).onTrack
      fun q => { q with entries := (List.range 32).map fun i => entry i 2 .released }), rfl, rfl, rfl, rfl, rfl,
      accepted_both, rfl, rfl, rfl⟩,
    ⟨_, due_asking (s := opened), rfl⟩, _, due_asking (s := opened), rfl, (fun _ h => nomatch h)⟩

theorem witness_FoldedMovesTheEntry :
    ∃ (n : Nat) (pre post : List TrackEntry) (e : TrackEntry) (r : Piece) (s : State), n = 4 ∧ e.tag = 63
      ∧ Due .folded .track (toBytes 1 e.tag ++ toBytes 1 n) s ∧ s.track.entries = pre ++ e :: post
      ∧ (∀ x ∈ pre, x.stage ≠ .released) ∧ e.stage = .released ∧ s.piece? e.piece = some r :=
  ⟨4, [entry 0 1 .folded], [], entry 63 2 .released, piece 2 .onTrack, _, rfl, rfl, due_asking (s :=
    onLine [entry 0 1 .folded, entry 63 2 .released] [piece 1 .onTrack, piece 2 .onTrack]), rfl, by decide, rfl, rfl⟩

/-- The hypothesis that a tag is no entry's is met by an empty queue. -/
theorem witness_StationReportsOutOfOrderAreRefused :
    (∃ s, Due .folded .track (toBytes 1 63 ++ toBytes 1 4) s ∧ s.track.entries = [])
      ∧ (∃ s, Due .enveloped .track (toBytes 1 63) s ∧ s.track.entries = [])
      ∧ (∃ s, Due .weighed .track (toBytes 1 63 ++ toBytes 1 2 ++ toBytes 3 0) s
        ∧ s.profile.limits.scaleInLine = true ∧ s.track.entries = [])
      ∧ (∃ s, Due .atGate .track (toBytes 1 63) s ∧ s.track.entries = [])
      ∧ (∀ pl ∈ [[0, 0], [1] ++ toBytes 1 1, [1] ++ toBytes 1 6], ∃ s, Due .exited .track (toBytes 1 63 ++ pl) s
        ∧ ∀ e es, s.track.entries = e :: es → e.tag ≠ 63 ∨ e.stage ≠ .gated)
      ∧ (∃ (b : Nat) (e : TrackEntry) (es : List TrackEntry) (d : GateDecision) (s : State), b ∈ binNumbers
        ∧ Due .exited .track (toBytes 1 e.tag ++ [1] ++ toBytes 1 b) s ∧ s.track.entries = e :: es ∧ e.stage = .gated
        ∧ e.decision = some d ∧ d ≠ .bin b)
      ∧ (∃ s, Due .pullResult .track (toBytes 1 63 ++ toBytes 1 8 ++ toBytes 1 4) s
        ∧ ∀ e ∈ s.entry? 63, e.stage ≠ .folded)
      ∧ (∃ s e r, Due .pullResult .track (toBytes 1 63 ++ toBytes 1 1 ++ toBytes 1 1) s ∧ s.entry? 63 = some e
        ∧ e.stage = .folded ∧ s.piece? e.piece = some r ∧ ∀ x ∈ r.pulls, x.feeder = 1 → x.result ≠ .pending)
      ∧ (∃ s, Due .folded .track [63, 5] s) ∧ (∃ s, Due .pullResult .track [63, 9, 1] s)
      ∧ (∃ s, Due .enveloped .track [64] s) ∧ (∃ s, Due .atGate .track [64] s)
      ∧ (∃ s, Due .weighed .track [63, 3, 0, 0, 0] s) ∧ ∃ s, Due .exited .track [63, 1, 7] s :=
  ⟨⟨_, due_asking (s := opened), rfl⟩, ⟨_, due_asking (s := opened), rfl⟩, ⟨_, due_asking (s := opened), rfl, rfl⟩,
    ⟨_, due_asking (s := opened), rfl⟩,
    fun pl h => ⟨asking .exited .track (toBytes 1 63 ++ pl) opened, by revert pl; decide +kernel, fun _ _ h => nomatch h⟩,
    ⟨6, { entry 63 1 .gated with decision := some (.bin 5) }, [], .bin 5, _, by decide, due_asking
      (s := onLine [{ entry 63 1 .gated with decision := some (.bin 5) }] [piece 1 .onTrack]), rfl, rfl, rfl, by decide⟩,
    ⟨_, due_asking (s := onLine [entry 63 1 .enveloped] []), by decide +kernel⟩,
    ⟨_, entry 63 1 .folded, { piece 1 .onTrack with pulls := [⟨1, 11, .taken, .release⟩] }, due_asking
      (s := onLine [entry 63 1 .folded] [{ piece 1 .onTrack with pulls := [⟨1, 11, .taken, .release⟩] }]), rfl, rfl, rfl,
      by decide⟩,
    ⟨_, due_asking (s := opened)⟩, ⟨_, due_asking (s := opened)⟩, ⟨_, due_asking (s := opened)⟩,
    ⟨_, due_asking (s := opened)⟩, ⟨_, due_asking (s := opened)⟩, _, due_asking (s := opened)⟩

/-- A pull list with one PENDING entry at feeder 8. -/
def pulling : Piece := { piece 1 .onTrack with inserts := [⟨11, true⟩], pulls := [⟨8, 11, .pending, .release⟩] }

theorem witness_PullResultTakenCountsTheInsert :
    ∀ n ≤ 3, ∃ (double : Bool) (k : Nat) (e : TrackEntry) (x : PullEntry) (r : Piece) (s : State), k = 8 ∧ e.tag ≤ 63
      ∧ Due .pullResult .track (toBytes 1 e.tag ++ toBytes 1 k ++ toBytes 1 (if double then 2 else 1)) s
      ∧ s.entry? e.tag = some e ∧ e.stage = .folded ∧ s.piece? e.piece = some r ∧ r.state = .onTrack ∧ x ∈ r.pulls
      ∧ x.feeder = k ∧ x.result = .pending ∧ (s.feeder k).missRun = n :=
  fun n _ => ⟨true, 8, entry 63 1 .folded, ⟨8, 11, .pending, .release⟩, pulling, _, rfl, by decide, due_asking
    (s := (carrying 8 11 (onLine [entry 63 1 .folded] [pulling])).onFeeders fun v => setNth v 7 ⟨.ready, n, 0, 0⟩), rfl,
    rfl, rfl, rfl, by decide, rfl, rfl, rfl⟩

/-- MISS and PASSED with feeder 8 carrying code `c`: a substitute when `c` is 11, none otherwise; of a required code and
of an optional one. -/
theorem witness_PullResultMissedSearchesASubstitute :
    ∀ miss ∈ [true, false], ∀ required ∈ [true, false], ∀ c ∈ [11, 12],
      let x : PullEntry := ⟨7, 11, .pending, .release⟩
      let r : Piece := { piece 1 .onTrack with inserts := [⟨11, required⟩], pulls := [x] }
      let pl := toBytes 1 63 ++ toBytes 1 7 ++ toBytes 1 (if miss then 3 else 4)
      let s := asking .pullResult .track pl (carrying 8 c (carrying 7 11 (onLine [entry 63 1 .folded] [r])))
      Due .pullResult .track pl s ∧ s.entry? 63 = some (entry 63 1 .folded) ∧ s.piece? ⟨1, 0⟩ = some r
        ∧ r.state = .onTrack ∧ PiecesDistinct s ∧ r.pulls.filter (fun p => p.feeder == 7) = [x]
        ∧ x.result = .pending ∧ x.code = 11 ∧ (s.feeder 8).state = .ready ∧ (s.profile.feeder 8).code = c
        ∧ ∀ p ∈ r.pulls, p.feeder ≠ 8 := by
  unfold PiecesDistinct; decide +kernel

theorem witness_EnvelopedClosesOutAndRecomputes :
    ∃ (pre post : List TrackEntry) (e : TrackEntry) (r : Piece) (s : State), e.tag ≤ 63
      ∧ Due .enveloped .track (toBytes 1 e.tag) s ∧ s.track.entries = pre ++ e :: post
      ∧ (∀ x ∈ pre, Stage.enveloped.rank ≤ x.stage.rank) ∧ e.stage = .folded ∧ s.piece? e.piece = some r
      ∧ r.state = .onTrack ∧ PiecesDistinct s :=
  ⟨[entry 0 2 .enveloped], [], entry 63 1 .folded, pulling, _, by decide, due_asking
    (s := onLine [entry 0 2 .enveloped, entry 63 1 .folded] [pulling, piece 2 .onTrack]), rfl, by decide, rfl, rfl, rfl,
    by unfold PiecesDistinct; decide⟩

/-- The five cases differ in the report and in the limits alone; the state here takes MASS at the tolerance, and the
second clause wants the scale out of line. -/
theorem witness_WeighedIsJudgedWithTheScaleInLine :
    (∀ kind m, kind ≤ 2 → m ≤ 16777215 → ∃ (pre post : List TrackEntry) (e : TrackEntry) (r : Piece) (s : State),
        e.tag ≤ 63 ∧ Due .weighed .track (toBytes 1 e.tag ++ toBytes 1 kind ++ toBytes 3 m) s
        ∧ s.profile.limits.scaleInLine = true ∧ s.track.entries = pre ++ e :: post
        ∧ (∀ y ∈ pre, Stage.weighed.rank ≤ y.stage.rank) ∧ e.stage = .enveloped ∧ s.piece? e.piece = some r
        ∧ r.state = .onTrack ∧ PiecesDistinct s ∧ r.expected = some (14480, 780))
      ∧ ∃ s, s.profile.limits.scaleInLine = false
        ∧ Due .weighed .track (toBytes 1 63 ++ toBytes 1 2 ++ toBytes 3 16777215) s :=
  ⟨fun kind m _ _ => ⟨[], [], entry 63 1 .enveloped, piece 1 .onTrack, asking .weighed .track
      (toBytes 1 63 ++ toBytes 1 kind ++ toBytes 3 m) (onLine [entry 63 1 .enveloped] [piece 1 .onTrack]), by decide,
      due_asking (show 5 ≤ 250 by decide), rfl, rfl, by decide, rfl, rfl, rfl, (show [(⟨1, 0⟩ : PieceId)].Nodup by decide), rfl⟩,
    asking .weighed .track (toBytes 1 63 ++ toBytes 1 2 ++ toBytes 3 16777215) (opened.onActive fun f =>
      { f with limits := { f.limits with scaleInLine := false } }), rfl, due_asking⟩

/-- AT_GATE for tag 5, of piece 1, behind a gated entry: `post` follows it, `ps` are the other records, slot 1 rules the
key with bin 6 as `x`, and `w` is the stall. -/
def gate (e : TrackEntry) (r : Piece) (x : Bin) (w : Option Stall) (post : List TrackEntry) (ps : List Piece) : State :=
  asking .atGate .track (toBytes 1 5) ((withBin 6 x (ruled (onLine (entry 4 9 .gated :: e :: post) (r :: ps)))).onBins
    fun m => { m with stall := w })

/-- In order: an arrival that waits, and a report repeated for it; a faulted piece, arriving and reported again; an OPEN
tray that the piece fits, filled by it and not; a re-evaluation that stalls again, and one whose level answer records an
area entry or finds the census full; the first piece of a group, decided FINE and AREA, and one that waits behind; the
entries that wait behind. -/
theorem witness_AtGateDecidesTheOldestEntry :
    (∀ st ∈ [Stage.weighed, .atGate],
      let s := asking .atGate .track (toBytes 1 5) (onLine [entry 4 9 .atGate, entry 5 1 st] [piece 1 .onTrack])
      Due .atGate .track (toBytes 1 5) s ∧ TrackBounded s ∧ s.profile.limits.scaleInLine = true
        ∧ s.track.entries = [entry 4 9 .atGate] ++ entry 5 1 st :: [] ∧ s.piece? ⟨1, 0⟩ = some (piece 1 .onTrack))
      ∧ (∀ e ∈ [entry 5 1 .weighed, stuck 5 1],
        let s := gate e (faulty 1) ⟨.offline, none⟩ (some ⟨5, .mixed⟩) [entry 6 2 .weighed] []
        Due .atGate .track (toBytes 1 5) s ∧ TrackBounded s ∧ s.profile.limits.scaleInLine = true
          ∧ s.track.entries = [entry 4 9 .gated] ++ e :: [entry 6 2 .weighed] ∧ s.piece? ⟨1, 0⟩ = some (faulty 1)
          ∧ s.bins.stall = some ⟨5, .mixed⟩)
      ∧ (∀ n ∈ [297, 298], ∀ e ∈ [entry 5 1 .weighed, stuck 5 1],
        let y := tray 6 n .opened
        let s := gate e (piece 1 .onTrack) ⟨.opened, some y⟩ (some ⟨5, .mixed⟩) [] []
        Due .atGate .track (toBytes 1 5) s ∧ TrackBounded s ∧ s.track.entries = [entry 4 9 .gated] ++ e :: []
          ∧ s.piece? ⟨1, 0⟩ = some (piece 1 .onTrack) ∧ s.levelAnswer (piece 1 .onTrack) = (s, .rule 1)
          ∧ (s.bin 6).tray = some y ∧ y.group = .rule 1 ∧ y.state = .opened
          ∧ (∀ j ∈ binNumbers, ∀ z ∈ (s.bin j).tray, z.group = .rule 1 → z.state = .opened → j = 6)
          ∧ y.count + y.reserved + 1 = n + 2 ∧ s.profile.sort.trayPieceLimit = 300
          ∧ y.mass + y.reservedMass + (piece 1 .onTrack).finalMass ≤ s.profile.sort.trayMassLimit)
      ∧ (let s := gate (stuck 5 1) (piece 1 .onTrack) ⟨.opened, some (tray 6 300 .opened)⟩ (some ⟨5, .mixed⟩)
          [entry 6 2 .atGate] []
        Due .atGate .track (toBytes 1 5) s ∧ TrackBounded s ∧ (s.levelAnswer (piece 1 .onTrack)).2 = .rule 1
          ∧ s.track.entries = [entry 4 9 .gated] ++ stuck 5 1 :: [entry 6 2 .atGate]
          ∧ s.piece? ⟨1, 0⟩ = some (piece 1 .onTrack) ∧ (s.bin 6).tray = some (tray 6 300 .opened)
          ∧ (∀ j ∈ binNumbers, ∀ z ∈ (s.bin j).tray, z.group = .rule 1 → z.state = .opened → 0 < z.reserved
            ∧ s.profile.sort.trayPieceLimit < z.count + z.reserved + 1)
          ∧ ∀ j ∈ binNumbers, (s.bin j).state ≠ .free)
      ∧ (∀ c ∈ [[⟨[1, 2, 3, 4, 5], .fine 7 .undecided⟩],
          List.replicate 511 ⟨[0], .area .mixed⟩ ++ [⟨[1, 2, 3, 4, 5], .fine 1 .coarse⟩]],
        let r := { piece 1 .onTrack with census := .counted }
        let s := (gate (stuck 5 1) r ⟨.offline, none⟩ (some ⟨5, .mixed⟩) [entry 6 2 .atGate] []).onCensus fun _ => c
        Due .atGate .track (toBytes 1 5) s ∧ TrackBounded s ∧ (s.levelAnswer r).2 = .mixed
          ∧ ((s.levelAnswer r).1.census ≠ s.census ∨ (s.levelAnswer r).1.flags ≠ s.flags)
          ∧ s.track.entries = [entry 4 9 .gated] ++ stuck 5 1 :: [entry 6 2 .atGate] ∧ s.piece? ⟨1, 0⟩ = some r
          ∧ ∀ j ∈ binNumbers, (s.bin j).tray = none ∧ (s.bin j).state ≠ .free)
      ∧ (∀ c ∈ [(150, TrayGroup.fine [1, 2, 3, 4, 5]), (100, .area [1, 2, 3])], ∀ x ∈ [entry 5 1 .weighed, stuck 5 1],
        let r := { piece 1 .onTrack with census := .counted }
        let s := withBin 2 ⟨.opened, some (groupTray 2 c.2 1)⟩ ((gate x r ⟨.offline, none⟩ (some ⟨5, .mixed⟩) [] []).onCensus
          fun _ => [⟨[1, 2, 3, 4, 5], .fine c.1 .undecided⟩])
        Due .atGate .track (toBytes 1 5) s ∧ TrackBounded s ∧ s.track.entries = [entry 4 9 .gated] ++ x :: []
          ∧ s.piece? ⟨1, 0⟩ = some r ∧ (s.levelAnswer r).2 = c.2 ∧ (s.levelAnswer r).1.census ≠ s.census
          ∧ (s.bin 2).tray = some (groupTray 2 c.2 1) ∧ ∀ j ∈ binNumbers, ∀ z ∈ (s.bin j).tray, j = 2)
      ∧ (∀ b ∈ ([⟨.fullWait, none⟩, ⟨.opened, some (groupTray 2 .mixed 1)⟩] : List Bin),
        let y := { piece 4 .onTrack with census := .counted }
        let s := withBin 2 b ((gate (stuck 5 1) (faulty 1) ⟨.offline, none⟩ (some ⟨5, .mixed⟩) [entry 8 4 .atGate] [y]).onCensus
          fun _ => [⟨[1, 2, 3, 4, 5], .fine 7 .undecided⟩])
        Due .atGate .track (toBytes 1 5) s ∧ TrackBounded s ∧ s.piece? ⟨4, 0⟩ = some y
          ∧ s.track.entries = [entry 4 9 .gated] ++ stuck 5 1 :: ([] ++ [entry 8 4 .atGate])
          ∧ (s.levelAnswer y).2 = .mixed ∧ (s.levelAnswer y).1.census ≠ s.census ∧ s.bin 2 = b
          ∧ ∀ j ∈ binNumbers, (s.bin j).state ≠ .free ∧ ∀ z ∈ (s.bin j).tray, j = 2)
      ∧ ∀ rest ∈ [[entry 8 4 .weighed], [entry 8 4 .atGate]],
        ∀ x ∈ ([⟨.fullWait, none⟩, ⟨.opened, some (tray 6 1 .opened)⟩] : List Bin),
        let s := gate (stuck 5 1) (faulty 1) x (some ⟨5, .mixed⟩) (entry 7 3 .atGate :: rest) [faulty 3, piece 4 .onTrack]
        Due .atGate .track (toBytes 1 5) s ∧ TrackBounded s
          ∧ s.track.entries = [entry 4 9 .gated] ++ stuck 5 1 :: ([entry 7 3 .atGate] ++ rest)
          ∧ s.bins.stall = some ⟨5, .mixed⟩ ∧ s.piece? ⟨1, 0⟩ = some (faulty 1) ∧ s.piece? ⟨3, 0⟩ = some (faulty 3)
          ∧ s.piece? ⟨4, 0⟩ = some (piece 4 .onTrack) ∧ (piece 4 .onTrack).census = .ruled 1 ∧ s.bin 6 = x
          ∧ (∀ j ∈ binNumbers, ∀ z ∈ (s.bin j).tray, j = 6 ∧ z.group = .rule 1 ∧ z.count + z.reserved + 1 < 300
            ∧ z.mass + z.reservedMass + (piece 4 .onTrack).finalMass ≤ s.profile.sort.trayMassLimit)
          ∧ s.profile.sort.trayPieceLimit = 300 ∧ ∀ j ∈ binNumbers, (s.bin j).state ≠ .free := by
  unfold TrackBounded; refine ⟨?_, ?_, ?_, ?_, ?_, ?_, ?_, ?_⟩ <;> decide +kernel

/-- The group without an OPEN tray, its dedicated bin FREE and not, for an arrival and for a report repeated; the group
whose OPEN tray is full, with another bin FREE and with none; the first piece of a group, whose level answer decides
it; and a tray of the group in the closed-tray list. -/
theorem witness_AtGateOpensATrayOrStalls :
    (∀ e ∈ [entry 5 1 .weighed, stuck 5 1], ∀ st ∈ [BinState.free, .fullWait], ∀ n ∈ [1, 300],
      let s := trayLimit n (gate e (piece 1 .onTrack) ⟨st, none⟩ (some ⟨5, .mixed⟩) [entry 6 2 .weighed] [])
      Due .atGate .track (toBytes 1 5) s ∧ TrackBounded s
        ∧ s.track.entries = [entry 4 9 .gated] ++ e :: [entry 6 2 .weighed] ∧ s.profile.limits.scaleInLine = true
        ∧ s.bins.stall = some ⟨5, .mixed⟩ ∧ s.piece? ⟨1, 0⟩ = some (piece 1 .onTrack)
        ∧ s.levelAnswer (piece 1 .onTrack) = (s, .rule 1) ∧ (∀ j ∈ binNumbers, (s.bin j).tray = none)
        ∧ s.profile.dedicatedSlot 6 = some 1 ∧ (s.bin 6).state = st
        ∧ ∀ j ∈ binNumbers, j < 6 → s.profile.dedicatedSlot j ≠ some 1)
      ∧ (∀ st ∈ [BinState.free, .offline],
        let r := { piece 1 .onTrack with census := .reprint }
        let y := { groupTray 1 .mixed 1 with count := 299, continuation := 4 }
        let s := withBin 1 ⟨.opened, some y⟩ (withBin 3 ⟨st, none⟩ (gate (entry 5 1 .weighed) r ⟨.free, none⟩ none [] []))
        Due .atGate .track (toBytes 1 5) s ∧ TrackBounded s ∧ s.track.entries = [entry 4 9 .gated] ++ entry 5 1 .weighed :: []
          ∧ s.piece? ⟨1, 0⟩ = some r ∧ s.levelAnswer r = (s, .mixed) ∧ (s.bin 1).tray = some y
          ∧ y.state = .opened ∧ (∀ j ∈ binNumbers, ∀ z ∈ (s.bin j).tray, j = 1) ∧ 0 < y.reserved
          ∧ s.profile.sort.trayPieceLimit < y.count + y.reserved + 1 ∧ s.profile.dedicatedSlot 3 = none
          ∧ (∀ j ∈ binNumbers, j ≠ 1 → j ≠ 3 → s.profile.dedicatedSlot j = none → (s.bin j).state ≠ .free)
          ∧ (s.bin 3).state = st ∧ y.run = s.run.runNumber ∧ y.continuation < 65535)
      ∧ (∀ st ∈ [BinState.free, .offline], ∀ n ∈ [149, 150],
        let r := { piece 1 .onTrack with census := .counted }
        let s := withBin 2 ⟨st, none⟩ ((gate (entry 5 1 .weighed) r ⟨.offline, none⟩ none [] []).onCensus fun _ =>
          [⟨[1, 2, 3, 4, 5], .fine n .undecided⟩])
        Due .atGate .track (toBytes 1 5) s ∧ TrackBounded s ∧ s.track.entries = [entry 4 9 .gated] ++ entry 5 1 .weighed :: []
          ∧ s.piece? ⟨1, 0⟩ = some r ∧ (s.levelAnswer r).1.census ≠ s.census
          ∧ (s.levelAnswer r).2 = (if n = 150 then .fine [1, 2, 3, 4, 5] else .area [1, 2, 3])
          ∧ (∀ j ∈ binNumbers, (s.bin j).tray = none ∧ (j ≠ 2 → (s.bin j).state ≠ .free)) ∧ (s.bin 2).state = st
          ∧ s.profile.dedicatedSlot 2 = none)
      ∧ let s := lists 1 [] opened
        ∀ z ∈ s.bins.closedTrays, z.run = s.run.runNumber ∧ z.group = .rule 1 ∧ z.continuation = 1 := by
  unfold TrackBounded; refine ⟨?_, ?_, ?_, ?_⟩ <;> decide +kernel

/-- EXITED of the head of the queue with decision `d` and a place in bin 6 as `x`, in run state `st` and with `post`
behind it. -/
def exiting (pl : List Byte) (d : GateDecision) (x : Bin) (st : RunState) (post : List TrackEntry) : State :=
  asking .exited .track pl (inRun st ((withBin 6 x (onLine ({ entry 63 1 .gated with decision := some d } :: post)
    [piece 1 .onTrack])).onBins fun m => { m with reservations := [⟨63, 3, 14480⟩] }))

/-- The census `c`, which counts every record. -/
def counts (c : List CensusEntry) (s : State) : State :=
  (s.onCensus fun _ => c).onRun fun t => { t with pieces := t.pieces.map fun r => { r with census := .counted } }

/-- The piece of `exiting`, counted with another in its fine group. -/
def twoCounted (s : State) : State := counts [⟨[1, 2, 3, 4, 5], .fine 2 .fine⟩] s

theorem falls_quietly {s : State} (h : s.census = [⟨[1, 2, 3, 4, 5], .fine 2 .fine⟩])
    (l : s.profile.sort = State.reset.profile.sort) : s.FallsQuietly { piece 1 .onTrack with census := .counted } := by
  intro _
  rw [h, l]
  exact ⟨⟨2, .fine, by decide +kernel, by decide⟩, fun x => absurd x.1 (by decide +kernel)⟩

theorem falls_quietly_uncounted {s : State} : s.FallsQuietly (piece 1 .onTrack) := fun h => nomatch h

/-- A place given up in an OPEN tray; the last place of a CLOSING one, with room in the closed-tray list and with none;
the census counting the piece, whose fine group the tray is, and not. -/
theorem witness_ExitedFinishesTheQueueHead :
    (∀ st ∈ [RunState.opened, .draining], ∀ post ∈ [[], [entry 0 2 .folded]],
      ∀ x ∈ ([(.divert, [63, 0, 0]), (.bin 6, [63, 0, 0]), (.bin 6, [63, 1, 6])] : List (GateDecision × List Byte)),
      let s := exiting x.2 x.1 ⟨.fullWait, some (tray 6 1 .closing)⟩ st post
      Due .exited .track x.2 s ∧ s.track.entries = { entry 63 1 .gated with decision := some x.1 } :: post
        ∧ TrackBounded s ∧ s.piece? ⟨1, 0⟩ = some (piece 1 .onTrack) ∧ PiecesDistinct s
        ∧ s.reservation? 63 = some ⟨63, 3, 14480⟩ ∧ s.checker.forming = none ∧ s.checker.ready = none)
      ∧ (∀ x ∈ [(TrayState.opened, 0), (.closing, 63), (.closing, 64)], ∀ counted ∈ [true, false],
        let y := { tray 6 1 x.1 with group := if counted then .fine [1, 2, 3, 4, 5] else .mixed }
        let r := if counted then { piece 1 .onTrack with census := .counted } else piece 1 .onTrack
        let s := lists x.2 [] (if counted then twoCounted (exiting [63, 0, 0] (.bin 6) ⟨.fullWait, some y⟩ .opened []) else
          exiting [63, 0, 0] (.bin 6) ⟨.fullWait, some y⟩ .opened [])
        Due .exited .track [63, 0, 0] s ∧ TrackBounded s ∧ PiecesDistinct s ∧ s.piece? ⟨1, 0⟩ = some r
          ∧ s.track.entries = [{ entry 63 1 .gated with decision := some (.bin 6) }] ∧ s.run.runState ≠ .draining
          ∧ s.reservation? 63 = some ⟨63, 3, 14480⟩ ∧ (s.bin 6).tray = some y ∧ y.id = 3 ∧ y.state = x.1 ∧ y.reserved = 1
          ∧ s.bins.closedTrays.length = x.2 ∧ s.bins.delivery = [] ∧ s.bins.stall = none
          ∧ (counted = true → s.census = [⟨[1, 2, 3, 4, 5], .fine 2 .fine⟩] ∧ s.profile.sort = State.reset.profile.sort))
      ∧ (∀ s : State, s.FallsQuietly (piece 1 .onTrack) ∧ s.OwnGroup (piece 1 .onTrack) .mixed)
      ∧ let s := twoCounted opened
        let r := { piece 1 .onTrack with census := .counted }
        s.FallsQuietly r ∧ s.OwnGroup r (.fine [1, 2, 3, 4, 5]) := by
  refine ⟨?_, ?_, fun _ => ⟨falls_quietly_uncounted, trivial⟩, falls_quietly rfl rfl, rfl, rfl⟩ <;>
    (unfold TrackBounded PiecesDistinct; decide +kernel)

/-- A place in an OPEN tray; the last place of a CLOSING one, with room in the closed-tray list and with none; the census
counting the piece and not (`falls_quietly`, `falls_quietly_uncounted`); and the last counted piece of a FINE group. -/
theorem witness_ExitIntoABinCountsThePiece :
    (∀ x ∈ [(TrayState.opened, 0), (.closing, 63), (.closing, 64)], ∀ counted ∈ [true, false],
      let y := { tray 6 1 x.1 with group := if counted then .fine [1, 2, 3, 4, 5] else .rule 1 }
      let r := if counted then { piece 1 .onTrack with census := .counted } else piece 1 .onTrack
      let s := lists x.2 [] (if counted then twoCounted (exiting [63, 1, 6] (.bin 6) ⟨.fullWait, some y⟩ .opened []) else
        exiting [63, 1, 6] (.bin 6) ⟨.fullWait, some y⟩ .opened [])
      Due .exited .track (toBytes 1 63 ++ [1] ++ toBytes 1 6) s
        ∧ s.track.entries = [{ entry 63 1 .gated with decision := some (.bin 6) }] ∧ TrackBounded s
        ∧ s.piece? ⟨1, 0⟩ = some r ∧ r.band = some 1 ∧ s.run.runState ≠ .draining
        ∧ s.reservation? 63 = some ⟨63, 3, 14480⟩
        ∧ (s.bin 6).tray = some y ∧ y.id = 3 ∧ y.state = x.1 ∧ y.reserved = 1
        ∧ s.bins.closedTrays.length = x.2 ∧ s.bins.delivery = [] ∧ s.bins.stall = none
        ∧ (counted = true → s.census = [⟨[1, 2, 3, 4, 5], .fine 2 .fine⟩] ∧ s.profile.sort = State.reset.profile.sort))
      ∧ let y := { tray 6 1 .opened with group := .fine [1, 2, 3, 4, 5] }
        let c : List CensusEntry := [⟨[1, 2, 3], .area .area⟩, ⟨[1, 2, 3, 4, 5], .fine 1 .fine⟩]
        let s := counts c (exiting [63, 1, 6] (.bin 6) ⟨.opened, some y⟩ .opened [])
        Due .exited .track (toBytes 1 63 ++ [1] ++ toBytes 1 6) s ∧ TrackBounded s
          ∧ s.track.entries = [{ entry 63 1 .gated with decision := some (.bin 6) }]
          ∧ s.piece? ⟨1, 0⟩ = some { piece 1 .onTrack with census := .counted } ∧ s.run.runState ≠ .draining
          ∧ s.reservation? 63 = some ⟨63, 3, 14480⟩ ∧ (s.bin 6).tray = some y ∧ y.id = 3 ∧ y.reserved = 1
          ∧ findFine s.census [1, 2, 3, 4, 5] = some (1, .fine)
          ∧ (∀ z ∈ s.census, z.kind.isFine = true → z.digits = [1, 2, 3, 4, 5] → z.kind = .fine 1 .fine)
          ∧ (piece 1 .onTrack).key.take s.profile.sort.fineLength = [1, 2, 3, 4, 5]
          ∧ (∀ j ∈ binNumbers, ∀ z ∈ (s.bin j).tray, j = 6)
          ∧ s.bins.closedTrays = [] ∧ s.bins.delivery = [] ∧ s.bins.stall = none := by
  constructor <;> (unfold TrackBounded; decide +kernel)

theorem witness_PurgeEmptiesTheLine :
    (∃ s, Due .purge .track [] s ∧ s.run.lineState = .stopped ∧ PiecesDistinct s
        ∧ s.checker.ready = some orphan ∧ s.checker.forming = some (begun 2)
        ∧ s.track.entries.map TrackEntry.piece = [⟨1, 0⟩] ∧ ([⟨1, 0⟩, ⟨2, 0⟩] : List PieceId).Nodup
        ∧ ∀ id ∈ ([⟨1, 0⟩, ⟨2, 0⟩] : List PieceId), ∃ r ∈ s.run.pieces, r.id = id ∧ r.state ≠ .finished)
      ∧ (∃ s, Due .purge .track [] s ∧ s.run.lineState = .running)
      ∧ ∀ x ∈ [(TrayState.opened, TrayGroup.rule 1, 2), (.opened, .fine [1, 2, 3, 4, 5], 2), (.closing, .mixed, 3),
          (.closing, .mixed, 2)],
        let b : Bin := ⟨.fullWait, some { groupTray 6 x.2.1 x.2.2 with state := x.1 }⟩
        let es := [5, 63].map fun n => { entry n n .gated with decision := some (.bin 6) }
        let s := asking .purge .track [] (stopped (counts [⟨[1, 2, 3, 4, 5], .fine 3 .fine⟩] ((withBin 6 b (onLine es
          [piece 5 .onTrack, piece 63 .onTrack])).onBins fun m => { m with reservations := [⟨5, 3, 7⟩, ⟨63, 3, 8⟩] })))
        Due .purge .track [] s ∧ s.run.lineState = .stopped ∧ PiecesDistinct s ∧ TrackBounded s
          ∧ s.track.entries.map TrackEntry.piece = [⟨5, 0⟩, ⟨63, 0⟩] ∧ s.checker.ready = none ∧ s.checker.forming = none
          ∧ (∀ id ∈ ([⟨5, 0⟩, ⟨63, 0⟩] : List PieceId), ∃ r ∈ s.run.pieces, r.id = id ∧ r.state ≠ .finished)
          ∧ (∀ e ∈ s.track.entries, e.decision = some (.bin 6)) ∧ s.bin 6 = b ∧ s.bins.delivery = []
          ∧ (s.track.entries.filterMap fun e => s.reservation? e.tag) = [⟨5, 3, 7⟩, ⟨63, 3, 8⟩]
          ∧ (b.tray.map Tray.id) = some 3 ∧ s.run.runState ≠ .draining
          ∧ findFine s.census [1, 2, 3, 4, 5] = some (3, .fine) ∧ s.run.pieces.length < 3 :=
  ⟨⟨_, due_asking (s := stopped ((collating (some (begun 2)) (some orphan) [piece 1 .onTrack, piece 2 .collating]).onTrack
      fun q => { q with entries := [entry 63 1 .folded] })), rfl, by unfold PiecesDistinct; decide, rfl, rfl, rfl,
      by decide, by decide⟩,
    ⟨_, due_asking (s := opened), rfl⟩, by unfold TrackBounded PiecesDistinct; decide +kernel⟩

theorem witness_ResyncStartsIntakeAtThePiece :
    (∃ (s : State) (pre post : List Piece) (r : Piece), Due .resync .track (toBytes 3 16777215) s
        ∧ s.run.pieces = pre ++ r :: post ∧ r.id.seq = 16777215 ∧ (∀ x ∈ post, x.id.seq ≠ 16777215)
        ∧ r.state = .loaded ∧ PiecesDistinct s ∧ (∀ c, s.checker.forming = some c → c.owner = .orphan)
        ∧ (∀ c, s.checker.ready = some c → c.owner = .orphan) ∧ (pre.filter fun x => x.state == .loaded) ≠ []
        ∧ s.bins.stall = none ∧ ∀ t ∈ after (.resync .track) s, (t.port .plan).notices.length < 16)
      ∧ (∃ s c, Due .resync .track (toBytes 3 0) s ∧ s.checker.forming = some c ∧ c.owner ≠ .orphan)
      ∧ ∃ s, Due .resync .track (toBytes 3 0) s ∧ (∀ c, s.checker.forming = some c → c.owner = .orphan)
        ∧ (∀ c, s.checker.ready = some c → c.owner = .orphan)
        ∧ ∀ r ∈ s.run.pieces, r.id.seq = 0 → r.state ≠ .loaded :=
  ⟨⟨_, [piece 1 .loaded], [piece 2 .loaded], piece 16777215 .loaded, due_asking
      (s := collating (some orphan) none [piece 1 .loaded, piece 16777215 .loaded, piece 2 .loaded]), rfl, rfl,
      by decide, rfl, by unfold PiecesDistinct; decide, by rintro c ⟨⟩; rfl, (fun _ h => nomatch h), by decide, rfl,
      by decide +kernel⟩,
    ⟨_, begun 1, due_asking (s := collating (some (begun 1)) none [piece 1 .collating]), rfl, by decide⟩,
    _, due_asking (s := holding [piece 1 .loaded]), (fun _ h => nomatch h), (fun _ h => nomatch h), by decide⟩

theorem witness_CloseRunFinishesTheLoadedRecords :
    (∃ s, Due .closeRun .plan [] s ∧ s.run.runState = .opened ∧ PiecesDistinct s)
      ∧ ∃ s, Due .closeRun .plan [] s ∧ s.run.runState ≠ .opened :=
  ⟨⟨_, due_asking (s := holding [piece 1 .loaded, piece 2 .loaded]), rfl, by unfold PiecesDistinct; decide⟩,
    _, due_asking (s := inRun .draining opened), by decide⟩

/-- A piece record as sent, of two sheets of stock 0. -/
def sent (n : Nat) : PieceSpec := ⟨⟨n, 0⟩, 2, 0, [1, 2, 3, 4, 5, 6, 7, 8], 0, []⟩

theorem witness_RecordPassesExactlyItsChecks :
    (∃ (s : State) (m : MakeUp), s.judgeRecord [] 1 (sent 1) = .ok m)
      ∧ (let few (n : Nat) (s : State) := s.onActive fun f => { f with limits := { f.limits with accumulatorLimit := n } }
        ∀ x ∈ ([(opened, sent 1, .badArg), (few 1 (stocked opened), sent 1, .tooManySheets),
            (stocked (holding [piece 1 .loaded]), sent 1, .duplicate),
            (stocked opened, { sent 1 with insertCount := 1, inserts := [⟨11, true⟩] }, .unknownInsert),
            (stocked (opened.onActive fun f => { f with limits := { f.limits with foldLimit := 1 } }), sent 1, .noFit),
            (stocked (opened.onActive fun f => { f with envelope := { f.envelope with throat := 779 } }), sent 1, .overThick),
            (stocked (opened.onActive fun f => { f with limits := { f.limits with massCeiling := 9 } }), sent 1, .overMass)]
              : List (State × PieceSpec × LoadCause)), x.1.judgeRecord [] 1 x.2.1 = .error x.2.2)
      ∧ (stocked opened).judgeRecord [] 4097 (sent 1) = .error .full
      ∧ ∃ (s : State) (xs : List PieceSpec), xs.length = 2 ∧ s.judgeBatch [] 1 xs = .error (2, .duplicate) :=
  ⟨⟨stocked opened, ⟨3, 14480, 780⟩, by decide +kernel⟩, by decide +kernel, by decide +kernel, stocked opened,
    [sent 1, sent 1], rfl, by decide +kernel⟩

theorem witness_LoadPiecesAppendsTheBatch :
    (∃ (xs : List PieceSpec) (s : State) (ms : List (PieceSpec × MakeUp)), xs.length = 8
        ∧ (∀ x ∈ xs, x.sendable = true) ∧ Due .loadPieces .plan (batchBytes xs) s ∧ s.run.runState = .opened
        ∧ s.judgeBatch [] 1 xs = .ok ms ∧ s.bins.stall = none)
      ∧ (∃ (xs : List PieceSpec) (s : State) (i : Nat) (c : LoadCause), xs.length = 1
        ∧ (∀ x ∈ xs, x.sendable = true) ∧ Due .loadPieces .plan (batchBytes xs) s ∧ s.run.runState = .opened
        ∧ s.judgeBatch [] 1 xs = .error (i, c))
      ∧ (∃ (xs : List PieceSpec) (s : State), xs.length = 1 ∧ (∀ x ∈ xs, x.sendable = true)
        ∧ Due .loadPieces .plan (batchBytes xs) s ∧ s.run.runState ≠ .opened)
      ∧ ∀ pl ∈ ([[], [9], 1 :: List.replicate 19 0] : List (List Byte)), ∃ s, Due .loadPieces .plan pl s
        ∧ (byteAt pl 0 = 0 ∨ 8 < byteAt pl 0 ∨ pl.length ≠ 1 + 20 * byteAt pl 0) :=
  ⟨⟨[1, 2, 3, 4, 5, 6, 7, 8].map sent, asking .loadPieces .plan (batchBytes ([1, 2, 3, 4, 5, 6, 7, 8].map sent))
        (stocked (opened.onSheetMass fun v => setNth v 0 4990)), [1, 2, 3, 4, 5, 6, 7, 8].map fun n => (sent n, ⟨3, 14480, 780⟩),
      rfl, by decide +kernel, due_asking (by decide +kernel), rfl, by decide +kernel, rfl⟩,
    ⟨[sent 1], asking .loadPieces .plan (batchBytes [sent 1]) opened, 1, .badArg, rfl, by decide +kernel,
      due_asking (by decide +kernel), rfl, by decide +kernel⟩,
    ⟨[sent 1], asking .loadPieces .plan (batchBytes [sent 1]) State.reset, rfl, by decide +kernel,
      due_asking (by decide +kernel), by decide⟩,
    fun pl h => ⟨asking .loadPieces .plan pl State.reset, by revert pl; decide +kernel⟩⟩

/-- An amendment of piece 1 to another key. -/
def rekeyed : Amendment := ⟨1, none, some [1, 2, 3, 4, 5, 6, 7, 9]⟩

/-- The payloads that spell no settings in range. -/
theorem witness_settings_out_of_range :
    (∃ s, Due .setLimits .plan [] s ∧ ∀ l : Limits, l.inRange = true → ([] : List Byte) ≠ l.bytes)
      ∧ (∃ s, Due .setFeeder .plan [] s
        ∧ ∀ (k : Nat) (x : FeederSetting), 1 ≤ k → k ≤ 8 → x.inRange = true → ([] : List Byte) ≠ x.bytes k)
      ∧ (∃ s, Due .setKeyRule .plan [] s ∧ s.run.runState = .closed
        ∧ ∀ (k : Nat) (x : KeyRule), 1 ≤ k → k ≤ 8 → x.inRange = true → ([] : List Byte) ≠ x.bytes k)
      ∧ ∃ s, Due .setHeadMap .plan (List.replicate 17 0x10) s ∧ byteAt (List.replicate 17 0x10) 0 % 16 = 0 :=
  ⟨⟨_, due_asking (s := opened), fun l _ h => by simpa [Limits.bytes, toBytes] using congrArg List.length h⟩,
    ⟨_, due_asking (s := opened), fun k x _ _ _ h => by
      simpa [FeederSetting.bytes, toBytes] using congrArg List.length h⟩,
    ⟨_, due_asking (s := State.reset), rfl, fun k x _ _ _ h => by
      simpa [KeyRule.bytes, toBytes] using congrArg List.length h⟩,
    _, due_asking (s := opened), by decide⟩

theorem witness_AmendPieceReplacesListAndKey :
    (∃ (a : Amendment) (s : State), a.sendable = true ∧ Due .amendPiece .plan a.bytes s
        ∧ ¬ (a.inserts ≠ none ∨ a.key ≠ none))
      ∧ (∃ s, rekeyed.sendable = true ∧ Due .amendPiece .plan rekeyed.bytes s ∧ rekeyed.key ≠ none
        ∧ ∀ x ∈ s.run.pieces, x.id.seq ≠ rekeyed.seq)
      ∧ (∃ s r, Due .amendPiece .plan rekeyed.bytes s ∧ s.run.pieces = [] ++ r :: [] ∧ r.id.seq = rekeyed.seq
        ∧ r.state ≠ .loaded)
      ∧ (∃ s r c, Due .amendPiece .plan rekeyed.bytes s ∧ s.run.pieces = [] ++ r :: [] ∧ r.id.seq = rekeyed.seq
        ∧ r.state = .loaded ∧ s.judgeAmended (rekeyed.spec r) = .error c)
      ∧ (∀ c ∈ [CensusRef.ruled 1, .counted], ∃ s r m, Due .amendPiece .plan rekeyed.bytes s
        ∧ s.run.pieces = [] ++ r :: [] ∧ r.id.seq = rekeyed.seq ∧ r.state = .loaded ∧ PiecesDistinct s
        ∧ s.judgeAmended (rekeyed.spec r) = .ok m ∧ r.census = c ∧ s.bins.stall = none)
      ∧ let limited (f : Limits → Limits) (s : State) := s.onActive fun p => { p with limits := f p.limits }
        ∀ x ∈ ([(opened, .badArg), (limited ({ · with accumulatorLimit := 1 }) (stocked opened), .tooManySheets),
            (limited ({ · with foldLimit := 1 }) (stocked opened), .noFit),
            (limited ({ · with massCeiling := 9 }) (stocked opened), .overMass)] : List (State × LoadCause)),
          x.1.judgeAmended (rekeyed.spec (piece 1 .loaded)) = .error x.2 :=
  ⟨⟨⟨1, none, none⟩, _, rfl, due_asking (s := opened), by decide⟩,
    ⟨_, by decide, due_asking (s := opened), by decide, by decide⟩,
    ⟨_, piece 1 .collating, due_asking (s := holding [piece 1 .collating]), rfl, rfl, by decide⟩,
    ⟨_, piece 1 .loaded, .badArg, due_asking (s := holding [piece 1 .loaded]), rfl, rfl, rfl, by decide +kernel⟩,
    fun c _ => ⟨_, { piece 1 .loaded with census := c }, ⟨3, 14480, 780⟩, due_asking
      (s := (stocked (holding [{ piece 1 .loaded with census := c }])).onSheetMass fun v => setNth v 0 4990), rfl, rfl,
      rfl, (show [(⟨1, 0⟩ : PieceId)].Nodup by decide), by revert c; decide +kernel, rfl, rfl⟩, by decide +kernel⟩

/-- One area entry over 12345, and beside it 12399 with `n` counted. -/
def counting (n : Nat) (l : FineLevel) (a : AreaLevel) (m : Nat) (b : Bin) : State :=
  (withBin 2 b opened).onCensus fun _ =>
    [⟨[1, 2, 3], .area a⟩, ⟨[1, 2, 3, 4, 5], .fine n l⟩, ⟨[1, 2, 3, 9, 9], .fine m .coarse⟩]

theorem witness_CensusClassifiesAndDecides :
    (∃ (f : Profile) (key : List Nat), key.length = 8 ∧ ∀ k ∈ slotNumbers, (f.keyRule k).pattern.length = 8)
      ∧ (∃ (r : Piece) (s : State), s.profile.ruledBy r.key = some 1)
      ∧ (∃ (r : Piece) (s : State), s.profile.ruledBy r.key = none ∧ r.id.reprint = 1)
      ∧ (∃ (r : Piece) (s : State), s.profile.ruledBy r.key = none ∧ r.id.reprint = 0
        ∧ findFine s.census (r.key.take s.profile.sort.fineLength) = some (149, .undecided) ∧ r.census = .counted
        ∧ findArea s.census (r.key.take s.profile.sort.areaLength) = none ∧ s.census.length < 512)
      ∧ (∃ (r : Piece) (s : State), s.profile.ruledBy r.key = none ∧ r.id.reprint = 0
        ∧ findFine s.census (r.key.take s.profile.sort.fineLength) = none ∧ s.census.length < 512)
      ∧ (∃ (r : Piece) (s : State), s.profile.ruledBy r.key = none ∧ r.id.reprint = 0
        ∧ findFine s.census (r.key.take s.profile.sort.fineLength) = none ∧ s.census.length = 512)
      ∧ ∃ (r : Piece) (s : State), s.piece? r.id = some r ∧ r.state ≠ .finished :=
  ⟨⟨factoryProfile, [1, 2, 3, 4, 5, 6, 7, 8], rfl, by decide⟩, ⟨piece 1 .loaded, ruled opened, by decide +kernel⟩,
    ⟨{ piece 1 .loaded with id := ⟨1, 1⟩ }, opened, by decide +kernel, rfl⟩,
    ⟨{ piece 1 .loaded with census := .counted }, opened.onCensus fun _ => [⟨[1, 2, 3, 4, 5], .fine 149 .undecided⟩],
      by decide +kernel, rfl, rfl, rfl, rfl, by decide⟩,
    ⟨piece 1 .loaded, opened, by decide +kernel, rfl, rfl, by decide⟩,
    ⟨piece 1 .loaded, opened.onCensus fun _ => List.replicate 512 ⟨[0], .area .mixed⟩, by decide +kernel, rfl,
      by decide +kernel, by decide +kernel⟩,
    piece 1 .loaded, holding [piece 1 .loaded], rfl, by decide⟩

/-- The fine minimum is 150 and the area prefix three digits: 12345 at its last piece with an OPEN tray; a COARSE entry
whose fall leaves the area none eligible, and one whose fall leaves some; an UNDECIDED entry that rises to the minimum,
and one below it; a group with an OPEN tray and one with none; the entries that go. -/
theorem witness_CensusFallsAndGroupEnds :
    (let s := counting 1 .fine .area 0 ⟨.opened, some (groupTray 2 (.fine [1, 2, 3, 4, 5]) 3)⟩
    findFine s.census [1, 2, 3, 4, 5] = some (1, .fine)
        ∧ (∀ e ∈ s.census, e.kind.isFine = true → e.digits = [1, 2, 3, 4, 5] → e.kind = .fine 1 .fine)
        ∧ (s.bin 2).tray = some (groupTray 2 (.fine [1, 2, 3, 4, 5]) 3)
        ∧ (∀ j ∈ binNumbers, ∀ z ∈ (s.bin j).tray, j = 2))
      ∧ (∀ m ∈ [0, 4],
        let s := counting 1 .coarse .area m ⟨.free, none⟩
        let u := s.census.map fun e => if e.kind.isFine = true ∧ e.digits = [1, 2, 3, 4, 5] then e.onCount (· - 1) else e
        findFine s.census [1, 2, 3, 4, 5] = some (1, .coarse) ∧ findArea s.census [1, 2, 3] = some .area
          ∧ 0 < eligibleCount 150 [1, 2, 3] s.census ∧ (eligibleCount 150 [1, 2, 3] u = 0 ↔ m = 0)
          ∧ s.profile.sort.fineMinimum = 150)
      ∧ (∀ n ∈ [148, 149],
        let s := counting n .undecided .area 0 ⟨.free, none⟩
        let u := s.census.map fun e => if e.kind.isFine = true ∧ e.digits = [1, 2, 3, 4, 5] then e.onCount (· + 1) else e
        findFine s.census [1, 2, 3, 4, 5] = some (n, .undecided) ∧ 0 < eligibleCount 150 [1, 2, 3] s.census
          ∧ (eligibleCount 150 [1, 2, 3] u = 0 ↔ n = 149))
      ∧ (∀ b ∈ ([⟨.free, none⟩, ⟨.opened, some (groupTray 2 (.area [1, 2, 3]) 0)⟩] : List Bin), ∀ m ∈ [0, 4],
        let s := counting 0 .fine .area m b
        findFine s.census [1, 2, 3, 4, 5] = some (0, .fine) ∧ findArea s.census [1, 2, 3] = some .area
          ∧ s.bin 2 = b ∧ ∀ j ∈ binNumbers, ∀ z ∈ (s.bin j).tray, z.group = .area [1, 2, 3])
      ∧ findFine opened.census [1, 2, 3, 4, 5] = none := by
  refine ⟨?_, ?_, ?_, ?_, ?_⟩ <;> decide +kernel

theorem witness_CancelPieceActsAtOnce :
    (∃ s, Due .cancelPiece .plan (toBytes 3 0) s ∧ ∀ x ∈ s.run.pieces, x.id.seq ≠ 0)
      ∧ (∀ st, ∃ s r, Due .cancelPiece .plan (toBytes 3 1) s ∧ s.run.pieces = [] ++ r :: [] ∧ r.id.seq = 1
        ∧ r.state = st ∧ PiecesDistinct s ∧ r.cancelPending = false ∧ s.track.entries = [])
      ∧ (∃ s r, Due .cancelPiece .plan (toBytes 3 1) s ∧ s.run.pieces = [] ++ r :: [] ∧ r.id.seq = 1
        ∧ r.state = .collating ∧ r.cancelPending = true)
      ∧ (∃ s r, Due .cancelPiece .plan (toBytes 3 1) s ∧ s.run.pieces = [] ++ r :: [] ∧ r.id.seq = 1
        ∧ r.state = .onTrack ∧ r.cancelPending = false ∧ ∃ e ∈ s.track.entries, e.piece = r.id ∧ e.stage = .gated)
      ∧ (∃ s r c, Due .cancelPiece .plan (toBytes 3 1) s ∧ s.run.pieces = [] ++ r :: [] ∧ r.id.seq = 1
        ∧ r.cancelPending = false ∧ PiecesDistinct s ∧ r.state = .collating ∧ s.checker.ready = some c
        ∧ c.owner = .piece r.id ∧ s.checker.releaseHold ≠ .free ∧ s.track.entries = [])
      ∧ let r := piece 1 .onTrack
        let s := asking .cancelPiece .plan (toBytes 3 1) (stallAt 63 .mixed (onLine [entry 4 9 .gated, stuck 63 1,
          entry 0 2 .atGate, entry 1 3 .weighed] [r, faulty 2, piece 3 .onTrack]))
        Due .cancelPiece .plan (toBytes 3 1) s ∧ s.run.pieces = [] ++ r :: [faulty 2, piece 3 .onTrack]
          ∧ PiecesDistinct s ∧ s.checker.releaseHold = .free ∧ TrackBounded s
          ∧ s.track.entries = [entry 4 9 .gated] ++ stuck 63 1 :: ([entry 0 2 .atGate] ++ [entry 1 3 .weighed])
          ∧ (∀ x ∈ [entry 4 9 .gated] ++ [entry 0 2 .atGate] ++ [entry 1 3 .weighed], x.piece ≠ r.id)
          ∧ s.bins.stall = some ⟨63, .mixed⟩ ∧ s.piece? ⟨2, 0⟩ = some (faulty 2) :=
  ⟨⟨_, due_asking (s := holding [piece 1 .loaded]), by decide⟩,
    fun st => ⟨_, piece 1 st, due_asking (s := holding [piece 1 st]), rfl, rfl, rfl,
      (show [(⟨1, 0⟩ : PieceId)].Nodup by decide), rfl, rfl⟩,
    ⟨_, { piece 1 .collating with cancelPending := true }, due_asking
      (s := holding [{ piece 1 .collating with cancelPending := true }]), rfl, rfl, rfl, rfl⟩,
    ⟨_, piece 1 .onTrack, due_asking (s := onLine [entry 63 1 .gated] [piece 1 .onTrack]), rfl, rfl, rfl, rfl,
      entry 63 1 .gated, by decide, rfl, rfl⟩,
    ⟨_, piece 1 .collating, clean 1, due_asking (s := held .feeder (collating none (some (clean 1)) [piece 1 .collating])),
      rfl, rfl, rfl, by unfold PiecesDistinct; decide, rfl, rfl, rfl, by decide, rfl⟩,
    by unfold PiecesDistinct TrackBounded; decide +kernel⟩

/-- A delivered tray in bin `b`, of slot 1. -/
def closedTray (b : Nat) : Tray := { tray b 1 .closed with id := b, reserved := 0, reason := some .fullMass }

theorem witness_AcknowledgementsRemoveTheOldest :
    (∃ s, Due .ackOutcomes .plan (toBytes 2 1) s ∧ s.run.outcomes.length = 1)
      ∧ (∃ s, Due .ackOutcomes .plan (toBytes 2 0) s) ∧ (∃ s, Due .ackOutcomes .plan (toBytes 2 1) s
        ∧ s.run.outcomes.length = 0)
      ∧ (∃ s, Due .ackTrays .plan (toBytes 1 64) s ∧ s.bins.closedTrays.length = 64 ∧ s.bins.delivery = []
        ∧ s.bins.stall = none)
      ∧ (∃ s, Due .ackTrays .plan (toBytes 1 65) s) ∧ (∃ s, Due .ackTrays .plan (toBytes 1 1) s
        ∧ s.bins.closedTrays.length = 0)
      -- two of three waiting trays are delivered
      ∧ (let s := asking .ackTrays .plan (toBytes 1 2) (lists 64 [3, 1, 5] (withBin 3 ⟨.fullWait, some (closedTray 3)⟩
          (withBin 1 ⟨.offline, some (closedTray 1)⟩ (withBin 5 ⟨.clearing, some (closedTray 5)⟩ (sorterShows 0 opened)))))
        Due .ackTrays .plan (toBytes 1 2) s ∧ s.bins.closedTrays.length = 64 ∧ s.bins.stall = none
          ∧ s.bins.delivery.Nodup ∧ ∀ b ∈ s.bins.delivery, b ∈ binNumbers ∧ (s.bin b).tray ≠ none)
      -- the stalled entry takes the bin that is freed
      ∧ (let s := asking .ackTrays .plan (toBytes 1 1) (lists 64 [6] (stallAt 5 .mixed (withBin 6 ⟨.fullWait, some (closedTray 6)⟩
          (ruled (sorterShows 0 (onLine [entry 4 9 .gated, stuck 5 1, entry 6 2 .weighed] [piece 1 .onTrack]))))))
        Due .ackTrays .plan (toBytes 1 1) s ∧ s.bins.closedTrays.length = 64 ∧ TrackBounded s
          ∧ s.track.entries = [entry 4 9 .gated] ++ stuck 5 1 :: [entry 6 2 .weighed] ∧ s.bins.stall = some ⟨5, .mixed⟩
          ∧ s.piece? ⟨1, 0⟩ = some (piece 1 .onTrack) ∧ (piece 1 .onTrack).census = .ruled 1
          ∧ s.profile.sort.trayPieceLimit = 300 ∧ (∀ j ∈ binNumbers, ∀ z ∈ (s.bin j).tray, z.state ≠ .opened)
          ∧ s.profile.dedicatedSlot 6 = some 1 ∧ (∀ j ∈ binNumbers, j < 6 → s.profile.dedicatedSlot j ≠ some 1)
          ∧ s.bins.delivery = [6] ∧ (s.bin 6).tray = some (closedTray 6) ∧ s.frees 6 (s.bin 6).state = true)
      -- a bin has become FREE, and none has
      ∧ (((withBin 3 ⟨.free, none⟩ opened).bin 3).state = .free ∧ (opened.bin 3).state ≠ .free
        ∧ ∀ b ∈ binNumbers, (opened.bin b).state ≠ .free)
      -- an OPEN tray that begins closing, with a place reserved and with none, the list having room and having none
      ∧ ∀ g ∈ [TrayGroup.mixed, .rule 1, .fine [1, 2, 3, 4, 5], .area [1, 2, 3]], ∀ n ∈ [0, 1], ∀ m ∈ [63, 64],
        let s := lists m [] (withBin 3 ⟨.opened, some (groupTray 3 g n)⟩ opened)
        (s.bin 3).tray = some (groupTray 3 g n) ∧ (groupTray 3 g n).state = .opened ∧ (groupTray 3 g n).reserved = n
          ∧ (groupTray 3 g n).group = g ∧ s.bins.closedTrays.length = m ∧ s.bins.delivery = [] :=
  ⟨⟨_, due_asking (s := (holding [piece 1 .finished]).onRun fun t => { t with outcomes := [⟨1, 0⟩] }), rfl⟩,
    ⟨_, due_asking (s := opened)⟩, ⟨_, due_asking (s := opened), rfl⟩,
    ⟨_, due_asking (s := lists 64 [] opened), rfl, rfl, rfl⟩,
    ⟨_, due_asking (s := opened)⟩, ⟨_, due_asking (s := opened), rfl⟩, by decide +kernel,
    by unfold TrackBounded; decide +kernel, by decide +kernel, by decide +kernel⟩

theorem witness_MakeUpArithmetic : ∃ bands : List Nat, bands ≠ [] := ⟨[20000], by decide⟩

/-- Records at the ends of their ranges, in a state where they are taken, and the states that refuse them. -/
theorem witness_RecordsOfSettingsAreReplaced :
    (∃ (x : Stock) (s : State), x.inRange = true ∧ Due .setStock .plan (x.bytes 3) s ∧ s.run.runState = .closed)
      ∧ (∃ (x : Envelope) (s : State), x.inRange = true ∧ Due .setEnvelope .plan x.bytes s ∧ s.run.runState = .closed
        ∧ ∃ r ∈ s.run.pieces, r.planned.thickness = x.throat)
      ∧ (∃ (x : Envelope) (s : State), x.inRange = true ∧ Due .setEnvelope .plan x.bytes s ∧ s.run.runState = .closed
        ∧ ∃ r ∈ s.run.pieces, x.throat + 1 = r.planned.thickness)
      ∧ (∃ (us : List Nat) (s : State), bandsInRange us = true ∧ Due .setBands .plan (bandsBytes us) s
        ∧ s.run.runState = .closed ∧ s.profile.limits.massCeiling = us.getLast?.getD 0)
      ∧ (∃ (x : SortSettings) (s : State), x.inRange = true ∧ Due .setSort .plan x.bytes s ∧ s.run.runState = .closed
        ∧ (∃ y ∈ s.heldTrays, x.trayPieceLimit < y.count + y.reserved))
      ∧ (∃ s, Due .setSort .plan factorySort.bytes s ∧ s.run.runState ≠ .closed ∧ s.profile.sort = factorySort
        ∧ s.heldTrays = [])
      ∧ (∃ s, Due .setSort .plan (SortSettings.bytes ⟨8, 7, 1000, 1000, 1000, 30000000⟩) s ∧ s.run.runState ≠ .closed)
      ∧ (∃ s, Due .setStock .plan [] s ∧ s.run.runState = .closed)
      ∧ (∃ s, Due .setEnvelope .plan [] s ∧ s.run.runState = .closed)
      ∧ (∃ s, Due .setBands .plan [] s ∧ s.run.runState = .closed)
      ∧ ∃ s, Due .setSort .plan [] s ∧ s.run.runState = .closed := by
  refine ⟨⟨⟨true, 3000, 4500, 4500, 500⟩, _, rfl, due_asking (s := State.reset), rfl⟩,
    ⟨⟨1000, 800, 200, 780, 100000, 1000⟩, _, rfl, due_asking (s := inRun .closed (holding [piece 1 .finished])), rfl,
      piece 1 .finished, by decide, rfl⟩,
    ⟨⟨4000, 3500, 0, 779, 0, 50⟩, _, rfl, due_asking (s := inRun .closed (holding [piece 1 .finished])), rfl,
      piece 1 .finished, by decide, rfl⟩,
    ⟨[1, 100000], _, by decide, due_asking (s := State.reset), rfl, rfl⟩,
    ⟨⟨2, 1, 1, 1, 1, 1000000⟩, _, rfl, due_asking (s := withBin 1 ⟨.fullWait, some (tray 1 1 .closing)⟩ State.reset),
      rfl, tray 1 1 .closing, by decide +kernel, by decide⟩,
    ⟨_, due_asking (s := opened), by decide, rfl, rfl⟩, ⟨_, due_asking (s := opened), by decide⟩,
    ⟨_, due_asking (s := State.reset), rfl⟩, ⟨_, due_asking (s := State.reset), rfl⟩,
    ⟨_, due_asking (s := State.reset), rfl⟩, _, due_asking (s := State.reset), rfl⟩

theorem witness_LimitsAndFeedersAreReplaced :
    (∃ (l : Limits) (s : State), l.inRange = true ∧ Due .setLimits .plan l.bytes s
        ∧ s.profile.bands.getLast?.getD 0 + 1 = l.massCeiling)
      ∧ (∃ (l : Limits) (s : State), l.inRange = true ∧ Due .setLimits .plan l.bytes s ∧ s.run.runState ≠ .closed
        ∧ l.massCeiling ≤ s.profile.bands.getLast?.getD 0 ∧ l.foldLimit ≠ s.profile.limits.foldLimit)
      ∧ (∃ (l : Limits) (s : State), l.inRange = true ∧ Due .setLimits .plan l.bytes s ∧ s.run.runState = .closed
        ∧ l.massCeiling ≤ s.profile.bands.getLast?.getD 0 ∧ ∃ r ∈ s.run.pieces, l.massCeiling < r.planned.mass)
      ∧ (∃ (l : Limits) (s : State), l.inRange = true ∧ Due .setLimits .plan l.bytes s ∧ s.run.runState = .closed
        ∧ l.massCeiling = s.profile.bands.getLast?.getD 0 ∧ s.run.pieces = []
        ∧ s.checker.releaseHold ≠ .feeder)
      ∧ (∃ (l : Limits) (r : Piece) (s : State), l.inRange = true ∧ Due .setLimits .plan l.bytes s
        ∧ l = { s.profile.limits with feederPolicy := .divert } ∧ l.massCeiling ≤ s.profile.bands.getLast?.getD 0
        ∧ (∀ r ∈ s.run.pieces, r.planned.mass ≤ l.massCeiling ∧ r.disposition = none)
        ∧ s.profile.limits.feederPolicy = .hold ∧ s.checker.releaseHold = .feeder ∧ s.readyPiece = some r)
      ∧ (∃ (x : FeederSetting) (s : State), x.inRange = true ∧ Due .setFeeder .plan (x.bytes 8) s
        ∧ s.run.runState ≠ .closed ∧ x.code ≠ (s.profile.feeder 8).code)
      ∧ (∃ (x : FeederSetting) (s : State), x.inRange = true ∧ Due .setFeeder .plan (x.bytes 8) s
        ∧ s.run.runState = .closed ∧ x.code ≠ 0 ∧ (s.profile.feeder 1).code = x.code
        ∧ (s.profile.feeder 1).mass ≠ x.mass)
      ∧ (∃ (x : FeederSetting) (r : Piece) (p : PullEntry) (s : State), x.inRange = true
        ∧ Due .setFeeder .plan (x.bytes 8) s ∧ s.run.runState = .closed ∧ x.code = 0
        ∧ x.code ≠ (s.profile.feeder 8).code ∧ r ∈ s.run.pieces ∧ p ∈ r.pulls ∧ p.feeder = 8)
      ∧ ∃ (x : FeederSetting) (s : State), x.inRange = true ∧ Due .setFeeder .plan (x.bytes 8) s
        ∧ s.run.runState = .closed ∧ s.run.pieces = [] ∧ ∀ j ∈ feederNumbers, (s.profile.feeder j).code ≠ x.code :=
  ⟨⟨{ factoryLimits with massCeiling := 100001 }, _, by decide, due_asking (s := State.reset), rfl⟩,
    ⟨{ factoryLimits with foldLimit := 4 }, _, by decide, due_asking (s := opened), by decide, by decide, by decide⟩,
    ⟨{ factoryLimits with massCeiling := 14479 }, _, by decide, due_asking
      (s := inRun .closed (holding [piece 1 .finished])), rfl, by decide, piece 1 .finished, by decide, by decide⟩,
    ⟨{ factoryLimits with toleranceFloor := 50000 }, _, by decide, due_asking (s := State.reset), rfl, by decide, rfl,
      by decide⟩,
    ⟨{ factoryLimits with feederPolicy := .divert }, piece 1 .collating, _, by decide, due_asking
      (s := (collating none (some (clean 1)) [piece 1 .collating]).onChecker fun c =>
        { c with releaseHold := .feeder }), rfl, by decide, by decide, rfl, rfl, by decide +kernel⟩,
    ⟨⟨255, 200000, 10000, true⟩, _, rfl, due_asking (s := opened), by decide, by decide⟩,
    ⟨⟨11, 5001, 200, true⟩, _, rfl, due_asking (s := carrying 1 11 State.reset), rfl, by decide, by decide, by decide⟩,
    ⟨⟨0, 0, 0, true⟩, pulling, ⟨8, 11, .pending, .release⟩, _, rfl, due_asking
      (s := carrying 8 11 (inRun .closed (holding [pulling]))), rfl, rfl, by decide, by decide, by decide, rfl⟩,
    ⟨255, 200000, 10000, false⟩, _, rfl, due_asking (s := State.reset), rfl, rfl, by decide⟩

/-- The factory head map with feeder head 1 unmapped and a gate head at 9, and with the sorter head moved to 14. -/
def unfed : Vector HeadKind 16 := setNth (setNth factoryProfile.headMap 1 .none) 9 .gate
def resorted : Vector HeadKind 16 := setNth (setNth factoryProfile.headMap 13 .none) 14 .sorter

/-- In CLOSED, feeder head 1 PRESENT, with an identity read due, the last poll and the transaction on the line. -/
def pollsAt (due last : Option Nat) (x : Option Transaction) : State :=
  (withHead 1 ⟨.present, 0, some 0, some 0x1100, none⟩ (line x (inRun .closed opened))).onHeads fun h =>
    { h with identityDue := due, lastPoll := last }

theorem witness_KeyRulesAndHeadMapAreReplaced :
    (∃ (x : KeyRule) (s : State), x.inRange = true ∧ Due .setKeyRule .plan (x.bytes 8) s ∧ s.run.runState ≠ .closed)
      ∧ (∃ (x : KeyRule) (s : State), x.inRange = true ∧ Due .setKeyRule .plan (x.bytes 8) s
        ∧ s.run.runState = .closed ∧ x.enabled = true ∧ (s.profile.keyRule 1).enabled = true
        ∧ (s.profile.keyRule 1).bin = x.bin)
      ∧ (∃ (x : KeyRule) (s : State), x.inRange = true ∧ Due .setKeyRule .plan (x.bytes 8) s
        ∧ s.run.runState = .closed ∧ x.enabled = true ∧ x.bin = 1
        ∧ ∀ b ∈ [2, 3, 4, 5, 6], ∃ j ∈ [2, 3, 4, 5, 6], (s.profile.keyRule j).enabled = true
          ∧ (s.profile.keyRule j).bin = b)
      ∧ (∃ (x : KeyRule) (y : Tray) (s : State), x.inRange = true ∧ Due .setKeyRule .plan (x.bytes 8) s
        ∧ s.run.runState = .closed ∧ x.enabled = true ∧ (s.bin x.bin).tray = some y ∧ y.group ≠ .rule 8
        ∧ ∀ j ∈ slotNumbers, (s.profile.keyRule j).enabled = false)
      ∧ (∃ (x : KeyRule) (s : State), x.inRange = true ∧ Due .setKeyRule .plan (x.bytes 8) s
        ∧ s.run.runState = .closed ∧ x.enabled = false)
      ∧ (∃ (m : Vector HeadKind 16) (s : State), headMapInRange m = true
        ∧ Due .setHeadMap .plan (headMapBytes m true) s ∧ s.run.runState ≠ .closed
        ∧ nth s.profile.headMap 0 ≠ nth m 0)
      ∧ (∃ (m : Vector HeadKind 16) (s : State), headMapInRange m = true
        ∧ Due .setHeadMap .plan (headMapBytes m true) s ∧ s.run.runState = .closed)
      ∧ (∀ due ∈ [none, some 3, some 9], ∀ last ∈ [none, some 9],
        ∀ x ∈ [none, some ⟨.statusPoll, ⟨9, 0, none⟩, false⟩, some ⟨.slot .plan, ⟨9, 0, none⟩, false⟩],
        let s := asking .setHeadMap .plan (headMapBytes unfed true) (pollsAt due last x)
        headMapInRange unfed = true ∧ Due .setHeadMap .plan (headMapBytes unfed true) s ∧ s.run.runState = .closed
          ∧ (headAddresses.filter fun a => nth s.profile.headMap a != nth unfed a) = [1, 9]
          ∧ (s.head 1).state ≠ .absent ∧ s.heads.identityDue = due ∧ s.heads.lastPoll = last ∧ s.heads.line = x
          ∧ { s.profile with headMap := unfed, pollEnable := true }.sorterHead = s.profile.sorterHead
          ∧ s.checker.releaseHold ≠ .feeder)
      ∧ ∀ w ∈ [none, some 0x0404],
        let e : HeadEntry := ⟨.present, 0, w, some 0x6000, none⟩
        let s := asking .setHeadMap .plan (headMapBytes resorted false) (withHead 14 e (pollsAt (some 14) none none))
        headMapInRange resorted = true ∧ Due .setHeadMap .plan (headMapBytes resorted false) s ∧ s.run.runState = .closed
          ∧ { s.profile with headMap := resorted, pollEnable := false }.sorterHead ≠ s.profile.sorterHead := by
  refine ⟨⟨⟨true, .quarter, List.replicate 8 (some 9), 6⟩, _, rfl, due_asking (s := opened), by decide⟩,
    ⟨⟨true, .half, List.replicate 8 none, 6⟩, _, rfl, due_asking (s := ruled State.reset), rfl, rfl, rfl, rfl⟩,
    ⟨⟨true, .wide, List.replicate 8 none, 1⟩, _, rfl, due_asking (s := State.reset.onActive fun f => { f with
      keyRules := #v[factoryKeyRule 1, ⟨true, .wide, [], 2⟩, ⟨true, .wide, [], 3⟩, ⟨true, .wide, [], 4⟩,
        ⟨true, .wide, [], 5⟩, ⟨true, .wide, [], 6⟩, factoryKeyRule 6, factoryKeyRule 6] }), rfl, rfl, rfl, by decide⟩,
    ⟨⟨true, .wide, List.replicate 8 none, 6⟩, tray 6 1 .closing, _, rfl, due_asking
      (s := withBin 6 ⟨.fullWait, some (tray 6 1 .closing)⟩ State.reset), rfl, rfl, rfl, by decide, by decide⟩,
    ⟨factoryKeyRule 6, _, rfl, due_asking (s := State.reset), rfl, rfl⟩,
    ⟨Vector.replicate 16 (.feeder 8), _, by decide +kernel, due_asking (by decide +kernel) (s := opened), by decide,
      by decide⟩,
    ⟨Vector.replicate 16 (.feeder 8), _, by decide +kernel, due_asking (by decide +kernel) (s := State.reset), rfl⟩,
    ?_, ?_⟩
  · exact fun due _ last _ x _ => ⟨by decide +kernel, due_asking (by decide +kernel), rfl,
      show (headAddresses.filter fun a => nth factoryProfile.headMap a != nth unfed a) = [1, 9] by decide +kernel,
      show HeadState.present ≠ .absent by decide, rfl, rfl, rfl,
      show { factoryProfile with headMap := unfed, pollEnable := true }.sorterHead = factoryProfile.sorterHead by
        decide +kernel, show ReleaseHold.free ≠ .feeder by decide⟩
  · exact fun w _ => ⟨by decide +kernel, due_asking (by decide +kernel), rfl,
      show { factoryProfile with headMap := resorted, pollEnable := false }.sorterHead ≠ factoryProfile.sorterHead by
        decide +kernel⟩

theorem witness_SavesWriteTheSnapshot :
    (∃ s, Due .saveSettings .plan [] s ∧ s.settings.save = none)
      ∧ (∃ s f, Due .saveSettings .plan [] s ∧ s.settings.save = some f) ∧ ∃ s : State, s.settings.save = none :=
  ⟨⟨_, due_asking (s := opened), rfl⟩,
    ⟨_, factoryProfile, due_asking (s := opened.onSettings fun x => { x with save := some factoryProfile }), rfl⟩,
    State.reset, rfl⟩

theorem witness_PowerOnLoadsTheProfile :
    (∃ s : State, s.settings.starting = true) ∧ ∃ s : State, s.settings.starting = false :=
  ⟨⟨State.reset.onSettings fun x => { x with starting := true }, rfl⟩, State.reset, rfl⟩

/-- A transaction of the poll cycle on the line, at an address with the head table entry given. -/
def polling (owner : LineOwner) (a i : Nat) (e : HeadEntry) : State :=
  withHead a e (line (some ⟨owner, ⟨a, i, none⟩, false⟩) opened)

/-- The head at 9 is the reader, that at 1 feeder 1, and that at 13 the sorter head. In order: a slot access; a status
poll of an address not PRESENT; an identity read, of an expected, an unexpected and an unexpected second identity; a
status poll of a PRESENT head; polls that fail; a stale transaction and an idle line; the arbiter; the bins. -/
theorem witness_TransactionsEnd :
    (∃ (p : Port) (a : Access) (s : State), s.heads.line = some ⟨.slot p, a, false⟩)
      ∧ (∀ st ∈ [HeadState.absent, .silent, .mismatch],
        let s := polling .statusPoll 15 0 ⟨st, 2, none, none, none⟩
        s.heads.line = some ⟨.statusPoll, ⟨15, 0, none⟩, false⟩ ∧ (s.head 15).state = st ∧ s.profile.pollEnable = true
          ∧ nth s.profile.headMap 1 ≠ .none ∧ s.heads.slots = ⟨.idle, .idle⟩)
      ∧ (∀ a ∈ [9, 1, 13], ∀ st ∈ [HeadState.absent, .mismatch],
        let s := polling .identityRead a 1 ⟨st, 0, none, none, some 0⟩
        s.heads.line = some ⟨.identityRead, ⟨a, 1, none⟩, false⟩ ∧ (s.head a).state = st
          ∧ s.profile.feederHead 1 = some 1 ∧ s.profile.sorterHead = some 13 ∧ nth s.profile.headMap 9 = .reader
          ∧ nth s.profile.headMap 1 = .feeder 1 ∧ nth s.profile.headMap 13 = .sorter)
      ∧ ((0x2000 : Half).toNat / 4096 = HeadKind.reader.code / 16 ∧ (0x6000 : Half).toNat / 4096 = HeadKind.sorter.code / 16
        ∧ (0x1100 : Half).toNat / 4096 = (HeadKind.feeder 1).code / 16 ∧ (0x1100 : Half).toNat / 256 % 16 = 1
        ∧ (0xF000 : Half).toNat / 4096 ≠ HeadKind.reader.code / 16)
      ∧ (∀ a ∈ [9, 1, 13], ∀ n ∈ [0, 1, 2],
        let s := polling .statusPoll a 0 ⟨.present, n, some 3, some 0, none⟩
        s.heads.line = some ⟨.statusPoll, ⟨a, 0, none⟩, false⟩ ∧ (s.head a).state = .present
          ∧ (s.head a).lastStatus = some 3 ∧ (s.head a).failedRun = n)
      ∧ (let s := polling .statusPoll 9 0 ⟨.silent, 0, none, none, none⟩
        s.heads.line = some ⟨.statusPoll, ⟨9, 0, none⟩, false⟩ ∧ (s.head 9).state = .silent)
      ∧ (let s := line (some ⟨.identityRead, ⟨1, 1, none⟩, true⟩) opened
        s.heads.line = some ⟨.identityRead, ⟨1, 1, none⟩, true⟩ ∧ (line none opened).heads.line = none)
      ∧ (let h := (slotted (.waiting ⟨1, 2, none⟩) (.waiting ⟨2, 3, none⟩) .plan opened).heads
        h.line = none ∧ h.slots.get .track = .waiting ⟨1, 2, none⟩ ∧ h.lastGranted = .plan
          ∧ (∃ x ∈ headAddresses, nth opened.profile.headMap x ≠ .none))
      ∧ ∀ st ∈ [BinState.fault, .free, .opened, .fullWait, .clearing, .offline], ∀ n ∈ [0, 1],
        let s := sorterShows 0x0404 (withBin 3 ⟨st, some { groupTray 3 .mixed 1 with count := n }⟩ opened)
        s.sorterStatus = some 0x0404 ∧ (s.bin 3).state = st ∧ ∀ j ∈ binNumbers, ∀ y ∈ (s.bin j).tray, 0 < y.reserved := by
  refine ⟨⟨.plan, ⟨9, 2, some 1⟩, line (some ⟨.slot .plan, ⟨9, 2, some 1⟩, false⟩) opened, rfl⟩, ?_, ?_, ?_, ?_, ?_, ?_, ?_,
    ?_⟩ <;> decide +kernel

end Sys2Proof.Tests
end

section
/-! The names of the piece records, with the run number and the line state: which operations keep them (R1, R2, R12). -/

namespace Sys2Proof.Machine

/-- What the operations on piece records leave of the Run Table: the run number, the line state, and the sequence number
and reprint count of every record, in load order. -/
def RunTable.roll (t : RunTable) : Nat × LineState × List PieceId :=
  (t.runNumber, t.lineState, t.pieces.map Piece.id)

@[simp] theorem Piece.addCause_id (c : Cause) (r : Piece) : (r.addCause c).id = r.id := by
  unfold Piece.addCause; split <;> rfl

@[simp] theorem Piece.finish_id (d : Disposition) (r : Piece) : (r.finish d).id = r.id := rfl

@[simp] theorem Piece.setPull_id (k : Nat) (res : PullResult) (r : Piece) : (r.setPull k res).id = r.id := rfl

@[simp] theorem Piece.addSkipped_id (code : Nat) (r : Piece) : (r.addSkipped code).id = r.id := by
  unfold Piece.addSkipped; split <;> rfl

@[simp] theorem Piece.closeOut_id (r : Piece) : r.closeOut.id = r.id := by
  unfold Piece.closeOut; dsimp only; split <;> simp [Piece.passPending]

@[simp] theorem State.recompute_id (s : State) (r : Piece) : (s.recompute r).id = r.id := by
  unfold State.recompute; dsimp only; (repeat' split) <;> simp

@[simp] theorem State.envelopePiece_id (s : State) (r : Piece) : (s.envelopePiece r).id = r.id := by
  simp [State.envelopePiece]

@[simp] theorem State.weighPiece_id (s : State) (x : ScaleReport) (r : Piece) : (s.weighPiece x r).1.id = r.id := by
  unfold State.weighPiece; dsimp only; (repeat' split) <;> simp

@[simp] theorem Amendment.apply_id (a : Amendment) (m : MakeUp) (r : Piece) : (a.apply m r).id = r.id := rfl

/-- A change of one record that keeps its name keeps the roll. -/
theorem State.onPiece_roll (id : PieceId) (f : Piece → Piece) (s : State) (hf : ∀ r, (f r).id = r.id) :
    (s.onPiece id f).run.roll = s.run.roll := by
  simp only [State.onPiece, State.onRun_run, RunTable.roll, List.map_map, Prod.mk.injEq, true_and, List.map_inj_left,
    Function.comp_apply]
  intro r _
  split
  · exact hf r
  · rfl

@[simp] theorem State.onPiece_setPull_roll (id : PieceId) (k : Nat) (res : PullResult) (s : State) :
    (s.onPiece id (Piece.setPull k res)).run.roll = s.run.roll := s.onPiece_roll id _ (by simp)

@[simp] theorem State.onPiece_apply_roll (id : PieceId) (a : Amendment) (m : MakeUp) (s : State) :
    (s.onPiece id (a.apply m)).run.roll = s.run.roll := s.onPiece_roll id _ (by simp)

@[simp] theorem State.onPiece_envelopePiece_roll (id : PieceId) (t s : State) :
    (s.onPiece id t.envelopePiece).run.roll = s.run.roll := s.onPiece_roll id _ (by simp)

@[simp] theorem State.onPiece_addSkipped_roll (id : PieceId) (code : Nat) (s : State) :
    (s.onPiece id (Piece.addSkipped code)).run.roll = s.run.roll := s.onPiece_roll id _ (by simp)

@[simp] theorem State.addCause_roll (id : PieceId) (c : Cause) (s : State) : (s.addCause id c).run.roll = s.run.roll :=
  s.onPiece_roll id _ (by simp)

/-! ### Finishing and classifying -/

@[simp] theorem State.classify_roll (r : Piece) (s : State) : (s.classify r).run.roll = s.run.roll := by
  unfold State.classify
  dsimp only
  split <;> simp [State.onPiece_roll]

@[simp] theorem State.reclassify_roll (old new : Piece) (s : State) :
    (s.reclassify old new).run.roll = s.run.roll := by
  unfold State.reclassify; dsimp only; split <;> simp

@[simp] theorem State.finish_roll (id : PieceId) (d : Disposition) (s : State) :
    (s.finish id d).run.roll = s.run.roll := by
  have h := s.onPiece_roll id (Piece.finish d) (by simp)
  simp only [RunTable.roll] at h
  unfold State.finish
  (repeat' split) <;> simp_all [RunTable.roll]

@[simp] theorem State.finishAll_roll (ids : List PieceId) (c : Cause) (d : Disposition) (s : State) :
    (s.finishAll ids c d).run.roll = s.run.roll :=
  foldl_keeps _ (fun s => s.run.roll) (by simp) ids s

@[simp] theorem State.closeNow_roll (s : State) : s.closeNow.run.roll = s.run.roll := by
  simp [State.closeNow, RunTable.roll]

@[simp] theorem State.drainTest_roll (s : State) : s.drainTest.run.roll = s.run.roll := by
  unfold State.drainTest; split <;> simp

/-! ### Feeders and the track -/

@[simp] theorem State.substitute_roll (id : PieceId) (k code : Nat) (s : State) :
    (s.substitute id k code).1.run.roll = s.run.roll := by
  unfold State.substitute; (repeat' split) <;> simp [State.onPiece_roll]

@[simp] theorem State.pullDelivered_roll (id : PieceId) (k : Nat) (res : PullResult) (s : State) :
    (s.pullDelivered id k res).run.roll = s.run.roll := by
  unfold State.pullDelivered; (repeat' split) <;> simp

@[simp] theorem State.pullReport_roll (id : PieceId) (e : PullEntry) (res : PullResult) (s : State) :
    (s.pullReport id e res).1.run.roll = s.run.roll := by
  unfold State.pullReport; split <;> simp

@[simp] theorem State.exitIntoBin_roll (tag b : Nat) (r : Piece) (s : State) :
    (s.exitIntoBin tag b r).run.roll = s.run.roll := by
  unfold State.exitIntoBin; split <;> simp [State.onPiece_roll]

@[simp] theorem State.exitDiverted_roll (tag : Nat) (id : PieceId) (d : GateDecision) (s : State) :
    (s.exitDiverted tag id d).run.roll = s.run.roll := by
  unfold State.exitDiverted; split <;> simp

@[simp] theorem State.applyExit_roll (e : TrackEntry) (d reported : GateDecision) (s : State) :
    (s.applyExit e d reported).run.roll = s.run.roll := by
  unfold State.applyExit; split <;> simp

@[simp] theorem State.exitReport_roll (e : TrackEntry) (d reported : GateDecision) (s : State) :
    (s.exitReport e d reported).run.roll = s.run.roll := by
  simp [State.exitReport]

@[simp] theorem State.foldReport_roll (e : TrackEntry) (n : Nat) (s : State) :
    (s.foldReport e n).1.run.roll = s.run.roll := by
  unfold State.foldReport; dsimp only; split <;> simp

@[simp] theorem State.envelopeReport_roll (e : TrackEntry) (s : State) :
    (s.envelopeReport e).1.run.roll = s.run.roll := by
  unfold State.envelopeReport; dsimp only; split <;> simp

@[simp] theorem State.weighReport_roll (e : TrackEntry) (x : ScaleReport) (s : State) :
    (s.weighReport e x).1.run.roll = s.run.roll := by
  unfold State.weighReport; dsimp only; split <;> simp [State.onPiece_roll]

@[simp] theorem State.purgeEntry_roll (e : TrackEntry) (s : State) : (s.purgeEntry e).run.roll = s.run.roll := by
  unfold State.purgeEntry; dsimp only; split <;> simp

@[simp] theorem State.purgeEntries_roll (es : List TrackEntry) (s : State) :
    (s.purgeEntries es).run.roll = s.run.roll :=
  foldl_keeps _ (fun s => s.run.roll) (by simp) es s

/-! ### Collations -/

@[simp] theorem State.addOutcome_roll (id : PieceId) (out : SheetOutcome) (s : State) :
    (s.addOutcome id out).run.roll = s.run.roll := by
  unfold State.addOutcome; split <;> simp

@[simp] theorem State.joinPiece_roll (id : PieceId) (c : Collation) (m : Mark) (n : Nat) (s : State) :
    (s.joinPiece id c m n).1.run.roll = s.run.roll := by
  simp [State.joinPiece]

@[simp] theorem State.joinSheet_roll (sh : SheetReport) (c : Collation) (s : State) :
    (s.joinSheet sh c).1.run.roll = s.run.roll := by
  unfold State.joinSheet; split <;> simp

@[simp] theorem State.openFor_roll (id : PieceId) (s : State) : (s.openFor id).run.roll = s.run.roll := by
  simp [State.openFor, State.onPiece_roll]

@[simp] theorem State.startSheet_roll (sh : SheetReport) (s : State) :
    (s.startSheet sh).1.run.roll = s.run.roll := by
  unfold State.startSheet; (repeat' split) <;> simp

@[simp] theorem State.endForming_roll (c : Collation) (s : State) : (s.endForming c).run.roll = s.run.roll := by
  unfold State.endForming; dsimp only; (repeat' split) <;> simp

@[simp] theorem State.judgeSheet_roll (sh : SheetReport) (s : State) :
    (s.judgeSheet sh).1.run.roll = s.run.roll := by
  unfold State.judgeSheet; (repeat' split) <;> simp

@[simp] theorem State.emptyReady_roll (s : State) : s.emptyReady.run.roll = s.run.roll := by
  simp [State.emptyReady]

@[simp] theorem State.foldPiece_roll (r : Piece) (s : State) : (s.foldPiece r).run.roll = s.run.roll := by
  simp [State.foldPiece, State.onPiece_roll]

@[simp] theorem State.releaseClean_roll (r : Piece) (n : Nat) (s : State) :
    (s.releaseClean r n).1.run.roll = s.run.roll := by
  unfold State.releaseClean; (repeat' split) <;> simp

@[simp] theorem State.releaseVerdict_roll (c : Collation) (s : State) :
    (s.releaseVerdict c).1.run.roll = s.run.roll := by
  unfold State.releaseVerdict; (repeat' split) <;> simp

@[simp] theorem State.flushForming_roll (c : Collation) (s : State) : (s.flushForming c).run.roll = s.run.roll := by
  unfold State.flushForming; dsimp only; split <;> simp

@[simp] theorem State.resyncTo_roll (id : PieceId) (s : State) : (s.resyncTo id).run.roll = s.run.roll := by
  simp [State.resyncTo]

@[simp] theorem State.purgeCollation_roll (c : Option Collation) (s : State) :
    (s.purgeCollation c).run.roll = s.run.roll := by
  unfold State.purgeCollation; split <;> simp

@[simp] theorem State.purgeCollations_roll (s : State) : s.purgeCollations.run.roll = s.run.roll := by
  simp [State.purgeCollations]

@[simp] theorem State.purgeAll_roll (s : State) : s.purgeAll.run.roll = s.run.roll := by
  simp [State.purgeAll]

/-! ### Run control -/

@[simp] theorem State.closeRun_roll (s : State) : s.closeRun.run.roll = s.run.roll := by
  have h := s.finishAll_roll s.loadedIds .runClosed .notFed
  unfold State.closeRun
  dsimp only
  split
  · simp
  · simpa [RunTable.roll] using h

@[simp] theorem State.amend_roll (a : Amendment) (m : MakeUp) (r : Piece) (s : State) :
    (s.amend a m r).run.roll = s.run.roll := by
  unfold State.amend; dsimp only; split <;> simp

@[simp] theorem State.setCancelPending_roll (id : PieceId) (s : State) :
    (s.setCancelPending id).run.roll = s.run.roll := by
  unfold State.setCancelPending; dsimp only; (repeat' split) <;> simp [State.onPiece_roll]

/-- Appending a record adds its name at the end of the roll. -/
theorem State.appendPiece_roll (x : PieceSpec × MakeUp) (s : State) :
    (s.appendPiece x).run.roll = (s.run.runNumber, s.run.lineState, s.run.pieces.map Piece.id ++ [x.1.id]) := by
  unfold State.appendPiece
  rw [State.classify_roll]
  simp [RunTable.roll, PieceSpec.record]

theorem State.appendAll_roll (xs : List (PieceSpec × MakeUp)) (s : State) :
    (s.appendAll xs).run.roll =
      (s.run.runNumber, s.run.lineState, s.run.pieces.map Piece.id ++ xs.map fun x => x.1.id) := by
  induction xs generalizing s with
  | nil => simp [State.appendAll, RunTable.roll]
  | cons x xs ih =>
    have h := s.appendPiece_roll x
    simp only [RunTable.roll, Prod.mk.injEq] at h
    obtain ⟨hn, hl, hp⟩ := h
    simpa [State.appendAll, hn, hl, hp] using ih (s.appendPiece x)

end Sys2Proof.Machine
end

section
/-! The checks of a piece record at LOAD_PIECES and AMEND_PIECE (R10 to R13, R15, R60 to R64): when each passes, which
cause the first that fails gives, and how a batch is judged. -/

namespace Sys2Proof.Machine

/-! ### The single checks -/

section
variable {s : State} {x : PieceSpec} {m : MakeUp}

/-- The ranges of R11. -/
def PieceSpec.InRanges (f : Profile) (x : PieceSpec) : Prop :=
  x.id.seq ≠ 0 ∧ x.id.reprint ≤ 3 ∧ 1 ≤ x.sheets ∧ x.sheets ≤ 24 ∧ x.stock ≤ 3
    ∧ (nth f.stocks x.stock).configured = true ∧ x.insertCount ≤ 8
    ∧ (∀ e ∈ x.inserts, e.code ≠ 0) ∧ (x.inserts.map InsertEntry.code).Nodup ∧ (∀ d ∈ x.key, d ≤ 9)

theorem PieceSpec.inRange_iff {f : Profile} : x.inRange f = true ↔ x.InRanges f := by
  simp only [PieceSpec.inRange, PieceSpec.InRanges, Bool.and_eq_true, bne_iff_ne, decide_eq_true_eq, List.all_eq_true,
    and_assoc, Nat.one_le_iff_ne_zero]

/-- Every code of the record is carried by some feeder (R13). -/
def State.CodesCarried (s : State) (x : PieceSpec) : Prop :=
  ∀ e ∈ x.inserts, ∃ k ∈ feederNumbers, (s.profile.feeder k).code = e.code

theorem State.codesCarried_iff (hx : ∀ e ∈ x.inserts, e.code ≠ 0) :
    (x.inserts.any fun i => !feederNumbers.any fun k => s.profile.carries k i.code) = false ↔ s.CodesCarried x := by
  rw [List.any_eq_false]
  refine forall₂_congr fun e he => ?_
  simp [Profile.carries, hx e he]

/-- The duplicate rule of R12. -/
def State.FreshId (s : State) (earlier : List Nat) (id : PieceId) : Prop :=
  id.seq ∉ earlier ∧ ∀ r ∈ s.run.pieces, r.id.seq = id.seq → r.state = .finished ∧ r.id.reprint < id.reprint

theorem State.duplicateFree_iff {earlier : List Nat} {id : PieceId} :
    s.duplicateFree earlier id = true ↔ s.FreshId earlier id := by
  simp only [State.duplicateFree, State.FreshId, Bool.and_eq_true, Bool.not_eq_true', List.contains_eq_mem,
    decide_eq_false_iff_not, List.all_eq_true, Bool.or_eq_true, bne_iff_ne, beq_iff_eq, decide_eq_true_eq]
  refine and_congr_right fun _ => forall₂_congr fun r _ => ?_
  tauto

/-- The fold plan of a record under the profile (R60). -/
def State.foldOf (s : State) (x : PieceSpec) : Option Nat :=
  foldPlan (nth s.profile.stocks x.stock) s.profile.envelope s.profile.limits.foldLimit

/-- The planned mass of a record (R62). -/
def State.massOf (s : State) (x : PieceSpec) : Nat :=
  makeUpMass x.sheets (nth s.sheetMass x.stock) (x.inserts.map fun e => s.profile.codeValues e.code) s.profile.envelope

/-- The planned thickness of a record folded to `p` panels (R63). -/
def State.thicknessOf (s : State) (x : PieceSpec) (p : Nat) : Nat :=
  makeUpThickness x.sheets (nth s.profile.stocks x.stock).caliper p
    (x.inserts.map fun e => s.profile.codeValues e.code) s.profile.envelope

/-- The planned make-up is made and lies within the throat limit and the mass ceiling (R13, R64). -/
def State.MakeUpFits (s : State) (x : PieceSpec) (m : MakeUp) : Prop :=
  s.foldOf x = some m.panels ∧ m.mass = s.massOf x ∧ m.thickness = s.thicknessOf x m.panels
    ∧ m.thickness ≤ s.profile.envelope.throat ∧ m.mass ≤ s.profile.limits.massCeiling

theorem State.plan_eq : s.plan x.sheets x.stock x.inserts =
    (match s.foldOf x with
    | none => .error .noFit
    | some p =>
      if s.profile.envelope.throat < s.thicknessOf x p then .error .overThick
      else if s.profile.limits.massCeiling < s.massOf x then .error .overMass
      else .ok ⟨p, s.massOf x, s.thicknessOf x p⟩) := by
  unfold State.plan State.foldOf State.thicknessOf State.massOf State.makeUpOver State.stockOfPiece
  rfl

theorem State.plan_ok_iff : s.plan x.sheets x.stock x.inserts = .ok m ↔ s.MakeUpFits x m := by
  rw [State.plan_eq]
  unfold State.MakeUpFits
  cases hf : s.foldOf x with
  | none => simp
  | some p =>
    obtain ⟨q, a, b⟩ := m
    simp only [Option.some.injEq]
    split
    · simp only [reduceCtorEq, false_iff]
      rintro ⟨rfl, -, rfl, h, -⟩; omega
    · split
      · simp only [reduceCtorEq, false_iff]
        rintro ⟨rfl, rfl, -, -, h⟩; omega
      · simp only [Except.ok.injEq, MakeUp.mk.injEq]
        constructor
        · rintro ⟨rfl, rfl, rfl⟩; simp; omega
        · rintro ⟨rfl, rfl, rfl, -⟩; simp

/-- The first of the causes NO_FIT, OVER_THICK and OVER_MASS that applies (R64). -/
theorem State.plan_error :
    (s.foldOf x = none → s.plan x.sheets x.stock x.inserts = .error .noFit)
    ∧ ∀ p, s.foldOf x = some p →
      (s.profile.envelope.throat < s.thicknessOf x p → s.plan x.sheets x.stock x.inserts = .error .overThick)
      ∧ (s.thicknessOf x p ≤ s.profile.envelope.throat → s.profile.limits.massCeiling < s.massOf x →
          s.plan x.sheets x.stock x.inserts = .error .overMass) := by
  rw [State.plan_eq]
  refine ⟨fun h => by simp [h], fun p h => ?_⟩
  simp only [h]
  exact ⟨fun ht => by simp [ht], fun ht hm => by simp [Nat.not_lt.mpr ht, hm]⟩

theorem State.checkRanges_eq : s.checkRanges x =
    if x.inRange s.profile = false then some .badArg
    else if s.profile.limits.accumulatorLimit < x.sheets then some .tooManySheets else none := by
  unfold State.checkRanges
  cases x.inRange s.profile <;> rfl

theorem State.checkRanges_badArg (h : ¬ x.InRanges s.profile) : s.checkRanges x = some .badArg := by
  rw [← PieceSpec.inRange_iff, Bool.not_eq_true] at h
  simp [State.checkRanges_eq, h]

theorem State.checkRanges_tooManySheets (h : x.InRanges s.profile)
    (hf : ¬ x.sheets ≤ s.profile.limits.accumulatorLimit) : s.checkRanges x = some .tooManySheets := by
  simp [State.checkRanges_eq, PieceSpec.inRange_iff.mpr h, Nat.not_le.mp hf]

theorem State.checkRanges_none_iff :
    s.checkRanges x = none ↔ x.InRanges s.profile ∧ x.sheets ≤ s.profile.limits.accumulatorLimit := by
  rw [State.checkRanges_eq, ← PieceSpec.inRange_iff]
  cases x.inRange s.profile <;> simp

theorem State.checkMakeUp_unknown (h : ∀ e ∈ x.inserts, e.code ≠ 0) (hc : ¬ s.CodesCarried x) :
    s.checkMakeUp x = .error .unknownInsert := by
  rw [← State.codesCarried_iff h, Bool.not_eq_false] at hc
  simp only [State.checkMakeUp, hc, if_true]

theorem State.checkMakeUp_carried (h : ∀ e ∈ x.inserts, e.code ≠ 0) (hc : s.CodesCarried x) :
    s.checkMakeUp x = s.plan x.sheets x.stock x.inserts := by
  rw [← State.codesCarried_iff h] at hc
  simp only [State.checkMakeUp, hc, Bool.false_eq_true, if_false]

theorem State.checkMakeUp_ok_iff (h : ∀ e ∈ x.inserts, e.code ≠ 0) :
    s.checkMakeUp x = .ok m ↔ s.CodesCarried x ∧ s.MakeUpFits x m := by
  by_cases hc : s.CodesCarried x
  · rw [State.checkMakeUp_carried h hc, State.plan_ok_iff, and_iff_right hc]
  · simp [State.checkMakeUp_unknown h hc, hc]

theorem PieceSpec.InRanges.codes_ne_zero {f : Profile} (h : x.InRanges f) : ∀ e ∈ x.inserts, e.code ≠ 0 :=
  h.2.2.2.2.2.2.2.1

/-! ### One record -/

variable {earlier : List Nat} {i : Nat}

theorem State.judgeRecord_of_checkRanges {c : LoadCause} (h : s.checkRanges x = some c) :
    s.judgeRecord earlier i x = .error c := by simp [State.judgeRecord, h]

theorem State.judgeRecord_duplicate (h : s.checkRanges x = none) (hd : ¬ s.FreshId earlier x.id) :
    s.judgeRecord earlier i x = .error .duplicate := by
  rw [← State.duplicateFree_iff, Bool.not_eq_true] at hd
  simp [State.judgeRecord, h, hd]

theorem State.judgeRecord_of_checkMakeUp {c : LoadCause} (h : s.checkRanges x = none) (hd : s.FreshId earlier x.id)
    (hm : s.checkMakeUp x = .error c) : s.judgeRecord earlier i x = .error c := by
  simp [State.judgeRecord, h, State.duplicateFree_iff.mpr hd, hm]

theorem State.judgeRecord_room (h : s.checkRanges x = none) (hd : s.FreshId earlier x.id)
    (hm : s.checkMakeUp x = .ok m) :
    s.judgeRecord earlier i x = if tableCapacity < s.run.pieces.length + i then .error .full else .ok m := by
  simp [State.judgeRecord, h, State.duplicateFree_iff.mpr hd, hm]

/-- A record passes exactly its checks (R10). -/
theorem State.judgeRecord_ok_iff : s.judgeRecord earlier i x = .ok m ↔
    x.InRanges s.profile ∧ x.sheets ≤ s.profile.limits.accumulatorLimit ∧ s.FreshId earlier x.id ∧ s.CodesCarried x
      ∧ s.MakeUpFits x m ∧ s.run.pieces.length + i ≤ tableCapacity := by
  cases hr : s.checkRanges x with
  | some c =>
    have hn : ¬ (x.InRanges s.profile ∧ x.sheets ≤ s.profile.limits.accumulatorLimit) := by
      simp [← State.checkRanges_none_iff, hr]
    simp only [State.judgeRecord_of_checkRanges hr, reduceCtorEq, false_iff]
    exact fun h => hn ⟨h.1, h.2.1⟩
  | none =>
    obtain ⟨hx, hf⟩ := State.checkRanges_none_iff.mp hr
    by_cases hd : s.FreshId earlier x.id
    · simp only [hx, hf, hd, true_and, ← and_assoc, ← State.checkMakeUp_ok_iff hx.codes_ne_zero]
      cases hm : s.checkMakeUp x with
      | error c => simp [State.judgeRecord_of_checkMakeUp hr hd hm]
      | ok m' =>
        rw [State.judgeRecord_room hr hd hm]
        split <;> simp <;> omega
    · simp [State.judgeRecord_duplicate hr hd, hd]

/-- An amended record passes exactly its checks, those of a loaded one without the duplicate rule and the room check
(R15). -/
theorem State.judgeAmended_ok_iff : s.judgeAmended x = .ok m ↔
    x.InRanges s.profile ∧ x.sheets ≤ s.profile.limits.accumulatorLimit ∧ s.CodesCarried x ∧ s.MakeUpFits x m := by
  unfold State.judgeAmended
  cases hr : s.checkRanges x with
  | some c =>
    have hn : ¬ (x.InRanges s.profile ∧ x.sheets ≤ s.profile.limits.accumulatorLimit) := by
      simp [← State.checkRanges_none_iff, hr]
    simp only [reduceCtorEq, false_iff]
    exact fun h => hn ⟨h.1, h.2.1⟩
  | none =>
    obtain ⟨hx, hf⟩ := State.checkRanges_none_iff.mp hr
    simp only [State.checkMakeUp_ok_iff hx.codes_ne_zero, hx, hf, true_and]

theorem State.judgeAmended_of_checkRanges {c : LoadCause} (h : s.checkRanges x = some c) :
    s.judgeAmended x = .error c := by simp [State.judgeAmended, h]

theorem State.judgeAmended_of_ranges (h : s.checkRanges x = none) : s.judgeAmended x = s.checkMakeUp x := by
  simp [State.judgeAmended, h]

end

/-! ### A batch -/

/-- The judgement of one record of a batch behind those before it, where `earlier` and `i` are those of the first. -/
def State.judgeAfter (s : State) (earlier : List Nat) (i : Nat) (before : List PieceSpec) (x : PieceSpec) :
    Except LoadCause MakeUp :=
  s.judgeRecord ((before.map fun y => y.id.seq).reverse ++ earlier) (before.length + i) x

theorem State.judgeAfter_cons (s : State) (earlier : List Nat) (i : Nat) (x : PieceSpec) (before : List PieceSpec)
    (y : PieceSpec) :
    s.judgeAfter earlier i (x :: before) y = s.judgeAfter (x.id.seq :: earlier) (i + 1) before y := by
  simp [State.judgeAfter, Nat.add_assoc, Nat.add_comm 1]

theorem State.judgeBatch_nil (s : State) (earlier : List Nat) (i : Nat) : s.judgeBatch earlier i [] = .ok [] := (rfl)

theorem State.judgeBatch_cons (s : State) (earlier : List Nat) (i : Nat) (x : PieceSpec) (xs : List PieceSpec) :
    s.judgeBatch earlier i (x :: xs) =
      match s.judgeRecord earlier i x with
      | .error c => .error (i, c)
      | .ok m => match s.judgeBatch (x.id.seq :: earlier) (i + 1) xs with
        | .error e => .error e
        | .ok ms => .ok ((x, m) :: ms) := (rfl)

section
variable {s : State} {earlier : List Nat} {i n : Nat} {x : PieceSpec} {xs : List PieceSpec} {c : LoadCause}
  {m : MakeUp} {ms : List (PieceSpec × MakeUp)}

theorem State.judgeAfter_nil : s.judgeAfter earlier i [] x = s.judgeRecord earlier i x := by simp [State.judgeAfter]

theorem State.judgeBatch_of_error (h : s.judgeRecord earlier i x = .error c) :
    s.judgeBatch earlier i (x :: xs) = .error (i, c) := by simp [State.judgeBatch_cons, h]

theorem State.judgeBatch_of_ok_iff_ok (h : s.judgeRecord earlier i x = .ok m) :
    s.judgeBatch earlier i (x :: xs) = .ok ms ↔
      ∃ ms', ms = (x, m) :: ms' ∧ s.judgeBatch (x.id.seq :: earlier) (i + 1) xs = .ok ms' := by
  rw [State.judgeBatch_cons, h]
  cases s.judgeBatch (x.id.seq :: earlier) (i + 1) xs <;> simp [eq_comm]

theorem State.judgeBatch_of_ok_iff_error (h : s.judgeRecord earlier i x = .ok m) :
    s.judgeBatch earlier i (x :: xs) = .error (n, c) ↔
      s.judgeBatch (x.id.seq :: earlier) (i + 1) xs = .error (n, c) := by
  rw [State.judgeBatch_cons, h]
  cases s.judgeBatch (x.id.seq :: earlier) (i + 1) xs <;> simp

end

/-- A statement of every split of a list with a head: that of the head, and of the splits behind it. -/
theorem forall_split_cons {α : Type} (P : List α → α → Prop) (z : α) (zs : List α) :
    (∀ pre y post, z :: zs = pre ++ y :: post → P pre y) ↔
      P [] z ∧ ∀ pre y post, zs = pre ++ y :: post → P (z :: pre) y := by
  refine ⟨fun h => ⟨h [] z zs rfl, fun pre y post e => h (z :: pre) y post (by simp [e])⟩, ?_⟩
  rintro ⟨hz, hzs⟩ pre y post e
  cases pre with
  | nil =>
    obtain ⟨rfl, rfl⟩ := List.cons.inj e
    exact hz
  | cons w pre =>
    obtain ⟨rfl, rfl⟩ := List.cons.inj e
    exact hzs pre y post rfl

/-- A batch passes exactly when each of its records passes behind those before it (R10). -/
theorem State.judgeBatch_ok_iff (s : State) (earlier : List Nat) (i : Nat) (xs : List PieceSpec)
    (ms : List (PieceSpec × MakeUp)) : s.judgeBatch earlier i xs = .ok ms ↔
      ms.map Prod.fst = xs
        ∧ ∀ pre y post, ms = pre ++ y :: post → s.judgeAfter earlier i (pre.map Prod.fst) y.1 = .ok y.2 := by
  induction xs generalizing earlier i ms with
  | nil => cases ms <;> simp [State.judgeBatch_nil]
  | cons x xs ih =>
    cases ms with
    | nil =>
      cases hj : s.judgeRecord earlier i x with
      | error c => simp [State.judgeBatch_of_error hj]
      | ok m => simp [State.judgeBatch_of_ok_iff_ok hj]
    | cons z zs =>
      rw [forall_split_cons fun pre y => s.judgeAfter earlier i (pre.map Prod.fst) y.1 = .ok y.2]
      simp only [List.map_cons, List.map_nil, List.cons.injEq, State.judgeAfter_nil, State.judgeAfter_cons]
      cases hj : s.judgeRecord earlier i x with
      | error c =>
        rw [State.judgeBatch_of_error hj]
        simp only [reduceCtorEq, false_iff]
        rintro ⟨⟨rfl, -⟩, hz, -⟩
        cases hj.symm.trans hz
      | ok m =>
        rw [State.judgeBatch_of_ok_iff_ok hj]
        constructor
        · rintro ⟨ms', e, hms⟩
          obtain ⟨rfl, rfl⟩ := by simpa using e
          obtain ⟨hfst, hall⟩ := (ih _ _ _).mp hms
          exact ⟨⟨rfl, hfst⟩, hj, hall⟩
        · rintro ⟨⟨rfl, hfst⟩, hz, hall⟩
          obtain rfl : m = z.2 := by simpa using hj.symm.trans hz
          exact ⟨zs, rfl, (ih _ _ _).mpr ⟨hfst, hall⟩⟩

/-- A batch fails by its first failing record (R10). -/
theorem State.judgeBatch_error_iff (s : State) (earlier : List Nat) (i : Nat) (xs : List PieceSpec) (n : Nat)
    (c : LoadCause) : s.judgeBatch earlier i xs = .error (n, c) ↔
      ∃ pre x post, xs = pre ++ x :: post ∧ n = pre.length + i ∧ s.judgeAfter earlier i pre x = .error c
        ∧ ∀ a y b, pre = a ++ y :: b → ∃ m, s.judgeAfter earlier i a y = .ok m := by
  induction xs generalizing earlier i with
  | nil => simp [State.judgeBatch_nil]
  | cons x xs ih =>
    cases hj : s.judgeRecord earlier i x with
    | error c' =>
      rw [State.judgeBatch_of_error hj]
      constructor
      · intro h
        obtain ⟨rfl, rfl⟩ := by simpa using h
        exact ⟨[], x, xs, rfl, by simp, by rw [State.judgeAfter_nil, hj], by simp⟩
      · rintro ⟨pre, y, post, e, hn, hy, hpre⟩
        cases pre with
        | nil =>
          obtain ⟨rfl, -⟩ := by simpa using e
          rw [State.judgeAfter_nil, hj] at hy
          simpa [hn] using hy
        | cons w pre =>
          obtain ⟨rfl, -⟩ := by simpa using e
          obtain ⟨m, hm⟩ := hpre [] _ pre rfl
          rw [State.judgeAfter_nil, hj] at hm
          cases hm
    | ok m =>
      rw [State.judgeBatch_of_ok_iff_error hj, ih]
      constructor
      · rintro ⟨pre, y, post, rfl, hn, hy, hpre⟩
        refine ⟨x :: pre, y, post, rfl, by simp; omega, by rwa [State.judgeAfter_cons], ?_⟩
        refine (forall_split_cons (fun a y => ∃ m, s.judgeAfter earlier i a y = .ok m) x pre).mpr
          ⟨⟨m, by rw [State.judgeAfter_nil, hj]⟩, fun a z b e => ?_⟩
        simpa only [State.judgeAfter_cons] using hpre a z b e
      · rintro ⟨pre, y, post, e, hn, hy, hpre⟩
        cases pre with
        | nil =>
          obtain ⟨rfl, -⟩ := by simpa using e
          rw [State.judgeAfter_nil, hj] at hy
          cases hy
        | cons w pre =>
          obtain ⟨rfl, rfl⟩ := by simpa using e
          rw [State.judgeAfter_cons] at hy
          refine ⟨pre, y, post, rfl, by simp at hn; omega, hy, fun a z b e => ?_⟩
          simpa only [State.judgeAfter_cons] using hpre (x :: a) z b (by simp [e])

end Sys2Proof.Machine

open Sys2Proof Sys2Proof.Machine

/-- Settles O48: the six checks one after another, and the batch by induction on its records. -/
theorem recordPassesExactlyItsChecks : Obligations.RecordPassesExactlyItsChecks := by
  intro s
  refine ⟨fun earlier i x => ?_, fun xs => ?_⟩
  · dsimp only
    refine ⟨fun m => State.judgeRecord_ok_iff,
      fun h => State.judgeRecord_of_checkRanges (State.checkRanges_badArg h),
      fun h hf => State.judgeRecord_of_checkRanges (State.checkRanges_tooManySheets h hf),
      fun h hf hd => State.judgeRecord_duplicate (State.checkRanges_none_iff.mpr ⟨h, hf⟩) hd, ?_, ?_⟩
    · intro h hf hd hc
      exact State.judgeRecord_of_checkMakeUp (State.checkRanges_none_iff.mpr ⟨h, hf⟩) hd
        (State.checkMakeUp_unknown (PieceSpec.InRanges.codes_ne_zero h) hc)
    · intro h hf hd hc
      have hr := State.checkRanges_none_iff.mpr ⟨h, hf⟩
      have hm := State.checkMakeUp_carried (PieceSpec.InRanges.codes_ne_zero h) hc
      have hplan := State.plan_error (s := s) (x := x)
      refine ⟨fun hp => State.judgeRecord_of_checkMakeUp hr hd (hm.trans (hplan.1 hp)), fun p hp => ⟨?_, ?_, ?_⟩⟩
      · exact fun ht => State.judgeRecord_of_checkMakeUp hr hd (hm.trans ((hplan.2 p hp).1 ht))
      · exact fun ht hx => State.judgeRecord_of_checkMakeUp hr hd (hm.trans ((hplan.2 p hp).2 ht hx))
      · intro ht hx hroom
        have hok : s.checkMakeUp x = .ok ⟨p, s.massOf x, s.thicknessOf x p⟩ :=
          hm.trans (State.plan_ok_iff.mpr ⟨hp, rfl, rfl, ht, hx⟩)
        exact (State.judgeRecord_room hr hd hok).trans (if_pos (Nat.not_le.mp hroom))
  · have h (before x) : s.judgeAfter [] 1 before x =
        s.judgeRecord (before.map fun y => y.id.seq).reverse (before.length + 1) x := by simp [State.judgeAfter]
    simp only [← h]
    exact ⟨fun ms => s.judgeBatch_ok_iff [] 1 xs ms, fun i c => s.judgeBatch_error_iff [] 1 xs i c⟩
end

section
/-! The bounds of the census and of the closed-tray list (R127, R157): every operation keeps them. -/

namespace Sys2Proof.Machine

/-! ### What changes the two lists -/

@[simp] theorem onFine_length (d : List Nat) (f : CensusEntry → CensusEntry) (c : List CensusEntry) :
    (onFine d f c).length = c.length := by simp [onFine]

@[simp] theorem insertEntry_length (e : CensusEntry) (c : List CensusEntry) :
    (insertEntry e c).length = c.length + 1 := by
  induction c with
  | nil => rfl
  | cons x xs ih => unfold insertEntry; split <;> simp [ih]

section
variable (s : State)

@[simp] theorem State.onBin_closedTrays (b : Nat) (f : Bin → Bin) :
    (s.onBin b f).bins.closedTrays = s.bins.closedTrays := rfl

@[simp] theorem State.onTray_closedTrays (b : Nat) (f : Tray → Tray) :
    (s.onTray b f).bins.closedTrays = s.bins.closedTrays := rfl

@[simp] theorem State.setBinState_closedTrays (b : Nat) (st : BinState) :
    (s.setBinState b st).bins.closedTrays = s.bins.closedTrays := by simp [State.setBinState]

@[simp] theorem State.releaseTest_closedTrays (b : Nat) :
    (s.releaseTest b).bins.closedTrays = s.bins.closedTrays := by
  unfold State.releaseTest; (repeat' split) <;> simp

@[simp] theorem State.openTray_closedTrays (b : Nat) (g : TrayGroup) :
    (s.openTray b g).bins.closedTrays = s.bins.closedTrays := by simp [State.openTray]

@[simp] theorem State.dropReservation_closedTrays (tag : Nat) :
    (s.dropReservation tag).bins.closedTrays = s.bins.closedTrays := rfl

@[simp] theorem State.onReservedTray_closedTrays (b : Nat) (r : Reservation) (f : Tray → Tray) :
    (s.onReservedTray b r f).bins.closedTrays = s.bins.closedTrays := rfl

@[simp] theorem State.recordStall_closedTrays (tag : Nat) (g : TrayGroup) :
    (s.recordStall tag g).bins.closedTrays = s.bins.closedTrays := by simp [State.recordStall]

@[simp] theorem State.endStall_closedTrays : s.endStall.bins.closedTrays = s.bins.closedTrays := rfl

@[simp] theorem State.binsBack_closedTrays : s.binsBack.bins.closedTrays = s.bins.closedTrays := by
  unfold State.binsBack
  exact foldl_keeps _ (fun s => s.bins.closedTrays) (by intros; split <;> simp) _ s

/-- A delivery adds one record to the closed-tray list, or none. -/
theorem State.deliverOldest_closedTrays :
    s.deliverOldest.bins.closedTrays.length ≤ s.bins.closedTrays.length + 1 := by
  unfold State.deliverOldest
  dsimp only
  (repeat' split) <;> simp [State.deliverTray]

@[simp] theorem State.deliverOldest_census : s.deliverOldest.census = s.census := by simp

@[simp] theorem State.deliverWaiting_census (n : Nat) : (s.deliverWaiting n).census = s.census := by
  induction n generalizing s with
  | zero => rfl
  | succ n ih => unfold State.deliverWaiting; split <;> simp [ih]

@[simp] theorem State.joinDelivery_census (b : Nat) : (s.joinDelivery b).census = s.census := by
  unfold State.joinDelivery; split <;> simp

/-- Deliveries are made only while the closed-tray list has room (R157). -/
theorem State.deliverWaiting_room (n : Nat) (ht : s.bins.closedTrays.length ≤ 64) :
    (s.deliverWaiting n).bins.closedTrays.length ≤ 64 := by
  induction n generalizing s with
  | zero => exact ht
  | succ n ih =>
    unfold State.deliverWaiting
    split
    · next h =>
      have := s.deliverOldest_closedTrays
      simp only [closedTrayCapacity] at h
      exact ih _ (by omega)
    · exact ht

theorem State.joinDelivery_room (b : Nat) (ht : s.bins.closedTrays.length ≤ 64) :
    (s.joinDelivery b).bins.closedTrays.length ≤ 64 := by
  unfold State.joinDelivery
  split
  · exact State.deliverWaiting_room _ _ ht
  · exact ht

end

/-! ### Every operation keeps the bounds -/

/-- Bounds that one operation keeps are kept by a run of it over a list. -/
theorem foldl_room {α : Type} (g : State → α → State)
    (hg : ∀ s a, s.census.length ≤ 512 → s.bins.closedTrays.length ≤ 64 →
      (g s a).census.length ≤ 512 ∧ (g s a).bins.closedTrays.length ≤ 64)
    (xs : List α) (s : State) (hc : s.census.length ≤ 512) (ht : s.bins.closedTrays.length ≤ 64) :
    (xs.foldl g s).census.length ≤ 512 ∧ (xs.foldl g s).bins.closedTrays.length ≤ 64 :=
  foldl_preserves g (fun s => s.census.length ≤ 512 ∧ s.bins.closedTrays.length ≤ 64)
    (fun s a h => hg s a h.1 h.2) xs s ⟨hc, ht⟩

section
variable {s : State} (hc : s.census.length ≤ 512) (ht : s.bins.closedTrays.length ≤ 64)
include hc ht

@[simp] theorem State.areaAnswer_room (a : List Nat) :
    ((s.areaAnswer a).1).census.length ≤ 512 ∧ ((s.areaAnswer a).1).bins.closedTrays.length ≤ 64 := by
  unfold State.areaAnswer
  split
  · exact ⟨hc, ht⟩
  · exact ⟨hc, ht⟩
  · split
    · next h => split <;> exact ⟨by simpa [censusCapacity] using h, ht⟩
    · exact ⟨hc, ht⟩

@[simp] theorem State.levelAnswer_room (r : Piece) :
    ((s.levelAnswer r).1).census.length ≤ 512 ∧ ((s.levelAnswer r).1).bins.closedTrays.length ≤ 64 := by
  unfold State.levelAnswer; dsimp only; (repeat' split) <;> simp -implicitDefEqProofs [*]

@[simp] theorem State.removeAreaIfDone_room (a : List Nat) :
    (s.removeAreaIfDone a).census.length ≤ 512 ∧ (s.removeAreaIfDone a).bins.closedTrays.length ≤ 64 := by
  unfold State.removeAreaIfDone
  split
  · exact ⟨(List.length_filter_le ..).trans hc, ht⟩
  · exact ⟨hc, ht⟩

@[simp] theorem State.removeFineIfDone_room (d : List Nat) :
    (s.removeFineIfDone d).census.length ≤ 512 ∧ (s.removeFineIfDone d).bins.closedTrays.length ≤ 64 := by
  unfold State.removeFineIfDone
  split
  · exact State.removeAreaIfDone_room (s := s.onCensus _) ((List.length_filter_le ..).trans hc) ht _
  · exact ⟨hc, ht⟩

@[simp] theorem State.trayClosedReport_room (g : TrayGroup) :
    (s.trayClosedReport g).census.length ≤ 512 ∧ (s.trayClosedReport g).bins.closedTrays.length ≤ 64 := by
  unfold State.trayClosedReport; (repeat' split) <;> simp -implicitDefEqProofs [*]

@[simp] theorem State.closeIfEmptied_room (b : Nat) :
    (s.closeIfEmptied b).census.length ≤ 512 ∧ (s.closeIfEmptied b).bins.closedTrays.length ≤ 64 := by
  unfold State.closeIfEmptied; (repeat' split) <;> simp -implicitDefEqProofs [*, State.joinDelivery_room]

@[simp] theorem State.beginClosing_room (b : Nat) (reason : CloseReason) :
    (s.beginClosing b reason).census.length ≤ 512 ∧ (s.beginClosing b reason).bins.closedTrays.length ≤ 64 := by
  unfold State.beginClosing; dsimp only; (repeat' split) <;> simp -implicitDefEqProofs [*]

@[simp] theorem State.groupEnd_room (g : TrayGroup) :
    (s.groupEnd g).census.length ≤ 512 ∧ (s.groupEnd g).bins.closedTrays.length ≤ 64 := by
  unfold State.groupEnd; (repeat' split) <;> simp -implicitDefEqProofs [*]

@[simp] theorem State.closeAllTrays_room :
    (s.closeAllTrays).census.length ≤ 512 ∧ (s.closeAllTrays).bins.closedTrays.length ≤ 64 := by
  unfold State.closeAllTrays
  exact foldl_room _ (fun s x hc ht => State.beginClosing_room hc ht x _) _ s hc ht

@[simp] theorem State.applyStatusToBin_room (w : Half) (b : Nat) :
    (s.applyStatusToBin w b).census.length ≤ 512 ∧ (s.applyStatusToBin w b).bins.closedTrays.length ≤ 64 := by
  unfold State.applyStatusToBin; dsimp only; (repeat' split) <;> simp -implicitDefEqProofs [*]

@[simp] theorem State.applySorterStatus_room (w : Half) :
    (s.applySorterStatus w).census.length ≤ 512 ∧ (s.applySorterStatus w).bins.closedTrays.length ≤ 64 := by
  unfold State.applySorterStatus
  exact foldl_room _ (fun s x hc ht => State.applyStatusToBin_room hc ht w x) _ s hc ht

@[simp] theorem State.sorterLost_room :
    (s.sorterLost).census.length ≤ 512 ∧ (s.sorterLost).bins.closedTrays.length ≤ 64 := by
  unfold State.sorterLost
  exact foldl_room _ (fun s x hc ht => by split <;> simp -implicitDefEqProofs [hc, ht]) _ s hc ht

@[simp] theorem State.sorterReturned_room (w : Half) :
    (s.sorterReturned w).census.length ≤ 512 ∧ (s.sorterReturned w).bins.closedTrays.length ≤ 64 := by
  simp -implicitDefEqProofs [State.sorterReturned, *]

@[simp] theorem State.reserve_room (b tag m : Nat) :
    (s.reserve b tag m).census.length ≤ 512 ∧ (s.reserve b tag m).bins.closedTrays.length ≤ 64 := by
  unfold State.reserve; dsimp only; (repeat' split) <;> simp -implicitDefEqProofs [*]

@[simp] theorem State.releaseReservation_room (tag b : Nat) :
    (s.releaseReservation tag b).census.length ≤ 512 ∧ (s.releaseReservation tag b).bins.closedTrays.length ≤ 64 := by
  unfold State.releaseReservation; (repeat' split) <;> simp -implicitDefEqProofs [*]

@[simp] theorem State.areaTest_room (a : List Nat) (n : Nat) :
    (s.areaTest a n).census.length ≤ 512 ∧ (s.areaTest a n).bins.closedTrays.length ≤ 64 := by
  unfold State.areaTest; (repeat' split) <;> simp -implicitDefEqProofs [*]

@[simp] theorem State.countFalls_room (d : List Nat) :
    (s.countFalls d).census.length ≤ 512 ∧ (s.countFalls d).bins.closedTrays.length ≤ 64 := by
  unfold State.countFalls
  dsimp only
  have h1 : (s.onCensus (onFine d (CensusEntry.onCount (· - 1)))).census.length ≤ 512 := by simpa
  refine State.removeFineIfDone_room ?_ ?_ d <;> split <;>
    simp -implicitDefEqProofs [hc, ht]

/-- A count rises in an entry that exists, or in a new one for which there is room (R124). -/
theorem State.countRises_room (d : List Nat) (h : (findFine s.census d).isSome ∨ s.census.length < 512) :
    (s.countRises d).census.length ≤ 512 ∧ (s.countRises d).bins.closedTrays.length ≤ 64 := by
  unfold State.countRises
  apply State.areaTest_room
  · simp only [State.onCensus_census, onFine_length]
    split
    · exact hc
    · next hn => simpa using h.resolve_left hn
  · split <;> exact ht

omit hc ht in
/-- A record is counted only where its fine entry exists or the census has room for it (R124). -/
theorem State.room_of_counted {key : List Nat} {n : Nat} (h : s.classification key n = .counted) :
    (findFine s.census (s.profile.sort.finePrefix key)).isSome = true ∨ s.census.length < 512 := by
  unfold State.classification at h
  split at h
  · cases h
  · split at h
    · cases h
    · split at h
      · next hr => exact ((Bool.or_eq_true _ _).mp hr).imp_right of_decide_eq_true
      · cases h

@[simp] theorem State.classify_room (r : Piece) :
    (s.classify r).census.length ≤ 512 ∧ (s.classify r).bins.closedTrays.length ≤ 64 := by
  unfold State.classify
  dsimp only
  split
  · next h => exact State.countRises_room (by simpa) (by simpa) _ (by simpa using State.room_of_counted h)
  all_goals simp [hc, ht]

@[simp] theorem State.withdraw_room (r : Piece) :
    (s.withdraw r).census.length ≤ 512 ∧ (s.withdraw r).bins.closedTrays.length ≤ 64 := by
  unfold State.withdraw; (repeat' split) <;> simp -implicitDefEqProofs [*]

@[simp] theorem State.reclassify_room (old new : Piece) :
    (s.reclassify old new).census.length ≤ 512 ∧ (s.reclassify old new).bins.closedTrays.length ≤ 64 := by
  unfold State.reclassify; dsimp only; (repeat' split) <;> simp -implicitDefEqProofs [*]

@[simp] theorem State.finish_room (id : PieceId) (d : Disposition) :
    (s.finish id d).census.length ≤ 512 ∧ (s.finish id d).bins.closedTrays.length ≤ 64 := by
  unfold State.finish; (repeat' split) <;> simp -implicitDefEqProofs [*]

@[simp] theorem State.finishAll_room (ids : List PieceId) (c : Cause) (d : Disposition) :
    (s.finishAll ids c d).census.length ≤ 512 ∧ (s.finishAll ids c d).bins.closedTrays.length ≤ 64 := by
  unfold State.finishAll
  exact foldl_room _ (fun s x hc ht => by simp -implicitDefEqProofs [hc, ht]) _ s hc ht

@[simp] theorem State.closeNow_room :
    (s.closeNow).census.length ≤ 512 ∧ (s.closeNow).bins.closedTrays.length ≤ 64 := by
  simp -implicitDefEqProofs [State.closeNow, *]

@[simp] theorem State.drainTest_room :
    (s.drainTest).census.length ≤ 512 ∧ (s.drainTest).bins.closedTrays.length ≤ 64 := by
  unfold State.drainTest; (repeat' split) <;> simp -implicitDefEqProofs [*]

/-! The gate. -/

@[simp] theorem State.openOrStall_room (g : TrayGroup) (tag m : Nat) :
    ((s.openOrStall g tag m).1).census.length ≤ 512 ∧ ((s.openOrStall g tag m).1).bins.closedTrays.length ≤ 64 := by
  unfold State.openOrStall; (repeat' split) <;> simp -implicitDefEqProofs [*]

@[simp] theorem State.placeInTray_room (g : TrayGroup) (tag m : Nat) :
    ((s.placeInTray g tag m).1).census.length ≤ 512 ∧ ((s.placeInTray g tag m).1).bins.closedTrays.length ≤ 64 := by
  unfold State.placeInTray; (repeat' split) <;> simp -implicitDefEqProofs [*]

@[simp] theorem State.gateDecision_room (tag : Nat) (r : Piece) :
    ((s.gateDecision tag r).1).census.length ≤ 512 ∧ ((s.gateDecision tag r).1).bins.closedTrays.length ≤ 64 := by
  unfold State.gateDecision; (repeat' split) <;> simp -implicitDefEqProofs [*]

@[simp] theorem State.decideEntry_room (e : TrackEntry) :
    ((s.decideEntry e).1).census.length ≤ 512 ∧ ((s.decideEntry e).1).bins.closedTrays.length ≤ 64 := by
  unfold State.decideEntry; (repeat' split) <;> simp -implicitDefEqProofs [*]

omit hc ht in
@[simp] theorem State.handOn_room (tags : List Nat) (s : State) (hc : s.census.length ≤ 512)
    (ht : s.bins.closedTrays.length ≤ 64) :
    (s.handOn tags).census.length ≤ 512 ∧ (s.handOn tags).bins.closedTrays.length ≤ 64 := by
  induction tags generalizing s with
  | nil => exact ⟨hc, ht⟩
  | cons tag tags ih => unfold State.handOn; dsimp only; (repeat' split) <;> simp -implicitDefEqProofs [*]

@[simp] theorem State.levelAsked_room (e : TrackEntry) :
    (s.levelAsked e).census.length ≤ 512 ∧ (s.levelAsked e).bins.closedTrays.length ≤ 64 := by
  unfold State.levelAsked; (repeat' split) <;> simp -implicitDefEqProofs [*]

@[simp] theorem State.reevaluate_room (announce : Bool) :
    ((s.reevaluate announce).1).census.length ≤ 512 ∧ ((s.reevaluate announce).1).bins.closedTrays.length ≤ 64 := by
  unfold State.reevaluate; dsimp only; (repeat' split) <;> simp -implicitDefEqProofs [*]

@[simp] theorem State.afterEvent_room (before : State) :
    (s.afterEvent before).census.length ≤ 512 ∧ (s.afterEvent before).bins.closedTrays.length ≤ 64 := by
  unfold State.afterEvent; (repeat' split) <;> simp -implicitDefEqProofs [*]

@[simp] theorem State.decideAtGate_room (tag : Nat) :
    ((s.decideAtGate tag).1).census.length ≤ 512 ∧ ((s.decideAtGate tag).1).bins.closedTrays.length ≤ 64 := by
  unfold State.decideAtGate; dsimp only; (repeat' split) <;> simp -implicitDefEqProofs [*]

@[simp] theorem State.reachGate_room (tag : Nat) :
    ((s.reachGate tag).1).census.length ≤ 512 ∧ ((s.reachGate tag).1).bins.closedTrays.length ≤ 64 := by
  unfold State.reachGate; (repeat' split) <;> simp -implicitDefEqProofs [*]

@[simp] theorem State.repeatGate_room (e : TrackEntry) :
    ((s.repeatGate e).1).census.length ≤ 512 ∧ ((s.repeatGate e).1).bins.closedTrays.length ≤ 64 := by
  unfold State.repeatGate; (repeat' split) <;> simp -implicitDefEqProofs [*]

@[simp] theorem State.exitIntoBin_room (tag b : Nat) (r : Piece) :
    (s.exitIntoBin tag b r).census.length ≤ 512 ∧ (s.exitIntoBin tag b r).bins.closedTrays.length ≤ 64 := by
  unfold State.exitIntoBin; (repeat' split) <;> simp -implicitDefEqProofs [*]

@[simp] theorem State.exitDiverted_room (tag : Nat) (id : PieceId) (d : GateDecision) :
    (s.exitDiverted tag id d).census.length ≤ 512 ∧ (s.exitDiverted tag id d).bins.closedTrays.length ≤ 64 := by
  unfold State.exitDiverted; (repeat' split) <;> simp -implicitDefEqProofs [*]

@[simp] theorem State.applyExit_room (e : TrackEntry) (d reported : GateDecision) :
    (s.applyExit e d reported).census.length ≤ 512 ∧ (s.applyExit e d reported).bins.closedTrays.length ≤ 64 := by
  unfold State.applyExit; (repeat' split) <;> simp -implicitDefEqProofs [*]

@[simp] theorem State.exitReport_room (e : TrackEntry) (d reported : GateDecision) :
    (s.exitReport e d reported).census.length ≤ 512 ∧ (s.exitReport e d reported).bins.closedTrays.length ≤ 64 := by
  simp -implicitDefEqProofs [State.exitReport, *]

@[simp] theorem State.purgeEntry_room (e : TrackEntry) :
    (s.purgeEntry e).census.length ≤ 512 ∧ (s.purgeEntry e).bins.closedTrays.length ≤ 64 := by
  unfold State.purgeEntry; dsimp only; (repeat' split) <;> simp -implicitDefEqProofs [*]

@[simp] theorem State.purgeEntries_room (es : List TrackEntry) :
    (s.purgeEntries es).census.length ≤ 512 ∧ (s.purgeEntries es).bins.closedTrays.length ≤ 64 := by
  unfold State.purgeEntries
  exact foldl_room _ (fun s x hc ht => State.purgeEntry_room hc ht x) _ s hc ht

/-! Collations. -/

@[simp] theorem State.startSheet_room (sh : SheetReport) :
    ((s.startSheet sh).1).census.length ≤ 512 ∧ ((s.startSheet sh).1).bins.closedTrays.length ≤ 64 := by
  unfold State.startSheet; (repeat' split) <;> simp -implicitDefEqProofs [*]

@[simp] theorem State.judgeSheet_room (sh : SheetReport) :
    ((s.judgeSheet sh).1).census.length ≤ 512 ∧ ((s.judgeSheet sh).1).bins.closedTrays.length ≤ 64 := by
  unfold State.judgeSheet; (repeat' split) <;> simp -implicitDefEqProofs [*]

@[simp] theorem State.emptyReady_room :
    (s.emptyReady).census.length ≤ 512 ∧ (s.emptyReady).bins.closedTrays.length ≤ 64 := by
  simp -implicitDefEqProofs [State.emptyReady, *]

@[simp] theorem State.foldPiece_room (r : Piece) :
    (s.foldPiece r).census.length ≤ 512 ∧ (s.foldPiece r).bins.closedTrays.length ≤ 64 := by
  simp -implicitDefEqProofs [State.foldPiece, *]

@[simp] theorem State.releaseClean_room (r : Piece) (n : Nat) :
    ((s.releaseClean r n).1).census.length ≤ 512 ∧ ((s.releaseClean r n).1).bins.closedTrays.length ≤ 64 := by
  unfold State.releaseClean; (repeat' split) <;> simp -implicitDefEqProofs [*]

@[simp] theorem State.releaseVerdict_room (c : Collation) :
    ((s.releaseVerdict c).1).census.length ≤ 512 ∧ ((s.releaseVerdict c).1).bins.closedTrays.length ≤ 64 := by
  unfold State.releaseVerdict; (repeat' split) <;> simp -implicitDefEqProofs [*]

@[simp] theorem State.resyncTo_room (id : PieceId) :
    (s.resyncTo id).census.length ≤ 512 ∧ (s.resyncTo id).bins.closedTrays.length ≤ 64 := by
  simp -implicitDefEqProofs [State.resyncTo, *]

@[simp] theorem State.purgeCollation_room (c : Option Collation) :
    (s.purgeCollation c).census.length ≤ 512 ∧ (s.purgeCollation c).bins.closedTrays.length ≤ 64 := by
  unfold State.purgeCollation; (repeat' split) <;> simp -implicitDefEqProofs [*]

@[simp] theorem State.purgeCollations_room :
    (s.purgeCollations).census.length ≤ 512 ∧ (s.purgeCollations).bins.closedTrays.length ≤ 64 := by
  simp -implicitDefEqProofs [State.purgeCollations, *]

@[simp] theorem State.purgeAll_room :
    (s.purgeAll).census.length ≤ 512 ∧ (s.purgeAll).bins.closedTrays.length ≤ 64 := by
  have h := State.purgeEntries_room (s := s.endStall) (by simpa) (by simpa) s.track.entries
  have h' := State.purgeCollations_room h.1 h.2
  simp -implicitDefEqProofs [State.purgeAll, h'.1, h'.2]

/-! Runs, trays and the head line. -/

@[simp] theorem State.closeRun_room :
    (s.closeRun).census.length ≤ 512 ∧ (s.closeRun).bins.closedTrays.length ≤ 64 := by
  unfold State.closeRun; dsimp only; (repeat' split) <;> simp -implicitDefEqProofs [*]

@[simp] theorem State.appendPiece_room (x : PieceSpec × MakeUp) :
    (s.appendPiece x).census.length ≤ 512 ∧ (s.appendPiece x).bins.closedTrays.length ≤ 64 := by
  simp -implicitDefEqProofs [State.appendPiece, *]

@[simp] theorem State.appendAll_room (xs : List (PieceSpec × MakeUp)) :
    (s.appendAll xs).census.length ≤ 512 ∧ (s.appendAll xs).bins.closedTrays.length ≤ 64 := by
  unfold State.appendAll
  exact foldl_room _ (fun s x hc ht => State.appendPiece_room hc ht x) _ s hc ht

@[simp] theorem State.amend_room (a : Amendment) (m : MakeUp) (r : Piece) :
    (s.amend a m r).census.length ≤ 512 ∧ (s.amend a m r).bins.closedTrays.length ≤ 64 := by
  unfold State.amend; dsimp only; (repeat' split) <;> simp -implicitDefEqProofs [*]

@[simp] theorem State.setCancelPending_room (id : PieceId) :
    (s.setCancelPending id).census.length ≤ 512 ∧ (s.setCancelPending id).bins.closedTrays.length ≤ 64 := by
  unfold State.setCancelPending; dsimp only; (repeat' split) <;> simp -implicitDefEqProofs [*]

@[simp] theorem State.ackTrays_room (n : Nat) :
    (s.ackTrays n).census.length ≤ 512 ∧ (s.ackTrays n).bins.closedTrays.length ≤ 64 := by
  unfold State.ackTrays
  refine State.reevaluate_room (by simpa) (State.deliverWaiting_room _ _ ?_) true
  simp; omega

@[simp] theorem State.sorterReport_room (change : HeadChange) (w : Option Half) :
    (s.sorterReport change w).census.length ≤ 512 ∧ (s.sorterReport change w).bins.closedTrays.length ≤ 64 := by
  unfold State.sorterReport; (repeat' split) <;> simp -implicitDefEqProofs [*]

@[simp] theorem State.tellOwner_room (change : HeadChange) (a : Nat) :
    (s.tellOwner change a).census.length ≤ 512 ∧ (s.tellOwner change a).bins.closedTrays.length ≤ 64 := by
  unfold State.tellOwner; (repeat' split) <;> simp -implicitDefEqProofs [*]

@[simp] theorem State.dispatch_room (change : HeadChange) (a : Nat) :
    (s.dispatch change a).census.length ≤ 512 ∧ (s.dispatch change a).bins.closedTrays.length ≤ 64 := by
  simp -implicitDefEqProofs [State.dispatch, *]

@[simp] theorem State.silence_room (a : Nat) :
    (s.silence a).census.length ≤ 512 ∧ (s.silence a).bins.closedTrays.length ≤ 64 := by
  simp -implicitDefEqProofs [State.silence, *]

@[simp] theorem State.pollFailed_room (a : Nat) :
    (s.pollFailed a).census.length ≤ 512 ∧ (s.pollFailed a).bins.closedTrays.length ≤ 64 := by
  unfold State.pollFailed; dsimp only; (repeat' split) <;> simp -implicitDefEqProofs [*]

@[simp] theorem State.statusRead_room (a : Nat) (w : Half) :
    (s.statusRead a w).census.length ≤ 512 ∧ (s.statusRead a w).bins.closedTrays.length ≤ 64 := by
  unfold State.statusRead; dsimp only; (repeat' split) <;> simp -implicitDefEqProofs [*]

@[simp] theorem State.statusPollEnd_room (a : Nat) (w : Option Half) :
    (s.statusPollEnd a w).census.length ≤ 512 ∧ (s.statusPollEnd a w).bins.closedTrays.length ≤ 64 := by
  unfold State.statusPollEnd; (repeat' split) <;> simp -implicitDefEqProofs [*]

@[simp] theorem State.identify_room (a : Nat) (w : Half) :
    (s.identify a w).census.length ≤ 512 ∧ (s.identify a w).bins.closedTrays.length ≤ 64 := by
  unfold State.identify; dsimp only; (repeat' split) <;> simp -implicitDefEqProofs [*]

@[simp] theorem State.identityReadEnd_room (a : Nat) (w : Option Half) :
    (s.identityReadEnd a w).census.length ≤ 512 ∧ (s.identityReadEnd a w).bins.closedTrays.length ≤ 64 := by
  unfold State.identityReadEnd; (repeat' split) <;> simp -implicitDefEqProofs [*]

@[simp] theorem State.endOf_room (t : Transaction) (o : LineOutcome) (data : Option Half) :
    (s.endOf t o data).census.length ≤ 512 ∧ (s.endOf t o data).bins.closedTrays.length ≤ 64 := by
  unfold State.endOf; (repeat' split) <;> simp -implicitDefEqProofs [*]

@[simp] theorem State.endTransaction_room (t : Transaction) (o : LineOutcome) (data : Option Half) :
    (s.endTransaction t o data).census.length ≤ 512 ∧ (s.endTransaction t o data).bins.closedTrays.length ≤ 64 := by
  simp -implicitDefEqProofs [State.endTransaction, *]

@[simp] theorem State.headReply_room (bytes : List Byte) :
    (s.headReply bytes).census.length ≤ 512 ∧ (s.headReply bytes).bins.closedTrays.length ≤ 64 := by
  unfold State.headReply; (repeat' split) <;> simp -implicitDefEqProofs [*]

@[simp] theorem State.windowExpiry_room :
    (s.windowExpiry).census.length ≤ 512 ∧ (s.windowExpiry).bins.closedTrays.length ≤ 64 := by
  unfold State.windowExpiry; (repeat' split) <;> simp -implicitDefEqProofs [*]

@[simp] theorem State.sorterMoved_room (old : Option Nat) :
    (s.sorterMoved old).census.length ≤ 512 ∧ (s.sorterMoved old).bins.closedTrays.length ≤ 64 := by
  unfold State.sorterMoved; (repeat' split) <;> simp -implicitDefEqProofs [*]

@[simp] theorem State.withHeadMap_room (m : Vector HeadKind 16) (enable : Bool) :
    (s.withHeadMap m enable).census.length ≤ 512 ∧ (s.withHeadMap m enable).bins.closedTrays.length ≤ 64 := by
  unfold State.withHeadMap; dsimp only; (repeat' split) <;> simp -implicitDefEqProofs [*]

end

end Sys2Proof.Machine
end

section
/-! Every command keeps the tables (R5, R12, R127, R157), and the settings are written by their own requests only. -/

namespace Sys2Proof.Machine

/-! ### Transfers and frames that are no request -/

section
variable (s : State) (p : Port) (bytes : List Byte) (n : Nat)

@[simp] theorem State.joinIntake_frame :
    (s.joinIntake p bytes).run = s.run ∧ (s.joinIntake p bytes).census = s.census
    ∧ (s.joinIntake p bytes).bins = s.bins ∧ (s.joinIntake p bytes).heads = s.heads
    ∧ (s.joinIntake p bytes).settings = s.settings := by
  unfold State.joinIntake; dsimp only; split <;> simp

@[simp] theorem State.shiftOut_frame :
    (s.shiftOut p bytes).run = s.run ∧ (s.shiftOut p bytes).census = s.census
    ∧ (s.shiftOut p bytes).bins = s.bins ∧ (s.shiftOut p bytes).heads = s.heads
    ∧ (s.shiftOut p bytes).settings = s.settings := by
  simp [State.shiftOut]

@[simp] theorem State.sendTransfer_frame :
    (s.sendTransfer p bytes).run = s.run ∧ (s.sendTransfer p bytes).census = s.census
    ∧ (s.sendTransfer p bytes).bins = s.bins ∧ (s.sendTransfer p bytes).heads = s.heads
    ∧ (s.sendTransfer p bytes).settings = s.settings := by
  unfold State.sendTransfer; dsimp only; split <;> simp

@[simp] theorem State.fetchTransfer_frame :
    (s.fetchTransfer p n).run = s.run ∧ (s.fetchTransfer p n).census = s.census
    ∧ (s.fetchTransfer p n).bins = s.bins ∧ (s.fetchTransfer p n).heads = s.heads
    ∧ (s.fetchTransfer p n).settings = s.settings := by
  unfold State.fetchTransfer; dsimp only; (repeat' split) <;> simp

@[simp] theorem State.answerBroken_frame :
    (s.answerBroken p).run = s.run ∧ (s.answerBroken p).census = s.census
    ∧ (s.answerBroken p).bins = s.bins ∧ (s.answerBroken p).heads = s.heads
    ∧ (s.answerBroken p).settings = s.settings := by
  unfold State.answerBroken; (repeat' split) <;> simp

@[simp] theorem State.answerUnknown_frame :
    (s.answerUnknown p).run = s.run ∧ (s.answerUnknown p).census = s.census
    ∧ (s.answerUnknown p).bins = s.bins ∧ (s.answerUnknown p).heads = s.heads
    ∧ (s.answerUnknown p).settings = s.settings := by
  unfold State.answerUnknown; (repeat' split) <;> simp

end

/-- The outcome of a command that is no request: nothing but the ports, the end of a save, the end of a transaction on
the head line, or a power-on event. -/
theorem exec_event_cases {c : Instr} {s t : State} (h : exec c s = .next t)
    (hc : ¬ ∃ k p, c = RequestKind.command k p) :
    (t.run = s.run ∧ t.census = s.census ∧ t.bins = s.bins ∧ t.heads = s.heads ∧ t.settings = s.settings)
    ∨ (∃ r, c = .saveEnd r ∧ t = (s.endSave r).settle) ∨ (c = .powerOnReset ∧ t = s.powerOnReset)
    ∨ (c = .powerOnLoadEnd ∧ t = s.loadEnd) ∨ (∃ bs, c = .headReply bs ∧ t = s.headReply bs)
    ∨ (c = .replyWindowExpiry ∧ t = s.windowExpiry) := by
  rcases command_or_event c with ⟨k, p, rfl⟩ | ⟨p, bs, rfl⟩ | ⟨p, n, rfl⟩ | ⟨p, code, n, rfl⟩ | ⟨p, rfl⟩ | ⟨p, rfl⟩
    | ⟨r, rfl⟩ | rfl | rfl | ⟨bs, rfl⟩ | rfl
  · exact absurd ⟨k, p, rfl⟩ hc
  all_goals simp only [exec, execSend, execFetch, execStatusTransfer, execBadFrame, execUnknownRequestKind, execSaveEnd,
    execPowerOnReset, execPowerOnLoadEnd, execHeadReply, execReplyWindowExpiry] at h
  · cases h; exact .inl (by simp)
  · cases h; exact .inl (by simp)
  · split at h <;> cases h <;> exact .inl (by simp [State.statusTransfer])
  · cases h; exact .inl (by simp)
  · cases h; exact .inl (by simp)
  · cases h; exact .inr (.inl ⟨r, rfl, rfl⟩)
  · cases h; exact .inr (.inr (.inl ⟨rfl, rfl⟩))
  · cases h; exact .inr (.inr (.inr (.inl ⟨rfl, rfl⟩)))
  · split at h <;> cases h
    · exact .inr (.inr (.inr (.inr (.inl ⟨bs, rfl, rfl⟩))))
    · exact .inl (by simp)
  · cases h; exact .inr (.inr (.inr (.inr (.inr ⟨rfl, rfl⟩))))

/-- A property of the tables that every request body, the end of a transaction and the power-on values keep is kept by
every command. -/
theorem exec_keeps_tables {P : State → Prop}
    (hP : ∀ {s t : State}, t.run = s.run → t.census = s.census → t.bins = s.bins → P s → P t)
    (hbody : ∀ (k : RequestKind) (p : Port) (pl : List Byte) (s : State), P s → P (k.body p pl s).1)
    (hend : ∀ (x : Transaction) (o : LineOutcome) (d : Option Half) (s : State), P s → P (s.endTransaction x o d))
    (hreset : ∀ (f : Profile) (fl : FlagSet) (s : State), P (s.powerOnValues f fl))
    {c : Instr} {s t : State} (h : exec c s = .next t) (hs : P s) : P t := by
  by_cases hc : ∃ k p, c = RequestKind.command k p
  · obtain ⟨k, p, rfl⟩ := hc
    rw [exec_command] at h
    cases h
    have hdrop : P (s.dropFrame p) := hP (by simp) (by simp) (by simp) hs
    rcases serve_cases (body := k.body p) k p s with h | ⟨f, -, ⟨r, h⟩ | h⟩ <;> rw [h]
    · exact hs
    · exact hP (by simp) (by simp) (by simp) hdrop
    · exact hP (by simp) (by simp) (by simp) (hbody k p (framePayload f) _ hdrop)
  · rcases exec_event_cases h hc with ⟨hr, hcen, hb, -⟩ | ⟨r, -, rfl⟩ | ⟨-, rfl⟩ | ⟨-, rfl⟩ | ⟨bs, -, rfl⟩ | ⟨-, rfl⟩
    · exact hP hr hcen hb hs
    · exact hP (by simp) (by simp) (by simp) hs
    · exact hP (s := s.powerOnValues s.profile 0) (by simp [State.powerOnReset]) (by simp [State.powerOnReset])
        (by simp [State.powerOnReset]) (hreset _ _ _)
    · unfold State.loadEnd
      split
      · exact hP (s := s.powerOnValues (loadedProfile s.settings.stored) (loadFlags s.settings.stored)) (by simp)
          (by simp) (by simp) (hreset _ _ _)
      · exact hs
    · unfold State.headReply
      split
      · exact hs
      · exact hend _ _ _ _ hs
    · unfold State.windowExpiry
      split
      · exact hs
      · exact hend _ _ _ _ hs

/-! ### Request bodies that change the tables -/

section
variable {s : State} (hc : s.census.length ≤ 512) (ht : s.bins.closedTrays.length ≤ 64) (pl : List Byte)
include hc ht

theorem sheetBody_room : (sheetBody pl s).1.census.length ≤ 512 ∧ (sheetBody pl s).1.bins.closedTrays.length ≤ 64 := by
  unfold sheetBody; (repeat' split) <;> simp -implicitDefEqProofs [*]

theorem releaseBody_room :
    (releaseBody pl s).1.census.length ≤ 512 ∧ (releaseBody pl s).1.bins.closedTrays.length ≤ 64 := by
  unfold releaseBody; dsimp only; (repeat' split) <;> simp -implicitDefEqProofs [*]

theorem resyncBody_room :
    (resyncBody pl s).1.census.length ≤ 512 ∧ (resyncBody pl s).1.bins.closedTrays.length ≤ 64 := by
  unfold resyncBody; (repeat' split) <;> simp -implicitDefEqProofs [*]

theorem atGateBody_room :
    (atGateBody pl s).1.census.length ≤ 512 ∧ (atGateBody pl s).1.bins.closedTrays.length ≤ 64 := by
  unfold atGateBody; dsimp only; (repeat' split) <;> simp -implicitDefEqProofs [*]

theorem exitedBody_room :
    (exitedBody pl s).1.census.length ≤ 512 ∧ (exitedBody pl s).1.bins.closedTrays.length ≤ 64 := by
  unfold exitedBody; dsimp only; (repeat' split) <;> simp -implicitDefEqProofs [*]

theorem purgeBody_room : (purgeBody pl s).1.census.length ≤ 512 ∧ (purgeBody pl s).1.bins.closedTrays.length ≤ 64 := by
  unfold purgeBody; split <;> simp -implicitDefEqProofs [*]

theorem openRunBody_room :
    (openRunBody pl s).1.census.length ≤ 512 ∧ (openRunBody pl s).1.bins.closedTrays.length ≤ 64 := by
  unfold openRunBody State.openRunWith; (repeat' split) <;> simp [*]

theorem closeRunBody_room :
    (closeRunBody pl s).1.census.length ≤ 512 ∧ (closeRunBody pl s).1.bins.closedTrays.length ≤ 64 := by
  unfold closeRunBody; dsimp only; split <;> simp -implicitDefEqProofs [*]

theorem loadPiecesBody_room :
    (loadPiecesBody pl s).1.census.length ≤ 512 ∧ (loadPiecesBody pl s).1.bins.closedTrays.length ≤ 64 := by
  unfold loadPiecesBody; (repeat' split) <;> simp -implicitDefEqProofs [*]

theorem amendPieceBody_room :
    (amendPieceBody pl s).1.census.length ≤ 512 ∧ (amendPieceBody pl s).1.bins.closedTrays.length ≤ 64 := by
  unfold amendPieceBody; dsimp only; (repeat' split) <;> simp -implicitDefEqProofs [*]

theorem cancelPieceBody_room :
    (cancelPieceBody pl s).1.census.length ≤ 512 ∧ (cancelPieceBody pl s).1.bins.closedTrays.length ≤ 64 := by
  unfold cancelPieceBody; (repeat' split) <;> simp -implicitDefEqProofs [*]

theorem ackTraysBody_room :
    (ackTraysBody pl s).1.census.length ≤ 512 ∧ (ackTraysBody pl s).1.bins.closedTrays.length ≤ 64 := by
  unfold ackTraysBody; dsimp only; split <;> simp -implicitDefEqProofs [*]

theorem setHeadMapBody_room :
    (setHeadMapBody pl s).1.census.length ≤ 512 ∧ (setHeadMapBody pl s).1.bins.closedTrays.length ≤ 64 := by
  unfold setHeadMapBody; dsimp only; (repeat' split) <;> simp -implicitDefEqProofs [*]

end

/-! ### Loading a batch -/

/-- A list is without duplicates when none of its members occurs before itself. -/
theorem nodup_of_forall_split {α β : Type} {f : α → β} {l : List α}
    (h : ∀ pre y post, l = pre ++ y :: post → f y ∉ pre.map f) : (l.map f).Nodup := by
  induction l using List.reverseRecOn with
  | nil => simp
  | append_singleton l x ih =>
    have hl := ih fun pre y post e => h pre y (post ++ [x]) (by simp [e])
    have hx := h l x [] rfl
    rw [List.map_append, List.nodup_append]
    refine ⟨hl, by simp, fun a ha b hb => ?_⟩
    simp only [List.map_cons, List.map_nil, List.mem_singleton] at hb
    rintro rfl
    exact hx (hb ▸ ha)

section
variable {s : State} {xs : List PieceSpec} {ms : List (PieceSpec × MakeUp)}

/-- A batch that passes has room in the piece table (R5, R10). -/
theorem State.judgeBatch_room (h : s.judgeBatch [] 1 xs = .ok ms) (hp : s.run.pieces.length ≤ tableCapacity) :
    s.run.pieces.length + ms.length ≤ tableCapacity := by
  obtain ⟨-, hall⟩ := (s.judgeBatch_ok_iff ..).mp h
  rcases List.eq_nil_or_concat ms with rfl | ⟨init, y, rfl⟩
  · simpa using hp
  · obtain ⟨-, -, -, -, -, hroom⟩ := State.judgeRecord_ok_iff.mp (hall init y [] (by simp))
    simp at hroom ⊢
    omega

/-- The names of a batch that passes are distinct, and new to the table (R12). -/
theorem State.judgeBatch_newIds (h : s.judgeBatch [] 1 xs = .ok ms) :
    (ms.map fun x => x.1.id).Nodup ∧ ∀ y ∈ ms, ∀ r ∈ s.run.pieces, r.id ≠ y.1.id := by
  obtain ⟨-, hall⟩ := (s.judgeBatch_ok_iff ..).mp h
  have hfresh : ∀ pre y post, ms = pre ++ y :: post → s.FreshId ((pre.map fun x => x.1.id.seq).reverse) y.1.id := by
    intro pre y post e
    obtain ⟨-, -, hf, -⟩ := State.judgeRecord_ok_iff.mp (hall pre y post e)
    simpa [Function.comp_def] using hf
  constructor
  · have hseq : (ms.map fun x => x.1.id.seq).Nodup := nodup_of_forall_split fun pre y post e => by
      simpa using (hfresh pre y post e).1
    refine List.Nodup.of_map PieceId.seq ?_
    simpa [Function.comp_def] using hseq
  · intro y hy r hr hid
    obtain ⟨pre, post, e⟩ := List.append_of_mem hy
    have hlt := ((hfresh pre y post e).2 r hr (by rw [← hid])).2
    rw [hid] at hlt
    exact lt_irrefl _ hlt

/-- Behind a table of distinct records, a batch that passes leaves the names distinct (R12). -/
theorem State.judgeBatch_distinct (h : s.judgeBatch [] 1 xs = .ok ms) (hs : PiecesDistinct s) :
    (s.run.pieces.map Piece.id ++ ms.map fun x => x.1.id).Nodup := by
  obtain ⟨hnodup, hnew⟩ := State.judgeBatch_newIds h
  refine List.nodup_append.mpr ⟨hs, hnodup, ?_⟩
  rintro a ha b hb rfl
  obtain ⟨r, hr, rfl⟩ := List.mem_map.mp ha
  obtain ⟨y, hy, hid⟩ := List.mem_map.mp hb
  exact hnew y hy r hr hid.symm

end

/-! ### Run reset -/

@[simp] theorem State.clearBin_closedTrays (b : Nat) (s : State) :
    (s.clearBin b).bins.closedTrays = s.bins.closedTrays := by
  unfold State.clearBin; split <;> simp

@[simp] theorem State.testCleared_closedTrays (b : Nat) (s : State) :
    (s.testCleared b).bins.closedTrays = s.bins.closedTrays := by
  unfold State.testCleared; split <;> simp

@[simp] theorem State.resetBins_closedTrays (s : State) : s.resetBins.bins.closedTrays = [] := by
  have h1 (s : State) : s.clearBins.bins.closedTrays = s.bins.closedTrays := by
    unfold State.clearBins
    exact foldl_keeps _ (fun s => s.bins.closedTrays) (by simp) _ s
  have h2 (s : State) : s.testAllCleared.bins.closedTrays = s.bins.closedTrays := by
    unfold State.testAllCleared
    exact foldl_keeps _ (fun s => s.bins.closedTrays) (by simp) _ s
  simp [State.resetBins, h1, h2, BinManager.dropTrays]

theorem State.runReset_tables (s : State) :
    s.runReset.run = { s.run with runState := .closed, pieces := [], outcomes := [] } ∧ s.runReset.census = []
      ∧ s.runReset.bins.closedTrays = [] := by
  unfold State.runReset State.resetRunTable
  split <;> simp

/-! ### Every request body -/

/-- Every request body keeps the bounds of the census and of the closed-tray list (R127, R157). -/
theorem RequestKind.body_room (k : RequestKind) (p : Port) (pl : List Byte) (s : State) (hc : s.census.length ≤ 512)
    (ht : s.bins.closedTrays.length ≤ 64) :
    (k.body p pl s).1.census.length ≤ 512 ∧ (k.body p pl s).1.bins.closedTrays.length ≤ 64 := by
  cases k
  case sheet => exact sheetBody_room hc ht pl
  case release => exact releaseBody_room hc ht pl
  case resync => exact resyncBody_room hc ht pl
  case atGate => exact atGateBody_room hc ht pl
  case exited => exact exitedBody_room hc ht pl
  case purge => exact purgeBody_room hc ht pl
  case openRun => exact openRunBody_room hc ht pl
  case closeRun => exact closeRunBody_room hc ht pl
  case loadPieces => exact loadPiecesBody_room hc ht pl
  case amendPiece => exact amendPieceBody_room hc ht pl
  case cancelPiece => exact cancelPieceBody_room hc ht pl
  case ackTrays => exact ackTraysBody_room hc ht pl
  case setHeadMap => exact setHeadMapBody_room hc ht pl
  case runReset =>
    simp only [RequestKind.body, runResetBody]
    split
    · simp [s.runReset_tables]
    · exact ⟨hc, ht⟩
  all_goals simp [RequestKind.body, readBody, hc, ht]

/-- Every request body but those of five requests keeps the names of the records, the run number and the line state. -/
theorem RequestKind.body_roll (k : RequestKind) (p : Port) (pl : List Byte) (s : State)
    (hk : k ∉ [.lineState, .openRun, .loadPieces, .ackOutcomes, .runReset]) :
    (k.body p pl s).1.run.roll = s.run.roll := by
  cases k
  case lineState | openRun | loadPieces | ackOutcomes | runReset => exact absurd hk (by decide)
  case sheet => simp only [RequestKind.body, sheetBody]; (repeat' split) <;> simp
  case release => simp only [RequestKind.body, releaseBody]; (repeat' split) <;> simp
  case folded => simp only [RequestKind.body, foldedBody]; (repeat' split) <;> simp
  case pullResult => simp only [RequestKind.body, pullResultBody]; (repeat' split) <;> simp
  case enveloped => simp only [RequestKind.body, envelopedBody]; (repeat' split) <;> simp
  case weighed => simp only [RequestKind.body, weighedBody]; (repeat' split) <;> simp
  case exited => simp only [RequestKind.body, exitedBody]; (repeat' split) <;> simp
  case purge => simp only [RequestKind.body, purgeBody]; split <;> simp
  case resync => simp only [RequestKind.body, resyncBody]; (repeat' split) <;> simp
  case closeRun => simp only [RequestKind.body, closeRunBody]; split <;> simp
  case amendPiece => simp only [RequestKind.body, amendPieceBody]; (repeat' split) <;> simp
  case cancelPiece => simp only [RequestKind.body, cancelPieceBody]; (repeat' split) <;> simp
  all_goals simp [RequestKind.body, readBody]

/-- What a request body makes of the names of the records: it keeps them, or removes some of them (R22, R25), or
appends those of a batch that has passed its checks (R14). -/
theorem RequestKind.body_names (k : RequestKind) (p : Port) (pl : List Byte) (s : State) :
    List.Sublist ((k.body p pl s).1.run.pieces.map Piece.id) (s.run.pieces.map Piece.id)
    ∨ ∃ xs ms, s.judgeBatch [] 1 xs = .ok ms
      ∧ (k.body p pl s).1.run.pieces.map Piece.id = s.run.pieces.map Piece.id ++ ms.map fun x => x.1.id := by
  by_cases hk : k ∈ [.lineState, .openRun, .loadPieces, .ackOutcomes, .runReset]
  · simp only [List.mem_cons, List.not_mem_nil, or_false] at hk
    rcases hk with rfl | rfl | rfl | rfl | rfl
    · left
      simp only [RequestKind.body, lineStateBody]
      split <;> simp
    · left
      simp only [RequestKind.body, openRunBody]
      (repeat' split) <;> simp [State.openRunWith]
    · simp only [RequestKind.body, loadPiecesBody]
      split
      · simp
      · next xs _ =>
        split
        · simp
        · split
          · simp
          · next ms hms =>
            have h := State.appendAll_roll ms s
            simp only [RunTable.roll, Prod.mk.injEq] at h
            exact .inr ⟨xs, ms, hms, by simp [h.2.2]⟩
    · left
      simp only [RequestKind.body, ackOutcomesBody]
      split
      · simp
      · simpa [State.ackOutcomes] using List.filter_sublist.map _
    · left
      simp only [RequestKind.body, runResetBody]
      split
      · simp [s.runReset_tables]
      · simp
  · have h := k.body_roll p pl s hk
    simp only [RunTable.roll, Prod.mk.injEq] at h
    exact .inl (by rw [h.2.2])

/-- A property of the tables that every command keeps is kept by every step. -/
theorem step_keeps_tables {P : State → Prop}
    (hP : ∀ {s t : State}, t.run = s.run → t.census = s.census → t.bins = s.bins → P s → P t)
    (hexec : ∀ {c : Instr} {s t : State}, exec c s = .next t → P s → P t) (s t : State) (hs : P s)
    (h : step s = .next t) : P t := by
  unfold step at h
  split at h
  · cases h; exact hs
  · exact hexec h (hP (s := s) rfl rfl rfl hs)

end Sys2Proof.Machine

open Sys2Proof Sys2Proof.Machine

/-- Settles O13: each bound, and the distinctness of the names, is kept by every request body, by the end of a
transaction and by the power-on values. -/
theorem everyStepKeepsTheTables : Obligations.EveryStepKeepsTheTables := by
  constructor
  · refine step_keeps_tables (P := CapacitiesHeld) (fun hr hc hb h => by simpa [CapacitiesHeld, hr, hc, hb] using h) ?_
    refine exec_keeps_tables (fun hr hc hb h => by simpa [CapacitiesHeld, hr, hc, hb] using h) ?_ ?_ ?_
    · rintro k p pl s ⟨hp, hc, ht⟩
      refine ⟨?_, k.body_room p pl s hc ht⟩
      rw [← List.length_map Piece.id]
      rcases k.body_names p pl s with h | ⟨xs, ms, hms, h⟩
      · exact h.length_le.trans (by simpa using hp)
      · rw [h, List.length_append, List.length_map, List.length_map]
        exact State.judgeBatch_room hms hp
    · rintro x o d s ⟨hp, hc, ht⟩
      exact ⟨by simpa using hp, State.endTransaction_room hc ht x o d⟩
    · exact fun f fl s => ⟨Nat.zero_le _, Nat.zero_le _, Nat.zero_le _⟩
  · refine step_keeps_tables (P := PiecesDistinct) (fun hr _ _ h => by simpa [PiecesDistinct, hr] using h) ?_
    refine exec_keeps_tables (fun hr _ _ h => by simpa [PiecesDistinct, hr] using h) ?_ ?_ ?_
    · intro k p pl s hs
      rcases k.body_names p pl s with h | ⟨xs, ms, hms, h⟩
      · exact h.nodup hs
      · unfold PiecesDistinct
        rw [h]
        exact State.judgeBatch_distinct hms hs
    · exact fun x o d s hs => by simpa [PiecesDistinct] using hs
    · exact fun f fl s => List.nodup_nil
end

section
/-! The settings are written by their own requests only (R1, R2, R165, R197, R198), and the power-on events (R199 to
R201). -/

namespace Sys2Proof.Machine

/-- Deciding what begins next on the line leaves the head table alone (R178). -/
@[simp] theorem HeadLine.arbitrate_table (f : Profile) (h : HeadLine) : (h.arbitrate f).table = h.table := by
  unfold HeadLine.arbitrate HeadLine.poll
  (repeat' split) <;> rfl

@[simp] theorem State.arbitrate_table (s : State) : s.arbitrate.heads.table = s.heads.table := by
  simp [State.arbitrate]

theorem State.stored_of_shell {s t : State} (h : t.shell = s.shell) : t.settings.stored = s.settings.stored := by
  simp only [State.shell, Prod.mk.injEq] at h
  exact h.2.2.2.1.1

/-- The requests that write the active profile (R197). -/
def RequestKind.writesProfile : List RequestKind :=
  [.setStock, .setEnvelope, .setLimits, .setBands, .setFeeder, .setSort, .setKeyRule, .setHeadMap, .setAttentionMask,
    .setDefaultReport]

theorem RequestKind.body_active (k : RequestKind) (p : Port) (pl : List Byte) (s : State)
    (hk : k ∉ RequestKind.writesProfile) : (k.body p pl s).1.settings.active = s.settings.active := by
  cases k
  case setStock | setEnvelope | setLimits | setBands | setFeeder | setSort | setKeyRule | setHeadMap | setAttentionMask
      | setDefaultReport => exact absurd hk (by decide)
  case saveSettings => simp only [RequestKind.body, saveSettingsBody]; split <;> simp [Settings.beginSave]
  all_goals simp [RequestKind.body, readBody]

theorem RequestKind.body_stored (k : RequestKind) (p : Port) (pl : List Byte) (s : State) (hk : k ≠ .saveSettings) :
    (k.body p pl s).1.settings.stored = s.settings.stored := by
  cases k
  case saveSettings => exact absurd rfl hk
  case setStock | setEnvelope | setLimits | setBands | setFeeder | setSort | setKeyRule | setHeadMap | setAttentionMask
      | setDefaultReport => exact State.stored_of_shell (by simp [RequestKind.body])
  all_goals simp [RequestKind.body, readBody]

theorem RequestKind.body_headTable (k : RequestKind) (p : Port) (pl : List Byte) (s : State) (hk : k ≠ .setHeadMap) :
    (k.body p pl s).1.heads.table = s.heads.table := by
  cases k
  case setHeadMap => exact absurd rfl hk
  case headAccess => simp only [RequestKind.body, headAccessBody]; (repeat' split) <;> simp
  all_goals simp [RequestKind.body, readBody]

/-- The line state is written by LINE_STATE alone, and the run number by OPEN_RUN alone (R1, R2). -/
theorem RequestKind.body_run (k : RequestKind) (p : Port) (pl : List Byte) (s : State) :
    (k ≠ .openRun → (k.body p pl s).1.run.runNumber = s.run.runNumber)
    ∧ (k ≠ .lineState → (k.body p pl s).1.run.lineState = s.run.lineState) := by
  by_cases hk : k ∈ [.lineState, .openRun, .loadPieces, .ackOutcomes, .runReset]
  · simp only [List.mem_cons, List.not_mem_nil, or_false] at hk
    rcases hk with rfl | rfl | rfl | rfl | rfl
    · simp only [RequestKind.body, lineStateBody]
      split <;> simp
    · simp only [RequestKind.body, openRunBody]
      (repeat' split) <;> simp [State.openRunWith]
    · simp only [RequestKind.body, loadPiecesBody]
      have h ms := State.appendAll_roll ms s
      simp only [RunTable.roll, Prod.mk.injEq] at h
      (repeat' split) <;> simp [h]
    · simp only [RequestKind.body, ackOutcomesBody]
      split <;> simp [State.ackOutcomes]
    · simp only [RequestKind.body, runResetBody]
      split <;> simp [s.runReset_tables]
  · have h := k.body_roll p pl s hk
    simp only [RunTable.roll, Prod.mk.injEq] at h
    exact ⟨fun _ => h.1, fun _ => h.2.1⟩

/-- A value outside the ports that a request body leaves alone is left alone by the request. -/
theorem serve_proj {α : Type} (f : State → α) (hdrop : ∀ p s, f (State.dropFrame p s) = f s)
    (hans : ∀ p x r s, f (State.answerFrame p x r s) = f s) {k : RequestKind} {p : Port} {s : State}
    {body : List Byte → State → State × Reply} (hb : ∀ pl s, f (body pl s).1 = f s) : f (serve k p body s) = f s := by
  rcases serve_cases (body := body) k p s with h | ⟨x, -, ⟨r, h⟩ | h⟩ <;> simp [h, hdrop, hans, hb]

@[simp] theorem State.endSave_active (r : SaveResult) (s : State) :
    (s.endSave r).settings.active = s.settings.active := by
  unfold State.endSave; (repeat' split) <;> simp

end Sys2Proof.Machine

open Sys2Proof Sys2Proof.Machine

/-- Settles O15: request by request, and event by event. -/
theorem settingsAreWrittenByTheirRequestsOnly : Obligations.SettingsAreWrittenByTheirRequestsOnly := by
  intro c s t h
  by_cases hc : ∃ k p, c = RequestKind.command k p
  · obtain ⟨k, p, rfl⟩ := hc
    rw [exec_command] at h
    cases h
    refine ⟨fun hne => ?_, fun hne => ?_, fun hne => ?_, fun hne => ?_, fun hne => ?_⟩
    · have hk : k ∈ RequestKind.writesProfile := by
        by_contra hk
        exact hne (serve_proj (fun s => s.settings.active) (by simp) (by simp) fun pl s => k.body_active p pl s hk)
      refine .inr ⟨p, ?_⟩
      simp only [RequestKind.writesProfile, List.mem_cons, List.not_mem_nil, or_false] at hk
      rcases hk with rfl | rfl | rfl | rfl | rfl | rfl | rfl | rfl | rfl | rfl <;> simp [RequestKind.command]
    · obtain rfl : k = .saveSettings := by
        by_contra hk
        exact hne (serve_proj (fun s => s.settings.stored) (by simp) (by simp) fun pl s => k.body_stored p pl s hk)
      exact .inr (.inl ⟨p, rfl⟩)
    · obtain rfl : k = .setHeadMap := by
        by_contra hk
        exact hne (serve_proj (fun s => s.heads.table) (by simp) (by simp) fun pl s => k.body_headTable p pl s hk)
      exact .inr (.inl ⟨p, rfl⟩)
    · obtain rfl : k = .openRun := by
        by_contra hk
        exact hne (serve_proj (fun s => s.run.runNumber) (by simp) (by simp) fun pl s => (k.body_run p pl s).1 hk)
      exact .inr ⟨p, rfl⟩
    · obtain rfl : k = .lineState := by
        by_contra hk
        exact hne (serve_proj (fun s => s.run.lineState) (by simp) (by simp) fun pl s => (k.body_run p pl s).2 hk)
      exact .inr ⟨p, rfl⟩
  · rcases exec_event_cases h hc with ⟨hr, -, -, hh, hs⟩ | ⟨r, rfl, rfl⟩ | ⟨rfl, rfl⟩ | ⟨rfl, rfl⟩ | ⟨bs, rfl, rfl⟩
      | ⟨rfl, rfl⟩
    · simp [hr, hh, hs]
    · simp
    · simp [State.powerOnReset, State.powerOnValues, Settings.afterPowerOn]
    · unfold State.loadEnd
      split <;> simp [State.powerOnValues]
    · simp
    · simp
end

section
/-! Numbers in bytes (R202), sets of bits, and the batch of LOAD_PIECES read back from its payload (R9, R205). -/

namespace Sys2Proof.Machine

/-! ### Numbers of more than one byte -/

@[simp] theorem toBytes_length (w n : Nat) : (toBytes w n).length = w := by
  induction w with
  | zero => rfl
  | succ w ih => simp [toBytes, ih]

/-- Reading the bytes of a number behind those read before. -/
theorem foldl_toBytes (w n acc : Nat) :
    (toBytes w n).foldl (fun acc b => acc * 256 + b.toNat) acc = acc * 256 ^ w + n % 256 ^ w := by
  induction w generalizing acc with
  | zero => simp [toBytes, Nat.mod_one]
  | succ w ih =>
    have h : (n / 256 ^ w) % 256 * 256 ^ w + n % 256 ^ w = n % 256 ^ (w + 1) := by
      rw [Nat.mod_pow_succ, Nat.mul_comm, Nat.add_comm]
    rw [toBytes, List.foldl_cons, ih, ← h, pow_succ]
    simp only [BitVec.toNat_ofNat, Nat.reducePow]
    ring

/-- A number is read back from its bytes, as far as they hold it (R202). -/
@[simp] theorem beNat_toBytes (w n : Nat) : beNat (toBytes w n) = n % 256 ^ w := by
  simpa [beNat] using foldl_toBytes w n 0

/-- The number at the head of a payload. -/
@[simp] theorem fieldAt_toBytes (w n : Nat) : fieldAt (toBytes w n) 0 w = n % 256 ^ w := by
  simp [fieldAt, List.take_of_length_le]

@[simp] theorem byteAt_toBytes_one (n : Nat) : byteAt (toBytes 1 n) 0 = n % 256 := by
  simp [byteAt, toBytes]

/-! ### Sets of bits -/

/-- The bits of a sum of distinct powers of 2. -/
theorem testBit_sum_two_pow {l : List Nat} (h : l.Nodup) (j : Nat) :
    (l.map (2 ^ ·)).sum.testBit j = decide (j ∈ l) := by
  rw [← List.sum_toFinset _ h, Bool.eq_iff_iff, ← Nat.mem_bitIndices, ← List.mem_toFinset,
    Finset.toFinset_bitIndices_sum_two_pow, List.mem_toFinset, decide_eq_true_iff]

/-- The bits of a sum over a range of those powers of 2 that are chosen. -/
theorem testBit_sum_range (p : Nat → Bool) (n j : Nat) :
    ((List.range n).map fun i => if p i then 2 ^ i else 0).sum.testBit j = (decide (j < n) && p j) := by
  have h : ((List.range n).map fun i => if p i then 2 ^ i else 0).sum
      = (((List.range n).filter p).map (2 ^ ·)).sum := by
    generalize List.range n = l
    induction l with
    | nil => rfl
    | cons x xs ih => by_cases hx : p x <;> simp [hx, ih]
  rw [h, testBit_sum_two_pow (List.nodup_range.filter _)]
  simp [Bool.decide_and]

/-! ### The destination key and the insert list (R205) -/

@[simp] theorem digitBytes_length (ds : List Nat) : (digitBytes ds).length = 4 := rfl

/-- A destination key of eight half-bytes is read back from its four bytes (R205). -/
theorem halves_digitBytes {ds : List Nat} (hl : ds.length = 8) (hd : ∀ d ∈ ds, d ≤ 15) :
    halves (digitBytes ds) = ds := by
  have hb (a b : Nat) (ha : a ≤ 15) (hb : b ≤ 15) :
      (a * 16 + b) % 256 / 16 = a ∧ (a * 16 + b) % 256 % 16 = b := by omega
  match ds, hl with
  | [a, b, c, d, e, f, g, h], _ =>
    simp only [List.mem_cons, List.not_mem_nil, or_false, forall_eq_or_imp, forall_eq] at hd
    obtain ⟨ha, hb', hc, hd', he, hf, hg, hh⟩ := hd
    simp [digitBytes, halves, hb _ _ ha hb', hb _ _ hc hd', hb _ _ he hf, hb _ _ hg hh]

theorem insertBytes_length (ins : List InsertEntry) : (insertBytes ins).length = 9 := by
  simp [insertBytes, List.length_flatMap]

/-- The code byte of entry `i`. -/
theorem byteAt_insertBytes (ins : List InsertEntry) {i : Nat} (hi : i < 8) :
    byteAt ((insertBytes ins).take 8) i = (ins[i]?).elim 0 InsertEntry.code % 256 := by
  match i, hi with
  | 0, _ | 1, _ | 2, _ | 3, _ | 4, _ | 5, _ | 6, _ | 7, _ => exact byteAt_toBytes_one _

/-- The required set is a byte whose bit `i` is that of entry `i`. -/
theorem testBit_insertBytes (ins : List InsertEntry) {i : Nat} (hi : i < 8) :
    (byteAt (insertBytes ins) 8).testBit i = (ins[i]?).elim false InsertEntry.required := by
  have h : byteAt (insertBytes ins) 8
      = ((List.range 8).map fun i => if (ins[i]?).elim false InsertEntry.required then 2 ^ i else 0).sum % 2 ^ 8 :=
    byteAt_toBytes_one _
  rw [h, Nat.testBit_mod_two_pow, testBit_sum_range]
  simp [hi]

/-- An insert list is read back from its code bytes and its required set (R205). -/
theorem insertsOf_insertBytes {n : Nat} {ins : List InsertEntry} (hl : ins.length = min n 8)
    (hc : ∀ e ∈ ins, e.code ≤ 255) :
    insertsOf n ((insertBytes ins).take 8) (byteAt (insertBytes ins) 8) = ins := by
  refine List.ext_getElem (by simp [insertsOf, hl]) fun i h _ => ?_
  have hi : i < ins.length := by simpa [insertsOf, hl] using h
  have hi8 : i < 8 := by omega
  have hcode : ins[i].code ≤ 255 := hc _ (List.getElem_mem hi)
  simp only [insertsOf, List.getElem_map, List.getElem_range, byteAt_insertBytes ins hi8, testBit_insertBytes ins hi8,
    List.getElem?_eq_getElem hi, Option.elim_some, Nat.mod_eq_of_lt (show ins[i].code < 256 by omega)]

/-! ### Piece records and amendments (R205) -/

theorem sendable_iff (x : PieceSpec) : x.sendable = true ↔
    x.id.seq ≤ 16777215 ∧ x.id.reprint ≤ 255 ∧ x.sheets ≤ 255 ∧ x.stock ≤ 255 ∧ x.key.length = 8
      ∧ (∀ d ∈ x.key, d ≤ 15) ∧ x.insertCount ≤ 255 ∧ x.inserts.length = min x.insertCount 8
      ∧ ∀ e ∈ x.inserts, e.code ≤ 255 := by
  simp [PieceSpec.sendable, and_assoc]

@[simp] theorem pieceBytes_length (x : PieceSpec) : x.bytes.length = 20 := by
  simp [PieceSpec.bytes, insertBytes_length]

/-- A piece record is read back from its bytes (R205). -/
theorem pieceSpecOf_bytes {x : PieceSpec} (h : x.sendable = true) : pieceSpecOf x.bytes = x := by
  obtain ⟨hseq, hrep, hsheets, hstock, hlen, hdigits, hcount, hins, hcodes⟩ := (sendable_iff x).1 h
  have eseq : fieldAt x.bytes 0 3 = x.id.seq := (fieldAt_toBytes 3 _).trans (Nat.mod_eq_of_lt (by omega))
  have erep : byteAt x.bytes 3 = x.id.reprint := (byteAt_toBytes_one _).trans (Nat.mod_eq_of_lt (by omega))
  have esheets : byteAt x.bytes 4 = x.sheets := (byteAt_toBytes_one _).trans (Nat.mod_eq_of_lt (by omega))
  have estock : byteAt x.bytes 5 = x.stock := (byteAt_toBytes_one _).trans (Nat.mod_eq_of_lt (by omega))
  have ekey : halves ((x.bytes.drop 6).take 4) = x.key := halves_digitBytes hlen hdigits
  have ecount : byteAt x.bytes 10 = x.insertCount := (byteAt_toBytes_one _).trans (Nat.mod_eq_of_lt (by omega))
  have eins : insertsOf x.insertCount ((x.bytes.drop 11).take 8) (byteAt x.bytes 19) = x.inserts :=
    insertsOf_insertBytes hins hcodes
  simp only [pieceSpecOf, eseq, erep, esheets, estock, ekey, ecount, eins]

/-- The two bits of a byte that says which of two parts are present. -/
theorem testBit_presence (a b : Bool) :
    (yesNo a + 2 * yesNo b).testBit 0 = a ∧ (yesNo a + 2 * yesNo b).testBit 1 = b := by
  revert a b
  decide

/-- An amendment is read back from its bytes (R205). -/
theorem amendmentOf_bytes {a : Amendment} (h : a.sendable = true) : amendmentOf a.bytes = a := by
  obtain ⟨seq, ins, key⟩ := a
  simp only [Amendment.sendable, Bool.and_eq_true, decide_eq_true_eq] at h
  obtain ⟨⟨hseq, hkey⟩, hins⟩ := h
  have eseq : fieldAt (Amendment.mk seq ins key).bytes 0 3 = seq :=
    (fieldAt_toBytes 3 seq).trans (Nat.mod_eq_of_lt (by omega))
  have eflags : byteAt (Amendment.mk seq ins key).bytes 3 = yesNo ins.isSome + 2 * yesNo key.isSome :=
    (byteAt_toBytes_one _).trans (by cases ins <;> cases key <;> rfl)
  obtain ⟨bit0, bit1⟩ := testBit_presence ins.isSome key.isSome
  simp only [amendmentOf, eseq, eflags, bit0, bit1, Amendment.mk.injEq, true_and]
  constructor
  · cases ins with
    | none => rfl
    | some x =>
      obtain ⟨n, l⟩ := x
      simp only [Option.elim_some, Bool.and_eq_true, beq_iff_eq, List.all_eq_true, decide_eq_true_eq] at hins
      obtain ⟨⟨hn, hl⟩, hcodes⟩ := hins
      have en : byteAt (Amendment.mk seq (some (n, l)) key).bytes 8 = n :=
        (byteAt_toBytes_one n).trans (Nat.mod_eq_of_lt (by omega))
      rw [en]
      exact congrArg (fun l => some (n, l)) (insertsOf_insertBytes hl hcodes)
  · cases key with
    | none => rfl
    | some ds =>
      simp only [Option.elim_some, Bool.and_eq_true, beq_iff_eq, List.all_eq_true, decide_eq_true_eq] at hkey
      exact congrArg some (halves_digitBytes hkey.1 hkey.2)

/-! ### The batch of LOAD_PIECES (R9) -/

/-- Block `i` of blocks of one length set behind one another. -/
theorem block_flatMap {α β : Type} {w : Nat} (f : α → List β) (hf : ∀ x, (f x).length = w) (xs : List α) {i : Nat}
    (hi : i < xs.length) : ((xs.flatMap f).drop (w * i)).take w = f xs[i] := by
  induction xs generalizing i with
  | nil => simp at hi
  | cons x xs ih =>
    cases i with
    | zero => simp [hf]
    | succ i =>
      have hdrop : (f x ++ xs.flatMap f).drop (w * (i + 1)) = (xs.flatMap f).drop (w * i) := by
        rw [Nat.mul_succ, Nat.add_comm, ← List.drop_drop, ← hf x, List.drop_left]
      simpa [hdrop] using ih (by simpa using hi)

theorem batchBytes_length (xs : List PieceSpec) : (batchBytes xs).length = 1 + 20 * xs.length := by
  simp [batchBytes, List.length_flatMap, Nat.mul_comm]

theorem byteAt_batchBytes {xs : List PieceSpec} (h : xs.length ≤ 8) : byteAt (batchBytes xs) 0 = xs.length :=
  (byteAt_toBytes_one _).trans (Nat.mod_eq_of_lt (by omega))

theorem batchOf_batchBytes {xs : List PieceSpec} (h1 : 1 ≤ xs.length) (h8 : xs.length ≤ 8)
    (hx : ∀ x ∈ xs, x.sendable = true) : batchOf (batchBytes xs) = some xs := by
  have hrec (i : Nat) (hi : i < xs.length) :
      pieceSpecOf (((batchBytes xs).drop (1 + 20 * i)).take 20) = xs[i] := by
    have hdrop : (batchBytes xs).drop (1 + 20 * i) = (xs.flatMap PieceSpec.bytes).drop (20 * i) := by
      rw [Nat.add_comm]
      rfl
    rw [hdrop, block_flatMap PieceSpec.bytes pieceBytes_length xs hi, pieceSpecOf_bytes (hx _ (List.getElem_mem hi))]
  simp only [batchOf, byteAt_batchBytes h8, batchBytes_length, h1, h8, true_and, if_true, Option.some.injEq]
  refine List.ext_getElem (by simp) fun i hi _ => ?_
  simpa using hrec i (by simpa using hi)

end Sys2Proof.Machine

open Sys2Proof Sys2Proof.Machine

/-- Settles O7: each record is read back from its own 20 bytes, its insert list bit by bit. -/
theorem batchReadsBackFromItsPayload : Obligations.BatchReadsBackFromItsPayload :=
  fun _ h1 h8 hx => batchOf_batchBytes h1 h8 hx

/-- Settles O8: the reset state is one state, and each of its power-on values is read off it. -/
theorem resetHoldsThePowerOnValues : Obligations.ResetHoldsThePowerOnValues := by
  unfold Obligations.ResetHoldsThePowerOnValues
  refine ⟨rfl, rfl, by decide, rfl, rfl, by decide, rfl, rfl, rfl, rfl, rfl, by decide, rfl, rfl, rfl, rfl, rfl, rfl,
    fun p => by cases p <;> rfl, rfl, rfl, rfl, rfl, rfl, rfl⟩

end

section
/-! What a run of operations does, put together from what each of them does: notices, flags and the frame
(`Effects`), and from there to the executed request. -/

namespace Sys2Proof.Machine

/-! ### Notices sent one after another (R192) -/

@[simp] theorem pushNotices_nil (ns : List Notice) : pushNotices ns [] = ns := rfl

theorem pushNotices_append (ns a b : List Notice) : pushNotices ns (a ++ b) = pushNotices (pushNotices ns a) b :=
  List.foldl_append

theorem pushNotice_length_le (ns : List Notice) (n : Notice) : (pushNotice ns n).length ≤ ns.length + 1 := by
  unfold pushNotice
  split <;> simp

theorem pushNotices_length_le (ns new : List Notice) : (pushNotices ns new).length ≤ ns.length + new.length := by
  induction new generalizing ns with
  | nil => simp
  | cons n new ih =>
    have h1 := ih (pushNotice ns n)
    have h2 := pushNotice_length_le ns n
    simp only [pushNotices, List.foldl_cons, List.length_cons] at h1 ⊢
    omega

/-- A notice of a run is lost when one of its first part or one of its second part is. -/
theorem State.lostFlag_append {s t : State} {p : Port} {a : List Notice}
    (h : (t.port p).notices = pushNotices (s.port p).notices a) (b : List Notice) :
    s.lostFlag p (a ++ b) = s.lostFlag p a ||| t.lostFlag p b := by
  have ha := pushNotices_length_le (s.port p).notices a
  have hb := pushNotices_length_le (t.port p).notices b
  rw [h] at hb
  simp only [State.lostFlag, h, pushNotices_append, List.length_append]
  split_ifs
  · exact (BitVec.or_self).symm
  · exact (BitVec.or_zero).symm
  · exact (BitVec.zero_or).symm
  · omega
  · omega
  · omega
  · omega
  · rfl

theorem State.lostFlag_congr {s t : State} {p : Port} (h : (t.port p).notices = (s.port p).notices)
    (a : List Notice) : t.lostFlag p a = s.lostFlag p a := by
  simp [State.lostFlag, h]

@[simp] theorem State.dropFrame_lostFlag (s : State) (p q : Port) (a : List Notice) :
    (s.dropFrame q).lostFlag p a = s.lostFlag p a := State.lostFlag_congr (by simp) a

/-! ### Putting effects together -/

section
variable {s t u : State} {tr tr' pl pl' : List Notice} {fl fl' : FlagSet} {bs cs : List Block}

/-- What changes neither notices nor flags has no other effects. -/
theorem Effects.of_changesOnly (h : ChangesOnly bs s t) (hb : ∀ p, .notices p ∉ bs) (hf : .flags ∉ bs) :
    Effects [] [] 0 bs s t where
  toTrack := h (.notices .track) (hb _)
  toPlan := h (.notices .plan) (hb _)
  flags := (show t.flags = s.flags from h .flags hf).trans (by simp)
  frame := h.mono fun b hb => List.mem_append_right _ hb

theorem Effects.refl (bs : List Block) (s : State) : Effects [] [] 0 bs s s where
  toTrack := rfl
  toPlan := rfl
  flags := by simp
  frame := ChangesOnly.refl _ _

/-- The notices of two parts stand one behind the other, and the flags raised join. -/
theorem Effects.trans (h : Effects tr pl fl bs s t) (h' : Effects tr' pl' fl' bs t u) :
    Effects (tr ++ tr') (pl ++ pl') (fl ||| fl') bs s u where
  toTrack := by rw [h'.toTrack, h.toTrack, pushNotices_append]
  toPlan := by rw [h'.toPlan, h.toPlan, pushNotices_append]
  flags := by
    rw [h'.flags, h.flags, State.lostFlag_append h.toTrack, State.lostFlag_append h.toPlan]
    ac_rfl
  frame := h.frame.trans h'.frame

theorem Effects.mono (h : Effects tr pl fl bs s t) (hc : ∀ b ∈ bs, b ∈ cs) : Effects tr pl fl cs s t where
  toTrack := h.toTrack
  toPlan := h.toPlan
  flags := h.flags
  frame := h.frame.mono fun b hb => by
    rcases List.mem_append.1 hb with hb | hb
    · exact List.mem_append_left _ hb
    · exact List.mem_append_right _ (hc b hb)

/-- The same effects, their notices and flags written in another way. -/
theorem Effects.congr (h : Effects tr pl fl bs s t) (ht : tr = tr') (hp : pl = pl') (hf : fl = fl') :
    Effects tr' pl' fl' bs s t := ht ▸ hp ▸ hf ▸ h

/-- Before silent changes. -/
theorem Effects.before (h : Effects tr pl fl bs s t) (h' : Effects [] [] 0 bs t u) : Effects tr pl fl bs s u :=
  (h.trans h').congr (by simp) (by simp) (by simp)

/-- After silent changes. -/
theorem Effects.after (h : Effects [] [] 0 bs s t) (h' : Effects tr pl fl bs t u) : Effects tr pl fl bs s u :=
  (h.trans h').congr (by simp) (by simp) (by simp)

/-- A flag raised, and nothing else. -/
theorem State.raise_effects (f : StickyFlag) (s : State) : Effects [] [] f.bit [] s (s.raise f) where
  toTrack := by simp
  toPlan := by simp
  flags := by simp
  frame := by
    intro b hb
    cases b <;> simp_all [Block.same]

/-- A notice sent to the track port, and nothing else. -/
theorem State.notify_track_effects (n : Notice) (s : State) : Effects [n] [] 0 [] s (s.notify .track n) where
  toTrack := by simp [pushNotices]
  toPlan := by simp
  flags := by simp
  frame := by
    intro b hb
    cases b with
    | notices p => cases p <;> simp_all
    | _ => simp_all [Block.same]

/-- A notice sent to the plan port, and nothing else. -/
theorem State.notify_plan_effects (n : Notice) (s : State) : Effects [] [n] 0 [] s (s.notify .plan n) where
  toTrack := by simp
  toPlan := by simp [pushNotices]
  flags := by simp
  frame := by
    intro b hb
    cases b with
    | notices p => cases p <;> simp_all
    | _ => simp_all [Block.same]

/-- A notice sent to both ports, and nothing else. -/
theorem State.notifyBoth_effects (n : Notice) (s : State) : Effects [n] [n] 0 [] s (s.notifyBoth n) :=
  ((s.notify_track_effects n).trans (State.notify_plan_effects n _)).congr rfl rfl (by simp)

end

theorem Happened.mono {s t : State} {tr pl : List Notice} {fl : FlagSet} {bs cs : List Block}
    (h : Happened tr pl fl bs s t) (hc : ∀ b ∈ bs, b ∈ cs) : Happened tr pl fl cs s t where
  toTrack := h.toTrack
  toPlan := h.toPlan
  flags := h.flags
  outputs := h.outputs
  frame := h.frame.mono fun b hb => by
    rcases List.mem_append.1 hb with hb | hb
    · exact List.mem_append_left _ hb
    · exact List.mem_append_right _ (hc b hb)

/-! ### From the body of a request to its execution (R186) -/

section
variable {k : RequestKind} {p : Port} {pl : List Byte} {s s' : State} {r : Reply}

/-- A request that is due, permitted and of an allowed length is executed by its body. -/
theorem exec_due (h : Due k p pl s) (hp : k.permitted p = true) (hl : k.lengthAllowed pl.length = true)
    (hb : k.body p pl (s.dropFrame p) = (s', r)) :
    exec (k.command p) s = .next (s'.answerFrame p (requestFrame k pl) r) := by
  rw [exec_command, serve_due h hp hl, hb]

/-- A body that refuses, or only reads: the request is answered and nothing else changes. -/
theorem exec_due_unchanged (h : Due k p pl s) (hp : k.permitted p = true) (hl : k.lengthAllowed pl.length = true)
    (hb : k.body p pl (s.dropFrame p) = (s.dropFrame p, r)) :
    ∃ t, exec (k.command p) s = .next t ∧ Answered p k r.result r.answer s t
      ∧ Happened [] [] 0 (requestBlocks p) s t :=
  ⟨_, exec_command k p s, serve_unchanged h hp hl hb⟩

/-- A payload of a length that is not allowed is refused BAD_ARG and nothing else changes. -/
theorem exec_due_wrongLength (h : Due k p pl s) (hp : k.permitted p = true)
    (hl : k.lengthAllowed pl.length = false) :
    ∃ t, exec (k.command p) s = .next t ∧ Answered p k .badArg [] s t ∧ Happened [] [] 0 (requestBlocks p) s t := by
  refine ⟨_, exec_command k p s, ?_⟩
  rw [serve_due_wrongLength h hp hl]
  exact ⟨Answered.of_body (r := refuse .badArg) (by simp) (by simp) rfl, Happened.of_unchanged⟩

/-- A body whose effects are known: the request is answered, and its effects happen. -/
theorem exec_due_effects {track plan : List Notice} {raised : FlagSet} {bs : List Block} (h : Due k p pl s)
    (hp : k.permitted p = true) (hl : k.lengthAllowed pl.length = true)
    (hb : k.body p pl (s.dropFrame p) = (s', r)) (he : Effects track plan raised bs (s.dropFrame p) s')
    (hbs : .intake p ∉ bs ∧ .responses p ∉ bs) :
    exec (k.command p) s = .next (s'.answerFrame p (requestFrame k pl) r)
      ∧ Answered p k r.result r.answer s (s'.answerFrame p (requestFrame k pl) r)
      ∧ Happened track plan raised (requestBlocks p ++ bs) s (s'.answerFrame p (requestFrame k pl) r) := by
  have ht := he.toTrack
  have hn := he.toPlan
  have hf := he.flags
  have hc : ChangesOnly ([.notices .track, .notices .plan, .flags, .pins] ++ bs) (s.dropFrame p) s' :=
    he.frame.mono fun b hb => by simp only [List.mem_append, List.mem_cons] at hb ⊢; tauto
  simp only [State.dropFrame_port, State.dropFrame_fields, State.dropFrame_lostFlag] at ht hn hf
  have hx : serve k p (k.body p) s = s'.answerFrame p (requestFrame k pl) r := by rw [serve_due h hp hl, hb]
  have hs := serve_changed h hp hl hb hbs ht hn hf hc
  rw [hx] at hs
  exact ⟨exec_due h hp hl hb, hs⟩

/-- A body whose blocks are known: the request is answered, and beside its blocks only the queues of the port and the
output lines change. -/
theorem exec_due_changes {bs : List Block} (h : Due k p pl s) (hp : k.permitted p = true)
    (hl : k.lengthAllowed pl.length = true) (hb : k.body p pl (s.dropFrame p) = (s', r))
    (hbs : .intake p ∉ bs ∧ .responses p ∉ bs) (hc : ChangesOnly bs (s.dropFrame p) s') :
    exec (k.command p) s = .next (s'.answerFrame p (requestFrame k pl) r)
      ∧ Answered p k r.result r.answer s (s'.answerFrame p (requestFrame k pl) r)
      ∧ ChangesOnly (requestBlocks p ++ bs ++ [.pins]) s (s'.answerFrame p (requestFrame k pl) r) := by
  have hx : serve k p (k.body p) s = s'.answerFrame p (requestFrame k pl) r := by rw [serve_due h hp hl, hb]
  have hs := serve_changesOnly h hp hl hb hbs hc
  rw [hx] at hs
  exact ⟨exec_due h hp hl hb, hs⟩

end

end Sys2Proof.Machine
end

section
/-! The requests that only read (R21, R23, R79, R158, R160, R177, R179), and those that set the line state and open a
run (R1, R2). -/

namespace Sys2Proof.Machine

/-! ### The newest record (R23) -/

theorem State.newest_split {s : State} {n : Nat} {xs ys : List Piece} {r : Piece} (h : s.run.pieces = xs ++ r :: ys)
    (hr : r.id.seq = n) (hys : ∀ x ∈ ys, x.id.seq ≠ n) : s.newest n = some r := by
  have hy : ys.filter (fun x => x.id.seq == n) = [] := by simpa [List.filter_eq_nil_iff] using hys
  simp [State.newest, h, hr, hy]

theorem State.newest_none {s : State} {n : Nat} (h : ∀ x ∈ s.run.pieces, x.id.seq ≠ n) : s.newest n = none := by
  simpa [State.newest, List.filter_eq_nil_iff] using h

@[simp] theorem State.newest_dropFrame (s : State) (p : Port) (n : Nat) : (s.dropFrame p).newest n = s.newest n := rfl

/-! ### Sets of causes (R206) -/

theorem Cause.number_pos (c : Cause) : 1 ≤ c.number := by cases c <;> decide

theorem Cause.number_injective {c d : Cause} (h : c.number = d.number) : c = d := by
  have key : ∀ c d : Cause, c.number = d.number → c = d := by
    intro c d
    cases c <;> cases d <;> first | exact fun _ => rfl | exact fun h => absurd h (by decide)
  exact key c d h

theorem nodup_eraseDups {α : Type} [BEq α] [LawfulBEq α] : (l : List α) → l.eraseDups.Nodup
  | [] => List.nodup_nil
  | a :: l => by
    rw [List.eraseDups_cons]
    refine List.nodup_cons.2 ⟨fun h => ?_, nodup_eraseDups _⟩
    simpa using (List.mem_eraseDups.1 h)
  termination_by l => l.length
  decreasing_by exact Nat.lt_succ_of_le (List.length_filter_le _ _)

/-- Bit `c - 1` of a fault set says whether cause number `c` is in it (R206). -/
theorem faultSet_testBit (cs : List Cause) (c : Cause) : (faultSet cs).testBit (c.number - 1) = decide (c ∈ cs) := by
  have inj : ∀ a b : Cause, a.number - 1 = b.number - 1 → a = b := fun a b h =>
    Cause.number_injective (by have := a.number_pos; have := b.number_pos; omega)
  have hset : faultSet cs = ((cs.eraseDups.map fun c => c.number - 1).map (2 ^ ·)).sum := by
    simp [faultSet, List.map_map, Function.comp_def]
  have hnodup : (cs.eraseDups.map fun c => c.number - 1).Nodup := (nodup_eraseDups cs).map inj
  rw [hset, testBit_sum_two_pow hnodup, decide_eq_decide, List.mem_map]
  constructor
  · rintro ⟨d, hd, he⟩
    exact inj d c he ▸ List.mem_eraseDups.1 hd
  · exact fun hc => ⟨c, List.mem_eraseDups.2 hc, rfl⟩

/-! ### Answers of READ_HEADS and READ_BINS (R160, R179) -/

theorem portCode_eq (p : Port) : portCode p = if p = .track then 0 else 1 := by cases p <;> rfl

theorem headsAnswer_eq (s : State) : headsAnswer s = headAddresses.flatMap s.headEntryV
    ++ [flagV s.profile.pollEnable, byteV s.heads.pollPosition, addressV s.heads.identityDue,
        byteV s.heads.slots.track.code, byteV s.heads.slots.plan.code,
        byteV (if s.heads.lastGranted = .track then 0 else 1)] := by
  rw [← portCode_eq]
  rfl

theorem State.binV_eq (s : State) : s.binV = fun b =>
    [byteV (s.bin b).state.code, byteV ((s.profile.dedicatedSlot b).getD 0)]
      ++ (s.bin b).tray.elim [byteV 0, .num 48 0] (fun x => byteV 1 :: x.values) := by
  funext b
  unfold State.binV
  cases (s.bin b).tray <;> rfl

theorem binsAnswer_eq (s : State) : binsAnswer s =
    (binNumbers.flatMap fun b => [byteV (s.bin b).state.code, byteV ((s.profile.dedicatedSlot b).getD 0)]
        ++ (s.bin b).tray.elim [byteV 0, .num 48 0] (fun x => byteV 1 :: x.values))
      ++ [byteV s.bins.reservations.length]
      ++ (s.bins.reservations.flatMap fun r => [byteV r.tag, wordV r.trayId, quadV r.mass])
      ++ stallV s.bins.stall
      ++ [wordV s.bins.trayCounter, byteV s.bins.closedTrays.length, byteV s.bins.delivery.length] := by
  rw [← State.binV_eq]
  rfl

/-! ### The line state and the run -/

theorem lineStateOf_code (x : LineState) : lineStateOf x.code = some x := by cases x <;> rfl

theorem lineStateOf_of_le {n : Nat} (h : 2 ≤ n) : lineStateOf n = none := by
  match n, h with
  | n + 2, _ => rfl

theorem byteAt_zero_of_length_one {pl : List Byte} (h : pl.length = 1) : byteAt pl 0 = beNat pl := by
  match pl, h with
  | [b], _ => simp [byteAt, beNat]

/-- What a taken OPEN_RUN does (R2). -/
theorem State.openRunWith_effects (n : Nat) (s : State) :
    Effects [.runState .opened] [.runState .opened] 0 [.runState, .runNumber, .census, .trayCounter] s
      (s.openRunWith n) := by
  refine Effects.after (Effects.of_changesOnly ?_ (by simp) (by simp))
    ((State.notifyBoth_effects (.runState .opened) _).mono (by simp))
  intro b hb
  cases b <;> first | rfl | simp at hb

theorem State.openRunWith_values (n : Nat) (s : State) :
    (s.openRunWith n).run = { s.run with runState := .opened, runNumber := n } ∧ (s.openRunWith n).census = []
      ∧ (s.openRunWith n).bins.trayCounter = 1 := by
  simp [State.openRunWith]

end Sys2Proof.Machine

open Sys2Proof Sys2Proof.Machine

/-- Settles O22: the body looks up the newest record and changes nothing. -/
theorem readPieceReturnsTheNewestRecord : Obligations.ReadPieceReturnsTheNewestRecord := by
  intro p n s hn hdue
  have hlen : RequestKind.readPiece.lengthAllowed (toBytes 3 n).length = true := by simp [RequestKind.lengthAllowed]
  have hper : RequestKind.readPiece.permitted p = true := by cases p <;> rfl
  have hseq : fieldAt (toBytes 3 n) 0 3 = n := by simp; omega
  constructor
  · intro xs ys r hsplit hr hys
    exact exec_due_unchanged (k := .readPiece) (r := done r.values) hdue hper hlen
      (by simp [RequestKind.body, readPieceBody, hseq, State.newest_split hsplit hr hys])
  · intro hnone
    exact exec_due_unchanged (k := .readPiece) (r := refuse .notFound) hdue hper hlen
      (by simp [RequestKind.body, readPieceBody, hseq, State.newest_none hnone])

/-- Settles O25: both bodies by the cases of their payload and of the run state. -/
theorem lineAndRunAreOpened : Obligations.LineAndRunAreOpened := by
  refine ⟨fun s => ⟨fun x hdue => ?_, fun pl hpl hdue => ?_⟩, fun n s hn hdue => ?_⟩
  · have hb : RequestKind.lineState.body .track (toBytes 1 x.code) (s.dropFrame .track)
        = ((s.dropFrame .track).onRun fun t => { t with lineState := x }, done) := by
      have hx : x.code % 256 = x.code := by cases x <;> rfl
      simp [RequestKind.body, lineStateBody, hx, lineStateOf_code]
    obtain ⟨hexec, hans, hhap⟩ := exec_due_effects (k := .lineState) (bs := [.lineState]) hdue rfl rfl hb
      (Effects.of_changesOnly (fun b hb => by cases b <;> first | rfl | simp at hb) (by simp) (by simp)) (by simp)
    exact ⟨_, hexec, hans, by simp, hhap⟩
  · by_cases hl : pl.length = 1
    · have hbig : 2 ≤ byteAt pl 0 := by
        rw [byteAt_zero_of_length_one hl]
        exact hpl.resolve_left (not_not_intro hl)
      exact exec_due_unchanged (k := .lineState) (r := refuse .badArg) hdue rfl (by simp [RequestKind.lengthAllowed, hl])
        (by simp [RequestKind.body, lineStateBody, lineStateOf_of_le hbig])
    · exact exec_due_wrongLength (k := .lineState) hdue rfl (by simp [RequestKind.lengthAllowed, hl])
  · have hlen : RequestKind.openRun.lengthAllowed (toBytes 2 n).length = true := by simp [RequestKind.lengthAllowed]
    have harg : fieldAt (toBytes 2 n) 0 2 = n := by simp; omega
    refine ⟨fun hclosed hpos => ?_, fun hclosed hzero => ?_, fun hopen => ?_⟩
    · have hb : RequestKind.openRun.body .plan (toBytes 2 n) (s.dropFrame .plan)
          = ((s.dropFrame .plan).openRunWith n, done) := by
        simp [RequestKind.body, openRunBody, harg, hclosed, show n ≠ 0 by omega]
      obtain ⟨hexec, hans, hhap⟩ := exec_due_effects (k := .openRun) hdue rfl hlen hb
        (State.openRunWith_effects n _) (by simp)
      obtain ⟨hrun, hcensus, hcounter⟩ := State.openRunWith_values n (s.dropFrame .plan)
      exact ⟨_, hexec, hans, by simpa using hrun, by simpa using hcensus, by simpa using hcounter, hhap⟩
    · exact exec_due_unchanged (k := .openRun) (r := refuse .badArg) hdue rfl hlen
        (by simp [RequestKind.body, openRunBody, hclosed, hzero])
    · exact exec_due_unchanged (k := .openRun) (r := refuse .wrongState) hdue rfl hlen
        (by simp [RequestKind.body, openRunBody, hopen])

/-- Settles O21: each read body hands its answer on, laid out as it is defined, and a set of causes by its bits. -/
theorem readsAnswerAndChangeNothing : Obligations.ReadsAnswerAndChangeNothing := by
  have read {k : RequestKind} {p : Port} {s : State} {answer : List Value} (h : Due k p [] s)
      (hp : k.permitted p = true) (hl : k.lengthAllowed 0 = true)
      (hb : k.body p [] (s.dropFrame p) = (s.dropFrame p, done answer)) :
      ∃ t, exec (k.command p) s = .next t ∧ Happened [] [] 0 (requestBlocks p) s t
        ∧ Answered p k .done answer s t := by
    obtain ⟨t, hexec, hans, hhap⟩ := exec_due_unchanged h hp hl hb
    exact ⟨t, hexec, hhap, hans⟩
  refine ⟨fun p s => ⟨fun h => ?_, fun h => ?_, fun h => ?_, fun h => ?_, fun h => ?_⟩, fun p s h => ?_,
    faultSet_testBit, fun r => ?_, fun y => rfl, fun x => ?_⟩
  case refine_1 => exact read (k := .readFeeders) h (by cases p <;> rfl) rfl rfl
  case refine_2 =>
    refine read (k := .readHeads) h (by cases p <;> rfl) rfl ?_
    show (s.dropFrame p, done (headsAnswer (s.dropFrame p))) = _
    rw [headsAnswer_eq]
    rfl
  case refine_3 => exact read (k := .readSlot) h (by cases p <;> rfl) rfl rfl
  case refine_4 => exact read (k := .readOutcomes) h rfl rfl rfl
  case refine_5 => exact read (k := .readTrays) h rfl rfl rfl
  case refine_6 =>
    refine read (k := .readBins) h (by cases p <;> rfl) rfl ?_
    show (s.dropFrame p, done (binsAnswer (s.dropFrame p))) = _
    rw [binsAnswer_eq]
    rfl
  case refine_7 => simp only [Piece.values, insertsV, keyV, faultsV, Piece.presence, List.append_assoc]; rfl
  case refine_8 => cases x <;> rfl
end

section
/-! Power-on reset and the end of the power-on load (R180, R199, R201). -/

namespace Sys2Proof.Machine

/-- The arbiter's first decision: the status poll of the lowest mapped address, when polling is possible (R178, R180). -/
theorem HeadLine.arbitrate_powerOn (f : Profile) : (HeadLine.powerOn f).arbitrate f =
    if f.pollPossible then
      { HeadLine.powerOn f with lastPoll := some f.lowestMapped }.begin ⟨.statusPoll, ⟨f.lowestMapped, 0, none⟩, false⟩
    else HeadLine.powerOn f := rfl

/-- What the arbiter's first decision leaves of the head line's power-on values, and the line after it. -/
theorem HeadLine.arbitrate_powerOn_fields (f : Profile) :
    ((HeadLine.powerOn f).arbitrate f).table = Vector.replicate 16 HeadEntry.powerOn
      ∧ ((HeadLine.powerOn f).arbitrate f).pollPosition = f.lowestMapped
      ∧ ((HeadLine.powerOn f).arbitrate f).identityDue = none
      ∧ ((HeadLine.powerOn f).arbitrate f).slots = ⟨.idle, .idle⟩
      ∧ ((HeadLine.powerOn f).arbitrate f).lastGranted = .plan
      ∧ ((HeadLine.powerOn f).arbitrate f).line =
        if f.pollPossible then some ⟨.statusPoll, ⟨f.lowestMapped, 0, none⟩, false⟩ else none := by
  rw [HeadLine.arbitrate_powerOn]
  split <;> exact ⟨rfl, rfl, rfl, rfl, rfl, rfl⟩

theorem Profile.pollPossible_iff (f : Profile) :
    f.pollPossible = true ↔ f.pollEnable = true ∧ ∃ a ∈ headAddresses, nth f.headMap a ≠ .none := by
  simp [Profile.pollPossible, Profile.mapped]

theorem nth_replicate {α : Type} {n : Nat} (x : α) (i : Nat) : nth (Vector.replicate (n + 1) x) i = x := by
  simp [nth]

theorem nth_ofFn {α : Type} {n : Nat} (g : Fin (n + 1) → α) (i : Nat) :
    nth (Vector.ofFn g) i = g ⟨min i n, by omega⟩ := by
  simp [nth]

/-- The power-on values of the feeders, each from its own setting (R97). -/
theorem nth_powerOnFeeders (f : Profile) (k : Nat) :
    nth (powerOnFeeders f) (k - 1) = Feeder.powerOn (f.feeder k) := nth_ofFn _ _

/-- The sheet masses, each of its own stock record (R73). -/
theorem nth_sheetMasses (f : Profile) (i : Nat) : nth (sheetMasses f) i = stockSheetMass (nth f.stocks i) := nth_ofFn _ _

/-- A part that is starting ends its load with the profile loaded and its blocks at their power-on values. -/
theorem State.loadEnd_starting {s : State} (h : s.settings.starting = true) :
    let f := loadedProfile s.settings.stored
    s.loadEnd = ({ s.powerOnValues f (loadFlags s.settings.stored) with
      settings := { s.settings with active := f, starting := false }
      heads := (HeadLine.powerOn f).arbitrate f } : State).settle := by
  simp only [State.loadEnd, h, if_true]
  rfl

end Sys2Proof.Machine

open Sys2Proof Sys2Proof.Machine

/-- Settles O59: both events write out every block, but for the arbiter's first decision. -/
theorem powerOnLoadsTheProfile : Obligations.PowerOnLoadsTheProfile := by
  intro s
  refine ⟨⟨s.powerOnReset, rfl, rfl, rfl, fun h => ?_, fun h => ?_, fun p => ?_, rfl, rfl, rfl, rfl, rfl, rfl⟩,
    fun h => ?_, fun h => ?_⟩
  · show (if s.settings.save.isSome then Stored.torn s.free else s.settings.stored) = s.settings.stored
    simp [h]
  · show (if s.settings.save.isSome then Stored.torn s.free else s.settings.stored).valid = false
    rw [if_pos (Option.isSome_iff_ne_none.2 h)]
    rfl
  · cases p <;> rfl
  · intro f first
    obtain ⟨htable, hposition, hdue, hslots, hgranted, hline⟩ := HeadLine.arbitrate_powerOn_fields f
    refine ⟨_, congrArg Host.Outcome.next (State.loadEnd_starting h), rfl, rfl, rfl, fun i _ => nth_sheetMasses f i,
      fun k _ => nth_powerOnFeeders f k, rfl, rfl, fun b _ => nth_replicate _ _, rfl, rfl, rfl, rfl, rfl, fun a _ => ?_,
      hposition, hdue, hslots, hgranted, ?_, fun p => ?_, rfl, rfl, rfl, rfl⟩
    · exact (congrArg (fun v => nth v a) htable).trans (nth_replicate _ _)
    · refine hline.trans ?_
      by_cases hp : f.pollPossible = true
      · rw [if_pos hp, if_pos (f.pollPossible_iff.1 hp)]
        rfl
      · rw [if_neg hp, if_neg (mt f.pollPossible_iff.2 hp)]
    · cases p <;> rfl
  · exact congrArg Host.Outcome.next (if_neg (by simp [h]))
end

section
/-! Which blocks the operations on trays, census, gate and piece records change, what finishing does to the piece
table, and CLOSE_RUN (R3, R4, R19). -/

namespace Sys2Proof.Machine

/-! ### The blocks of the Presort Unit, the Bin Manager and the gate -/

/-- What the operations on trays, census and gate change, beside notices and flags. -/
def gateBlocks : List Block :=
  [.census, .bins, .delivery, .closedTrays, .reservations, .stall, .trayCounter, .entries, .notices .track,
    .notices .plan, .flags]

/-- The intakes, the responses, the transfers, the output lines, the stored profile, the save and the model's own
fields are part of the shell. -/
theorem State.shell_eq_iff {s t : State} (h : t.shell = s.shell) :
    (∀ p, (t.port p).intake = (s.port p).intake ∧ (t.port p).responses = (s.port p).responses
      ∧ (t.port p).shifted = (s.port p).shifted)
    ∧ t.pins = s.pins ∧ t.settings.stored = s.settings.stored ∧ t.settings.save = s.settings.save
    ∧ t.settings.starting = s.settings.starting ∧ t.free = s.free ∧ t.pending = s.pending := by
  simp only [State.shell, Prod.mk.injEq] at h
  obtain ⟨⟨h1, h2, h3⟩, ⟨h4, h5, h6⟩, h7, ⟨h8, h9, h10⟩, h11, h12⟩ := h
  refine ⟨fun p => ?_, h7, h8, h9, h10, h11, h12⟩
  cases p
  · exact ⟨h1, h2, h3⟩
  · exact ⟨h4, h5, h6⟩

/-- An operation that keeps the fields outside the trays, the census and the gate changes their blocks only. -/
theorem changesOnly_gateBlocks {s t : State}
    (h : t.run = s.run ∧ t.checker = s.checker ∧ t.sheetMass = s.sheetMass ∧ t.feeders = s.feeders
      ∧ t.track.allocator = s.track.allocator ∧ t.heads = s.heads ∧ t.settings = s.settings ∧ t.shell = s.shell) :
    ChangesOnly gateBlocks s t := by
  obtain ⟨hrun, hchecker, hmass, hfeeders, halloc, hheads, hsettings, hshell⟩ := h
  obtain ⟨hports, hpins, -, -, -, hfree, hpending⟩ := State.shell_eq_iff hshell
  intro b hb
  cases b with
  | notices p => cases p <;> simp [gateBlocks] at hb
  | intake p => exact (hports p).1
  | responses p => exact (hports p).2.1
  | shifted p => exact (hports p).2.2
  | _ => simp_all [gateBlocks, Block.same]

section
variable (s : State)

@[simp] theorem State.onEntry_allocator (tag : Nat) (f : TrackEntry → TrackEntry) :
    (s.onEntry tag f).track.allocator = s.track.allocator := rfl

@[simp] theorem State.setGated_allocator (tag : Nat) (d : GateDecision) :
    (s.setGated tag d).track.allocator = s.track.allocator := rfl

@[simp] theorem State.recordStall_allocator (tag : Nat) (g : TrayGroup) :
    (s.recordStall tag g).track.allocator = s.track.allocator := by
  unfold State.recordStall
  dsimp only
  simp

@[simp] theorem State.handOn_allocator (tags : List Nat) : (s.handOn tags).track.allocator = s.track.allocator := by
  induction tags generalizing s with
  | nil => rfl
  | cons t ts ih => unfold State.handOn; dsimp only; (repeat' split) <;> simp [ih]

@[simp] theorem State.reevaluate_allocator (a : Bool) : (s.reevaluate a).1.track.allocator = s.track.allocator := by
  unfold State.reevaluate; dsimp only; (repeat' split) <;> simp

theorem State.reevaluate_changes (a : Bool) : ChangesOnly gateBlocks s (s.reevaluate a).1 :=
  changesOnly_gateBlocks (by simp)

theorem State.afterEvent_changes (before : State) : ChangesOnly gateBlocks s (s.afterEvent before) := by
  unfold State.afterEvent
  split
  · exact s.reevaluate_changes true
  · exact ChangesOnly.refl _ _

theorem State.withdraw_changes (r : Piece) : ChangesOnly gateBlocks s (s.withdraw r) :=
  changesOnly_gateBlocks (by simp)

theorem State.countRises_changes (d : List Nat) : ChangesOnly gateBlocks s (s.countRises d) :=
  changesOnly_gateBlocks (by simp)

theorem State.closeIfEmptied_changes (b : Nat) : ChangesOnly gateBlocks s (s.closeIfEmptied b) :=
  changesOnly_gateBlocks (by simp)

theorem State.releaseReservation_changes (tag b : Nat) : ChangesOnly gateBlocks s (s.releaseReservation tag b) :=
  changesOnly_gateBlocks (by simp)

theorem State.closeAllTrays_changes : ChangesOnly gateBlocks s s.closeAllTrays :=
  changesOnly_gateBlocks (by simp)

theorem State.onPiece_changes (id : PieceId) (f : Piece → Piece) : ChangesOnly [.pieces] s (s.onPiece id f) := by
  intro b hb
  cases b <;> first | rfl | simp at hb

theorem State.classify_changes (r : Piece) : ChangesOnly (.pieces :: gateBlocks) s (s.classify r) := by
  have hpiece (c : CensusRef) := (s.onPiece_changes r.id fun r => { r with census := c }).mono
    (cs := .pieces :: gateBlocks) (by decide)
  unfold State.classify
  dsimp only
  split
  · exact (hpiece _).trans ((State.countRises_changes _ _).mono (by decide))
  · exact (hpiece _).trans ((State.raise_effects _ _).frame.mono (by decide))
  · exact hpiece _
  · exact hpiece _

end

/-! ### Piece records -/

section
variable {s : State} {id : PieceId}

theorem State.onPiece_pieces (f : Piece → Piece) :
    (s.onPiece id f).run = { s.run with pieces := s.run.pieces.map fun x => if x.id = id then f x else x } := by
  simp [State.onPiece]

theorem State.piece?_eq_some {r : Piece} (h : s.piece? id = some r) : r.id = id ∧ r ∈ s.run.pieces := by
  have hr := List.find?_some h
  exact ⟨by simpa using hr, List.mem_of_find?_eq_some h⟩

/-- In a table of distinct records, a record is found under its own number. -/
theorem State.piece?_of_mem {r : Piece} (hd : PiecesDistinct s) (h : r ∈ s.run.pieces) : s.piece? r.id = some r := by
  unfold State.piece? RunTable.piece?
  cases hf : s.run.pieces.find? fun x => x.id == r.id with
  | none => simpa using List.find?_eq_none.1 hf r h
  | some x =>
    obtain ⟨hx, hmem⟩ := State.piece?_eq_some (s := s) hf
    exact congrArg some (List.inj_on_of_nodup_map hd hmem h hx)

/-- The record of a piece after a change of it. -/
theorem State.piece?_onPiece {f : Piece → Piece} (hf : ∀ r, (f r).id = r.id) :
    (s.onPiece id f).piece? id = (s.piece? id).map f := by
  simp only [State.piece?, RunTable.piece?, State.onPiece, State.onRun_run, List.find?_map]
  have hp : (fun r : Piece => r.id == id) ∘ (fun r => if (r.id == id) = true then f r else r)
      = fun r => r.id == id := by
    funext r
    by_cases h : r.id = id <;> simp [h, hf]
  rw [hp]
  cases h : List.find? (fun r : Piece => r.id == id) s.run.pieces with
  | none => rfl
  | some r =>
    have hr := List.find?_some h
    simp only [Option.map_some, hr, if_true]

/-- The record of another piece after a change of one. -/
theorem State.piece?_onPiece_ne {f : Piece → Piece} {id' : PieceId} (hf : ∀ r, (f r).id = r.id) (h : id' ≠ id) :
    (s.onPiece id f).piece? id' = s.piece? id' := by
  simp only [State.piece?, RunTable.piece?, State.onPiece, State.onRun_run, List.find?_map]
  have hp : (fun r : Piece => r.id == id') ∘ (fun r => if (r.id == id) = true then f r else r)
      = fun r => r.id == id' := by
    funext r
    by_cases h : r.id = id <;> simp [h, hf]
  rw [hp]
  cases hq : List.find? (fun r : Piece => r.id == id') s.run.pieces with
  | none => rfl
  | some r =>
    have hr : r.id = id' := by simpa using List.find?_some hq
    simp [hr, h]

@[simp] theorem Piece.addCause_state (c : Cause) (r : Piece) : (r.addCause c).state = r.state := by
  unfold Piece.addCause; split <;> rfl

@[simp] theorem Piece.addCause_cancelPending (c : Cause) (r : Piece) :
    (r.addCause c).cancelPending = r.cancelPending := by
  unfold Piece.addCause; split <;> rfl

/-- What finishing a record that is not FINISHED does to the run table (R19). -/
theorem State.finish_run {r : Piece} (d : Disposition) (h : s.piece? id = some r) (hr : r.state ≠ .finished) :
    (s.finish id d).run = { s.run with
      pieces := s.run.pieces.map fun x => if x.id = id then x.finish d else x
      outcomes := s.run.outcomes ++ [id] } := by
  have hrun : ((s.onPiece id (Piece.finish d)).onRun fun t => { t with outcomes := t.outcomes ++ [id] }).run
      = { s.run with
          pieces := s.run.pieces.map fun x => if x.id = id then x.finish d else x
          outcomes := s.run.outcomes ++ [id] } := by
    simp [State.onPiece]
  unfold State.finish
  simp only [h, beq_iff_eq, hr, if_false]
  rw [(State.withdraw_frame _ _).1]
  split
  · exact (State.notify_fields _ _ _).1.trans hrun
  · exact hrun

theorem State.finish_changes (d : Disposition) :
    ChangesOnly (.pieces :: .outcomes :: gateBlocks) s (s.finish id d) := by
  have hrun : ChangesOnly (.pieces :: .outcomes :: gateBlocks) s
      ((s.onPiece id (Piece.finish d)).onRun fun t => { t with outcomes := t.outcomes ++ [id] }) := by
    intro b hb
    cases b <;> first | rfl | simp at hb
  unfold State.finish
  split
  · exact ChangesOnly.refl _ _
  · split
    · exact ChangesOnly.refl _ _
    · dsimp only
      refine ChangesOnly.trans ?_ ((State.withdraw_changes _ _).mono (by decide))
      split
      · exact hrun.trans ((State.notify_plan_effects _ _).frame.mono (by decide))
      · exact hrun

/-- What finishing a list of records does to the run table: each gains the cause and finishes, in list order. -/
theorem State.finishAll_run {ids : List PieceId} (c : Cause) (d : Disposition) (hn : ids.Nodup)
    (h : ∀ id ∈ ids, ∃ r, s.piece? id = some r ∧ r.state ≠ .finished) :
    (s.finishAll ids c d).run = { s.run with
      pieces := s.run.pieces.map fun x => if x.id ∈ ids then (x.addCause c).finish d else x
      outcomes := s.run.outcomes ++ ids } := by
  induction ids generalizing s with
  | nil => simp [State.finishAll]
  | cons id ids ih =>
    obtain ⟨hid, hn⟩ := List.nodup_cons.1 hn
    obtain ⟨r, hr, hstate⟩ := h id List.mem_cons_self
    have hadd : (s.addCause id c).piece? id = some (r.addCause c) := by
      rw [State.addCause, State.piece?_onPiece (Piece.addCause_id c), hr, Option.map_some]
    have hone : ((s.addCause id c).finish id d).run = { s.run with
        pieces := s.run.pieces.map fun x => if x.id = id then (x.addCause c).finish d else x
        outcomes := s.run.outcomes ++ [id] } := by
      rw [State.finish_run d hadd (by simpa using hstate), State.addCause, State.onPiece_pieces]
      simp only [List.map_map, RunTable.mk.injEq, true_and, and_true]
      refine List.map_congr_left fun x _ => ?_
      by_cases hx : x.id = id <;> simp [hx]
    have hrest : ∀ id' ∈ ids, ∃ r, ((s.addCause id c).finish id d).piece? id' = some r ∧ r.state ≠ .finished := by
      intro id' hid'
      obtain ⟨r', hr', hstate'⟩ := h id' (List.mem_cons_of_mem _ hid')
      have hne : id' ≠ id := fun he => hid (he ▸ hid')
      have hsame : ((s.addCause id c).finish id d).piece? id'
          = (s.onPiece id fun x => (x.addCause c).finish d).piece? id' := by
        simp only [State.piece?, RunTable.piece?, hone, State.onPiece_pieces]
      exact ⟨r', by rw [hsame, State.piece?_onPiece_ne (by simp) hne, hr'], hstate'⟩
    have hcons : s.finishAll (id :: ids) c d = ((s.addCause id c).finish id d).finishAll ids c d := rfl
    rw [hcons, ih hn hrest, hone]
    simp only [List.map_map, List.append_assoc, List.singleton_append, RunTable.mk.injEq, true_and, and_true]
    refine List.map_congr_left fun x _ => ?_
    by_cases hx : x.id = id
    · simp [hx, hid]
    · simp [hx]

theorem State.finishAll_changes (ids : List PieceId) (c : Cause) (d : Disposition) :
    ChangesOnly (.pieces :: .outcomes :: gateBlocks) s (s.finishAll ids c d) := by
  unfold State.finishAll
  refine foldl_preserves _ (ChangesOnly _ s) (fun u id h => h.trans ?_) ids s (ChangesOnly.refl _ _)
  exact ((State.onPiece_changes _ _ _).mono (by decide)).trans (State.finish_changes d)

end

/-! ### The close of a run (R4) -/

section
variable (s : State)

theorem State.closeNow_values : s.closeNow.run = { s.run with runState := .closed } ∧ s.closeNow.census = []
    ∧ ∀ q, ∃ ns, (s.closeNow.port q).notices = pushNotice ns (.runState .closed) := by
  refine ⟨?_, ?_, fun q => ⟨_, State.notifyBoth_notices _ _ _⟩⟩ <;> simp [State.closeNow]

theorem getLast?_pushNotice {ns : List Notice} {n : Notice} (h : (pushNotice ns n).length < 16) :
    (pushNotice ns n).getLast? = some n := by
  by_cases hn : ns.length < noticeCapacity
  · simp [pushNotice, hn]
  · rw [pushNotice, if_neg hn] at h
    exact absurd h hn

theorem State.closeNow_changes : ChangesOnly (.runState :: gateBlocks) s s.closeNow := by
  have hstate : ChangesOnly (.runState :: gateBlocks) s (s.onRun fun t => { t with runState := .closed }) := by
    intro b hb
    cases b <;> first | rfl | simp at hb
  have hcensus (u : State) : ChangesOnly (.runState :: gateBlocks) u (u.onCensus fun _ => []) := by
    intro b hb
    cases b <;> first | rfl | simp [gateBlocks] at hb
  exact ((hstate.trans ((State.closeAllTrays_changes _).mono (by decide))).trans (hcensus _)).trans
    ((State.notifyBoth_effects _ _).frame.mono (by decide))

/-- With nothing on the track there is no entry to re-evaluate. -/
theorem State.reevaluate_of_no_entries (a : Bool) (h : s.track.entries = []) : s.reevaluate a = (s, none) := by
  unfold State.reevaluate
  split
  · rfl
  · simp [State.entry?, h]

theorem State.afterEvent_of_no_entries (before : State) (h : s.track.entries = []) : s.afterEvent before = s := by
  simp [State.afterEvent, s.reevaluate_of_no_entries true h]

theorem State.lineEmpty_iff : s.lineEmpty = true ↔
    s.checker.forming = none ∧ s.checker.ready = none ∧ s.track.entries = [] := by
  simp [State.lineEmpty, and_assoc]

theorem State.closeRun_changes : ChangesOnly (.runState :: .pieces :: .outcomes :: gateBlocks) s s.closeRun := by
  unfold State.closeRun
  dsimp only
  refine ((State.finishAll_changes s.loadedIds .runClosed .notFed).mono (by decide)).trans ?_
  split
  · exact (State.closeNow_changes _).mono (by decide)
  · intro b hb
    cases b <;> first | rfl | simp at hb

end

/-- The records in state LOADED, in load order, are distinct and found under their numbers. -/
theorem State.loadedIds_found {s : State} (hd : PiecesDistinct s) :
    s.loadedIds.Nodup ∧ ∀ id ∈ s.loadedIds, ∃ r, s.piece? id = some r ∧ r.state ≠ .finished := by
  constructor
  · exact hd.sublist (List.filter_sublist.map _)
  · intro id hid
    obtain ⟨r, hr, rfl⟩ := List.mem_map.1 hid
    obtain ⟨hmem, hstate⟩ := List.mem_filter.1 hr
    exact ⟨r, State.piece?_of_mem hd hmem, by simp [(beq_iff_eq.1 hstate)]⟩

theorem State.mem_loadedIds {s : State} (hd : PiecesDistinct s) {r : Piece} (h : r ∈ s.run.pieces) :
    r.id ∈ s.loadedIds ↔ r.state = .loaded := by
  simp only [State.loadedIds, List.mem_map, List.mem_filter, beq_iff_eq]
  constructor
  · rintro ⟨x, ⟨hx, hstate⟩, hid⟩
    rwa [← List.inj_on_of_nodup_map hd hx h hid]
  · exact fun hstate => ⟨r, ⟨h, hstate⟩, rfl⟩

/-- A LOADED record as the close of the run finishes it (R3, R19). -/
def Piece.notFed (x : Piece) : Piece :=
  { x with
    state := .finished
    faults := if Cause.runClosed ∈ x.faults then x.faults else x.faults ++ [.runClosed]
    disposition := some (if x.cancelPending then .cancelled else .notFed)
    tag := none }

theorem Piece.notFed_eq {x : Piece} (h : x.state = .loaded) :
    x.notFed = (x.addCause .runClosed).finish .notFed := by
  by_cases hc : Cause.runClosed ∈ x.faults <;> simp [Piece.notFed, Piece.addCause, Piece.finish, h, hc]

/-- What a taken CLOSE_RUN does to the run table (R3, R19). -/
theorem State.closeRun_run {s : State} (hd : PiecesDistinct s) :
    s.closeRun.run = { s.run with
      runState := if s.lineEmpty then .closed else .draining
      outcomes := s.run.outcomes ++ s.loadedIds
      pieces := s.run.pieces.map fun x => if x.state = .loaded then x.notFed else x } := by
  obtain ⟨hn, hfound⟩ := State.loadedIds_found hd
  have hall := State.finishAll_run .runClosed .notFed hn hfound
  have hempty : (s.finishAll s.loadedIds .runClosed .notFed).lineEmpty = s.lineEmpty := by
    simp [State.lineEmpty]
  have hpieces : (s.run.pieces.map fun x => if x.id ∈ s.loadedIds then (x.addCause .runClosed).finish .notFed else x)
      = s.run.pieces.map fun x => if x.state = .loaded then x.notFed else x := by
    refine List.map_congr_left fun x hx => ?_
    by_cases hloaded : x.state = .loaded
    · rw [if_pos ((State.mem_loadedIds hd hx).2 hloaded), if_pos hloaded, Piece.notFed_eq hloaded]
    · rw [if_neg (mt (State.mem_loadedIds hd hx).1 hloaded), if_neg hloaded]
  rw [hpieces] at hall
  unfold State.closeRun
  simp only [hempty]
  split
  · rw [(State.closeNow_values _).1, hall]
  · simp [hall]

/-- A CLOSE_RUN with nothing on the line closes the run, with RUN_STATE(CLOSED) as the last notice. -/
theorem State.closeRun_of_empty {s : State} (h : s.lineEmpty = true) :
    s.closeRun.census = [] ∧ s.closeRun.track.entries = []
      ∧ ∀ q, ∃ ns, (s.closeRun.port q).notices = pushNotice ns (.runState .closed) := by
  have hempty : (s.finishAll s.loadedIds .runClosed .notFed).lineEmpty = true := by
    simpa [State.lineEmpty] using h
  have hclose : s.closeRun = (s.finishAll s.loadedIds .runClosed .notFed).closeNow := by
    simp only [State.closeRun, hempty, if_true]
  obtain ⟨-, hcensus, hnotices⟩ := State.closeNow_values (s.finishAll s.loadedIds .runClosed .notFed)
  rw [hclose]
  exact ⟨hcensus, by simpa using (s.lineEmpty_iff.1 h).2.2, hnotices⟩


end Sys2Proof.Machine

open Sys2Proof Sys2Proof.Machine

/-- Settles O47: the LOADED records finish one after another, and the close of the run, when the line is empty, comes
last. -/
theorem closeRunFinishesTheLoadedRecords : Obligations.CloseRunFinishesTheLoadedRecords := by
  intro s hdue
  refine ⟨fun hopened hd => ?_, fun hopened => ?_⟩
  · intro ids empty
    have hrun : (s.dropFrame .plan).closeRun.run = _ := State.closeRun_run hd
    have hids : (s.dropFrame .plan).loadedIds = ids := rfl
    have hline : (s.dropFrame .plan).lineEmpty = true ↔ empty := (s.dropFrame .plan).lineEmpty_iff
    have hb : RequestKind.closeRun.body .plan [] (s.dropFrame .plan)
        = ((s.dropFrame .plan).closeRun.afterEvent (s.dropFrame .plan),
            done [byteV (s.dropFrame .plan).closeRun.run.runState.code, .code .count ids.length]) := by
      simp [RequestKind.body, closeRunBody, hopened, hids]
    obtain ⟨hexec, hans, hchanges⟩ := exec_due_changes (k := .closeRun) hdue rfl rfl hb (by decide)
      ((State.closeRun_changes _).trans ((State.afterEvent_changes _ _).mono (by decide)))
    refine ⟨_, hexec, ?_, fun hempty => ?_, fun hempty => ?_, ?_, ?_, hchanges.mono (by decide)⟩
    · simp only [State.answerFrame_fields, State.afterEvent_frame]
      exact hans
    · obtain ⟨hcensus, hentries, hnotices⟩ := State.closeRun_of_empty (hline.2 hempty)
      rw [State.afterEvent_of_no_entries _ _ hentries]
      refine ⟨by simp [hrun, hline.2 hempty], by simpa using hcensus, fun q hq => ?_⟩
      obtain ⟨ns, hns⟩ := hnotices q
      simp only [State.answerFrame_port, hns] at hq ⊢
      exact getLast?_pushNotice hq
    · simp [hrun, mt hline.1 hempty]
    · simp [hrun, hids]
    · simp only [State.answerFrame_fields, State.afterEvent_frame, hrun, State.dropFrame_fields]
      rfl
  · exact exec_due_unchanged (k := .closeRun) (r := refuse .wrongState) hdue rfl rfl
      (by simp [RequestKind.body, closeRunBody, hopened])
end

section
/-! What the tray operations keep of the stall and the reservations, and LOAD_PIECES (R9, R10, R14). -/

namespace Sys2Proof.Machine

/-! ### The stall and the reservations -/

/-- What the Bin Manager holds for entries on the track, and its tray id counter. -/
def BinManager.promises (m : BinManager) : List Reservation × Option Stall × Nat :=
  (m.reservations, m.stall, m.trayCounter)

@[simp] theorem BinManager.promises_delivery (m : BinManager) (bs : List Nat) :
    { m with delivery := bs }.promises = m.promises := rfl

@[simp] theorem BinManager.promises_closedTrays (m : BinManager) (ts : List Tray) :
    { m with closedTrays := ts }.promises = m.promises := rfl

section
variable (s : State)

@[simp] theorem State.onBin_promises (b : Nat) (f : Bin → Bin) : (s.onBin b f).bins.promises = s.bins.promises := rfl

@[simp] theorem State.onTray_promises (b : Nat) (f : Tray → Tray) :
    (s.onTray b f).bins.promises = s.bins.promises := rfl

@[simp] theorem State.setBinState_promises (b : Nat) (st : BinState) :
    (s.setBinState b st).bins.promises = s.bins.promises := by simp [State.setBinState]

@[simp] theorem State.releaseTest_promises (b : Nat) : (s.releaseTest b).bins.promises = s.bins.promises := by
  unfold State.releaseTest; (repeat' split) <;> simp

@[simp] theorem State.deliverTray_promises (b : Nat) (t : Tray) :
    (s.deliverTray b t).bins.promises = s.bins.promises := by
  simp [State.deliverTray]

@[simp] theorem State.deliverOldest_promises : s.deliverOldest.bins.promises = s.bins.promises := by
  unfold State.deliverOldest; dsimp only; (repeat' split) <;> simp

@[simp] theorem State.deliverWaiting_promises (n : Nat) : (s.deliverWaiting n).bins.promises = s.bins.promises := by
  induction n generalizing s with
  | zero => rfl
  | succ n ih => unfold State.deliverWaiting; split <;> simp [ih]

@[simp] theorem State.joinDelivery_promises (b : Nat) : (s.joinDelivery b).bins.promises = s.bins.promises := by
  unfold State.joinDelivery; dsimp only; split <;> simp

@[simp] theorem State.trayClosedReport_promises (g : TrayGroup) :
    (s.trayClosedReport g).bins.promises = s.bins.promises := by simp

@[simp] theorem State.closeIfEmptied_promises (b : Nat) : (s.closeIfEmptied b).bins.promises = s.bins.promises := by
  unfold State.closeIfEmptied; (repeat' split) <;> simp

@[simp] theorem State.beginClosing_promises (b : Nat) (r : CloseReason) :
    (s.beginClosing b r).bins.promises = s.bins.promises := by
  unfold State.beginClosing; dsimp only; (repeat' split) <;> simp

@[simp] theorem State.groupEnd_promises (g : TrayGroup) : (s.groupEnd g).bins.promises = s.bins.promises := by
  unfold State.groupEnd; split <;> simp

@[simp] theorem State.areaTest_promises (a : List Nat) (n : Nat) :
    (s.areaTest a n).bins.promises = s.bins.promises := by unfold State.areaTest; split <;> simp

@[simp] theorem State.countFalls_promises (d : List Nat) : (s.countFalls d).bins.promises = s.bins.promises := by
  unfold State.countFalls; dsimp only; (repeat' split) <;> simp

@[simp] theorem State.countRises_promises (d : List Nat) : (s.countRises d).bins.promises = s.bins.promises := by
  unfold State.countRises; dsimp only; (repeat' split) <;> simp

@[simp] theorem State.classify_promises (r : Piece) : (s.classify r).bins.promises = s.bins.promises := by
  unfold State.classify; dsimp only; (repeat' split) <;> simp

@[simp] theorem State.withdraw_promises (r : Piece) : (s.withdraw r).bins.promises = s.bins.promises := by
  unfold State.withdraw; split <;> simp

@[simp] theorem State.reclassify_promises (old new : Piece) :
    (s.reclassify old new).bins.promises = s.bins.promises := by
  unfold State.reclassify; dsimp only; split <;> simp

@[simp] theorem State.appendPiece_promises (x : PieceSpec × MakeUp) :
    (s.appendPiece x).bins.promises = s.bins.promises := by simp [State.appendPiece]

@[simp] theorem State.appendAll_promises (xs : List (PieceSpec × MakeUp)) :
    (s.appendAll xs).bins.promises = s.bins.promises :=
  foldl_keeps _ (fun s => s.bins.promises) (by simp) xs s

end

theorem BinManager.stall_eq_of_promises {m n : BinManager} (h : m.promises = n.promises) : m.stall = n.stall :=
  congrArg (fun x => x.2.1) h

/-! ### Re-evaluations that do nothing -/

section
variable {s before : State}

/-- With no entry stalled there is nothing to re-evaluate (R152). -/
theorem State.reevaluate_of_no_stall (a : Bool) (h : s.bins.stall = none) : s.reevaluate a = (s, none) := by
  unfold State.reevaluate
  rw [h]

theorem State.afterEvent_of_no_stall (h : s.bins.stall = none) : s.afterEvent before = s := by
  simp [State.afterEvent, State.reevaluate_of_no_stall true h]

/-- An event that leaves every bin as it was frees none (R152). -/
theorem State.afterEvent_of_same_bins (h : s.bins.table = before.bins.table) : s.afterEvent before = s := by
  have hbin (b : Nat) : s.bin b = before.bin b := by simp [State.bin, BinManager.bin, h]
  have hfreed : binFreed before s = false := by simp [binFreed, hbin]
  simp [State.afterEvent, hfreed]

end

/-! ### Appending a batch (R14) -/

/-- The record that LOAD_PIECES appends, with the census reference it is given. -/
def PieceSpec.loaded (x : PieceSpec) (run : Nat) (m : MakeUp) (c : CensusRef) : Piece :=
  { x.record run m with census := c }

/-- Classifying a record changes its census reference only. -/
theorem State.classify_run (r : Piece) (s : State) : (s.classify r).run = { s.run with
    pieces := s.run.pieces.map fun x => if x.id = r.id then
      { x with census := s.classification r.key r.id.reprint } else x } := by
  have h := State.onPiece_pieces (s := s) (id := r.id)
    fun x => { x with census := s.classification r.key r.id.reprint }
  unfold State.classify
  dsimp only
  split
  · exact (State.countRises_frame _ _).1.trans h
  · exact (State.raise_fields _ _).1.trans h
  · exact h
  · exact h

/-- A record whose number is new to the table is appended with the census reference it is given then. -/
theorem State.appendPiece_pieces {s : State} {x : PieceSpec × MakeUp} (h : ∀ r ∈ s.run.pieces, r.id ≠ x.1.id) :
    (s.appendPiece x).run.pieces
      = s.run.pieces ++ [x.1.loaded s.run.runNumber x.2 (s.classification x.1.key x.1.id.reprint)] := by
  have hold : s.run.pieces.map (fun r => if r.id = x.1.id then
      { r with census := s.classification x.1.key x.1.id.reprint } else r) = s.run.pieces :=
    (List.map_congr_left fun r hr => if_neg (h r hr)).trans (List.map_id _)
  unfold State.appendPiece
  dsimp only
  rw [State.classify_run]
  simp only [State.onRun_run, List.map_append, List.map_cons, List.map_nil]
  exact congrArg₂ (· ++ ·) hold (congrArg (fun r => [r]) (if_pos trivial))

/-- The records of a batch whose numbers are distinct and new to the table, each with the census reference of its
classification in the state that those before it have left. -/
theorem State.appendAll_pieces {s : State} {ms : List (PieceSpec × MakeUp)} (hn : (ms.map fun x => x.1.id).Nodup)
    (h : ∀ y ∈ ms, ∀ r ∈ s.run.pieces, r.id ≠ y.1.id) :
    (s.appendAll ms).run.pieces = s.run.pieces ++ ms.mapIdx fun i m =>
      m.1.loaded s.run.runNumber m.2 ((s.appendAll (ms.take i)).classification m.1.key m.1.id.reprint) := by
  induction ms generalizing s with
  | nil => simp [State.appendAll]
  | cons m ms ih =>
    obtain ⟨hm, hn⟩ := List.nodup_cons.1 hn
    have hone := State.appendPiece_pieces (h m List.mem_cons_self)
    have hnumber : (s.appendPiece m).run.runNumber = s.run.runNumber := congrArg Prod.fst (s.appendPiece_roll m)
    have hnew : ∀ y ∈ ms, ∀ r ∈ (s.appendPiece m).run.pieces, r.id ≠ y.1.id := by
      intro y hy r hr
      rw [hone, List.mem_append, List.mem_singleton] at hr
      rcases hr with hr | rfl
      · exact h y (List.mem_cons_of_mem _ hy) r hr
      · exact fun he => hm (List.mem_map.2 ⟨y, hy, he.symm⟩)
    have hcons : s.appendAll (m :: ms) = (s.appendPiece m).appendAll ms := rfl
    rw [hcons, ih hn hnew, hone, hnumber, List.mapIdx_cons, List.append_assoc]
    rfl

theorem State.appendAll_changes (ms : List (PieceSpec × MakeUp)) (s : State) :
    ChangesOnly (.pieces :: gateBlocks) s (s.appendAll ms) := by
  have happend (x : PieceSpec × MakeUp) (u : State) : ChangesOnly (.pieces :: gateBlocks) u (u.appendPiece x) := by
    refine ChangesOnly.trans ?_ (State.classify_changes _ _)
    intro b hb
    cases b <;> first | rfl | simp at hb
  exact foldl_preserves _ (ChangesOnly _ s) (fun u x h => h.trans (happend x u)) ms s (ChangesOnly.refl _ _)

/-- The judgement of a batch does not depend on the intake. -/
theorem State.judgeBatch_dropFrame (s : State) (p : Port) (earlier : List Nat) (i : Nat) (xs : List PieceSpec) :
    (s.dropFrame p).judgeBatch earlier i xs = s.judgeBatch earlier i xs := by
  induction xs generalizing earlier i with
  | nil => rw [State.judgeBatch_nil, State.judgeBatch_nil]
  | cons x xs ih =>
    have hrecord : (s.dropFrame p).judgeRecord earlier i x = s.judgeRecord earlier i x := rfl
    rw [State.judgeBatch_cons, State.judgeBatch_cons, hrecord, ih]

theorem batchOf_eq_none {pl : List Byte} (h : byteAt pl 0 = 0 ∨ 8 < byteAt pl 0 ∨ pl.length ≠ 1 + 20 * byteAt pl 0) :
    batchOf pl = none := by
  rw [batchOf, if_neg]
  omega

section
variable {pl : List Byte} {xs : List PieceSpec} {s : State}

theorem loadPiecesBody_wrongState (hx : batchOf pl = some xs) (h : s.run.runState ≠ .opened) :
    loadPiecesBody pl s = (s, refuse .wrongState) := by
  unfold loadPiecesBody
  rw [hx]
  exact if_pos (by simpa using h)

theorem loadPiecesBody_error {i : Nat} {c : LoadCause} (hx : batchOf pl = some xs) (h : s.run.runState = .opened)
    (hj : s.judgeBatch [] 1 xs = .error (i, c)) :
    loadPiecesBody pl s = (s, refuse .loadRefused [byteV i, byteV c.code]) := by
  unfold loadPiecesBody
  rw [hx]
  dsimp only
  rw [if_neg (by simp [h]), hj]

theorem loadPiecesBody_ok {ms : List (PieceSpec × MakeUp)} (hx : batchOf pl = some xs) (h : s.run.runState = .opened)
    (hj : s.judgeBatch [] 1 xs = .ok ms) :
    loadPiecesBody pl s = ((s.appendAll ms).afterEvent s, done [byteV ms.length]) := by
  unfold loadPiecesBody
  rw [hx]
  dsimp only
  rw [if_neg (by simp [h]), hj]

end

end Sys2Proof.Machine

open Sys2Proof Sys2Proof.Machine

/-- Settles O49: the payload spells the batch (O7), its numbers are new (O48), and each record is appended in the state
that those before it have left. -/
theorem loadPiecesAppendsTheBatch : Obligations.LoadPiecesAppendsTheBatch := by
  refine ⟨fun xs s h1 h8 hx hdue => ?_, fun pl s hdue hpl => ?_⟩
  · have hbatch := batchOf_batchBytes h1 h8 hx
    refine ⟨fun ms hopened hjudged => ?_, fun i c hopened hjudged => ?_, fun hopened => ?_⟩
    · intro after
      obtain ⟨hfst, -⟩ := (s.judgeBatch_ok_iff ..).1 hjudged
      have hlength : ms.length = xs.length := by rw [← hfst, List.length_map]
      obtain ⟨hnodup, hnew⟩ := State.judgeBatch_newIds hjudged
      have hb := loadPiecesBody_ok (s := s.dropFrame .plan) hbatch hopened
        ((s.judgeBatch_dropFrame .plan [] 1 xs).trans hjudged)
      obtain ⟨hexec, hans, hchanges⟩ := exec_due_changes (k := .loadPieces) hdue rfl rfl hb (by decide)
        ((State.appendAll_changes ms _).trans ((State.afterEvent_changes _ _).mono (by decide)))
      refine ⟨hfst, _, hexec, by rw [← hlength]; exact hans, ?_, fun hstall => ?_, hchanges.mono (by decide)⟩
      · simp only [State.answerFrame_fields, State.afterEvent_frame]
        exact State.appendAll_pieces (s := s.dropFrame .plan) hnodup hnew
      · have hnone : ((s.dropFrame .plan).appendAll ms).bins.stall = none :=
          (BinManager.stall_eq_of_promises (State.appendAll_promises _ _)).trans hstall
        have hafter : after xs.length = (s.dropFrame .plan).appendAll ms := by
          simp only [after, ← hlength, List.take_length]
        rw [hafter, State.afterEvent_of_no_stall hnone]
        simp
    · exact exec_due_unchanged (k := .loadPieces) (r := refuse .loadRefused [byteV i, byteV c.code]) hdue rfl rfl
        (loadPiecesBody_error hbatch hopened ((s.judgeBatch_dropFrame .plan [] 1 xs).trans hjudged))
    · exact exec_due_unchanged (k := .loadPieces) (r := refuse .wrongState) hdue rfl rfl
        (loadPiecesBody_wrongState hbatch hopened)
  · refine exec_due_unchanged (k := .loadPieces) (r := refuse .badArg) hdue rfl rfl ?_
    simp only [RequestKind.body, loadPiecesBody, batchOf_eq_none hpl]
end

section
/-! AMEND_PIECE (R15, R16, R125). -/

namespace Sys2Proof.Machine

section
variable {a : Amendment} {m : MakeUp} {r : Piece} {s : State}

/-- Whether an amended record keeps its classification: the key is the old one, or the record was counted and stays
counted in the same fine group (R125). -/
def State.keepsClass (s : State) (r : Piece) (key : List Nat) : Bool :=
  key == r.key || (r.census == .counted && s.classification key r.id.reprint == .counted
    && key.take s.profile.sort.fineLength == r.key.take s.profile.sort.fineLength)

theorem Amendment.spec_key (a : Amendment) (r : Piece) : (a.spec r).key = a.key.getD r.key := rfl

/-- An amendment that keeps the classification changes the record alone. -/
theorem State.amend_keeps (h : (s.onPiece r.id (a.apply m)).keepsClass r (a.key.getD r.key) = true) :
    s.amend a m r = s.onPiece r.id (a.apply m) := by
  unfold State.amend
  dsimp only
  by_cases hkey : a.key.getD r.key = r.key
  · rw [if_pos (by simpa [Amendment.spec_key] using hkey)]
  · rw [if_neg (by simpa [Amendment.spec_key] using hkey), State.reclassify, if_pos]
    simp only [State.keepsClass, Bool.or_eq_true, Bool.and_eq_true, beq_iff_eq, hkey, false_or] at h
    obtain ⟨⟨hcounted, hstays⟩, hsame⟩ := h
    simp only [Bool.and_eq_true, beq_iff_eq]
    exact ⟨⟨hcounted, hstays⟩, hsame.symm⟩

/-- An amendment that does not keep the classification withdraws it and classifies the record again. -/
theorem State.amend_reclassifies (h : (s.onPiece r.id (a.apply m)).keepsClass r (a.key.getD r.key) = false) :
    s.amend a m r = ((s.onPiece r.id (a.apply m)).withdraw r).classify (a.apply m r) := by
  simp only [State.keepsClass, Bool.or_eq_false_iff, beq_eq_false_iff_ne] at h
  obtain ⟨hkey, hclass⟩ := h
  unfold State.amend
  dsimp only
  rw [if_neg (by simpa [Amendment.spec_key] using hkey), State.reclassify, if_neg]
  intro hc
  simp only [Bool.and_eq_true, beq_iff_eq] at hc
  obtain ⟨⟨hcounted, hstays⟩, hsame⟩ := hc
  refine absurd hclass ?_
  simp only [Bool.not_eq_false, Bool.and_eq_true, beq_iff_eq]
  exact ⟨⟨hcounted, hstays⟩, hsame.symm⟩

theorem State.amend_changes (a : Amendment) (m : MakeUp) (r : Piece) (s : State) :
    ChangesOnly (.pieces :: gateBlocks) s (s.amend a m r) := by
  have hpiece := (s.onPiece_changes r.id (a.apply m)).mono (cs := .pieces :: gateBlocks) (by decide)
  cases h : (s.onPiece r.id (a.apply m)).keepsClass r (a.key.getD r.key) with
  | true => rw [State.amend_keeps h]; exact hpiece
  | false =>
    rw [State.amend_reclassifies h]
    exact (hpiece.trans ((State.withdraw_changes _ _).mono (by decide))).trans (State.classify_changes _ _)

/-- An amended record, with the census reference it keeps or is given. -/
def Amendment.result (a : Amendment) (m : MakeUp) (r : Piece) (c : CensusRef) : Piece :=
  { r with
    inserts := a.inserts.elim r.inserts Prod.snd, key := a.key.getD r.key, planned := m
    census := c }

theorem Amendment.apply_eq (a : Amendment) (m : MakeUp) (r : Piece) : a.apply m r = a.result m r r.census := by
  obtain ⟨seq, ins, key⟩ := a
  cases ins <;> rfl

/-- The table after an amendment of one of its distinct records (R15, R125). -/
theorem State.amend_pieces (hd : PiecesDistinct s) (hr : r ∈ s.run.pieces) :
    (s.amend a m r).run.pieces = s.run.pieces.map fun x => if x.id = r.id then
      a.result m r (if (s.onPiece r.id (a.apply m)).keepsClass r (a.key.getD r.key) then r.census
        else ((s.onPiece r.id (a.apply m)).withdraw r).classification (a.key.getD r.key) r.id.reprint) else x := by
  have hone (x : Piece) (hx : x ∈ s.run.pieces) (hid : x.id = r.id) : x = r := List.inj_on_of_nodup_map hd hx hr hid
  have hs1 : (s.onPiece r.id (a.apply m)).run.pieces
      = s.run.pieces.map fun x => if x.id = r.id then a.apply m x else x := by rw [State.onPiece_pieces]
  cases h : (s.onPiece r.id (a.apply m)).keepsClass r (a.key.getD r.key) with
  | true =>
    rw [State.amend_keeps h, hs1]
    refine List.map_congr_left fun x hx => ?_
    by_cases hid : x.id = r.id
    · rw [if_pos hid, if_pos hid, hone x hx hid, Amendment.apply_eq]
      rfl
    · rw [if_neg hid, if_neg hid]
  | false =>
    rw [State.amend_reclassifies h, State.classify_run, (State.withdraw_frame _ _).1]
    dsimp only
    rw [hs1, List.map_map]
    refine List.map_congr_left fun x hx => ?_
    by_cases hid : x.id = r.id
    · rw [Function.comp_apply, if_pos hid, if_pos hid, hone x hx hid, Amendment.apply_eq]
      exact if_pos rfl
    · rw [Function.comp_apply, if_neg hid, if_neg hid]
      exact if_neg hid

end

/-! ### The body of AMEND_PIECE -/

section
variable {pl : List Byte} {a : Amendment} {r : Piece} {s : State}

theorem amendPieceBody_absent (ha : amendmentOf pl = a) (hp : ¬ (a.inserts ≠ none ∨ a.key ≠ none)) :
    amendPieceBody pl s = (s, refuse .badArg) := by
  simp only [ne_eq, not_or, not_not] at hp
  obtain ⟨hins, hkey⟩ := hp
  simp [amendPieceBody, ha, hins, hkey]

theorem Amendment.present_eq (hp : a.inserts ≠ none ∨ a.key ≠ none) : (a.inserts.isNone && a.key.isNone) = false := by
  simpa [Option.isSome_iff_ne_none, imp_iff_not_or] using hp

theorem amendPieceBody_notFound (ha : amendmentOf pl = a) (hp : a.inserts ≠ none ∨ a.key ≠ none)
    (hr : s.newest a.seq = none) : amendPieceBody pl s = (s, refuse .notFound) := by
  simp [amendPieceBody, ha, Amendment.present_eq hp, hr]

theorem amendPieceBody_locked (ha : amendmentOf pl = a) (hp : a.inserts ≠ none ∨ a.key ≠ none)
    (hr : s.newest a.seq = some r) (hl : r.state ≠ .loaded) :
    amendPieceBody pl s = (s.raise .accessFault, refuse .locked) := by
  simp [amendPieceBody, ha, Amendment.present_eq hp, hr, hl]

theorem amendPieceBody_error {c : LoadCause} (ha : amendmentOf pl = a) (hp : a.inserts ≠ none ∨ a.key ≠ none)
    (hr : s.newest a.seq = some r) (hl : r.state = .loaded) (hj : s.judgeAmended (a.spec r) = .error c) :
    amendPieceBody pl s = (s, refuse .loadRefused [byteV 1, byteV c.code]) := by
  simp [amendPieceBody, ha, Amendment.present_eq hp, hr, hl, hj]

theorem amendPieceBody_ok {m : MakeUp} (ha : amendmentOf pl = a) (hp : a.inserts ≠ none ∨ a.key ≠ none)
    (hr : s.newest a.seq = some r) (hl : r.state = .loaded) (hj : s.judgeAmended (a.spec r) = .ok m) :
    amendPieceBody pl s = ((s.amend a m r).afterEvent s, done) := by
  simp [amendPieceBody, ha, Amendment.present_eq hp, hr, hl, hj]

end

end Sys2Proof.Machine

open Sys2Proof Sys2Proof.Machine

/-- Settles O50: the payload spells the amendment, and the record keeps its classification or is classified again. -/
theorem amendPieceReplacesListAndKey : Obligations.AmendPieceReplacesListAndKey := by
  refine ⟨fun a s ha hdue => ?_, fun a r => ?_, fun x s => ?_⟩
  · intro present newest refused
    have hread := amendmentOf_bytes ha
    have hlen : RequestKind.amendPiece.lengthAllowed a.bytes.length = true := by
      simp [RequestKind.lengthAllowed, Amendment.bytes, insertBytes_length]
    have found {r : Piece} (h : newest r) : (s.dropFrame .plan).newest a.seq = some r := by
      obtain ⟨pre, post, hsplit, hr, hpost⟩ := h
      exact State.newest_split hsplit hr hpost
    refine ⟨fun hp => ?_, fun hp hnone => ?_, fun r hp hr hl => ?_, fun r c hp hr hl hj => ?_,
      fun r m hp hr hl hd hj => ?_⟩
    · exact exec_due_unchanged (k := .amendPiece) (r := refuse .badArg) hdue rfl hlen
        (amendPieceBody_absent hread hp)
    · exact exec_due_unchanged (k := .amendPiece) (r := refuse .notFound) hdue rfl hlen
        (amendPieceBody_notFound hread hp (State.newest_none hnone))
    · obtain ⟨hexec, hans, hhap⟩ := exec_due_effects (k := .amendPiece) hdue rfl hlen
        (amendPieceBody_locked hread hp (found hr) hl) (State.raise_effects _ _) (by simp)
      exact ⟨_, hexec, hans, by simpa using hhap⟩
    · exact exec_due_unchanged (k := .amendPiece) (r := refuse .loadRefused [byteV 1, byteV c.code]) hdue rfl hlen
        (amendPieceBody_error hread hp (found hr) hl hj)
    · intro key s1 stays withdrawn classified
      have hmem : r ∈ s.run.pieces := by
        obtain ⟨pre, post, hsplit, -⟩ := hr
        simp [hsplit]
      have hb := amendPieceBody_ok hread hp (found hr) hl hj
      obtain ⟨hexec, hans, hchanges⟩ := exec_due_changes (k := .amendPiece) hdue rfl hlen hb (by decide)
        ((State.amend_changes a m r _).trans ((State.afterEvent_changes _ _).mono (by decide)))
      refine ⟨_, hexec, hans, ?_, fun hstays => ?_, fun hstays hstall => ?_, hchanges.mono (by decide)⟩
      · simp only [State.answerFrame_fields, State.afterEvent_frame]
        exact State.amend_pieces (s := s.dropFrame .plan) hd hmem
      · have hkeeps : (s.dropFrame .plan).amend a m r = s1 := State.amend_keeps hstays
        have hsame : s1.afterEvent (s.dropFrame .plan) = s1 := State.afterEvent_of_same_bins rfl
        rw [hkeeps, hsame]
        rw [hkeeps, hsame] at hb
        obtain ⟨hexec, -, hhap⟩ := exec_due_effects (k := .amendPiece) hdue rfl hlen hb
          (Effects.of_changesOnly (State.onPiece_changes _ _ _) (by simp) (by simp)) (by simp)
        exact hhap
      · have hagain : (s.dropFrame .plan).amend a m r = classified := State.amend_reclassifies hstays
        have hnone : classified.bins.stall = none := by
          have hpromises : classified.bins.promises = s.bins.promises := by simp [classified, withdrawn, s1]
          exact (BinManager.stall_eq_of_promises hpromises).trans hstall
        rw [hagain, State.afterEvent_of_no_stall hnone]
        simp
  · obtain ⟨seq, ins, key⟩ := a
    cases ins <;> rfl
  · dsimp only
    refine ⟨fun m => State.judgeAmended_ok_iff,
      fun h => State.judgeAmended_of_checkRanges (State.checkRanges_badArg h),
      fun h hf => State.judgeAmended_of_checkRanges (State.checkRanges_tooManySheets h hf), fun h hf hc => ?_,
      fun h hf hc => ?_⟩
    · rw [State.judgeAmended_of_ranges (State.checkRanges_none_iff.mpr ⟨h, hf⟩)]
      exact State.checkMakeUp_unknown (PieceSpec.InRanges.codes_ne_zero h) hc
    · have hplan := State.plan_error (s := s) (x := x)
      rw [State.judgeAmended_of_ranges (State.checkRanges_none_iff.mpr ⟨h, hf⟩),
        State.checkMakeUp_carried (PieceSpec.InRanges.codes_ne_zero h) hc]
      exact ⟨hplan.1, fun p hp => hplan.2 p hp⟩
end

section
/-! The bins one by one, runs of an operation over them, and RUN_RESET (R162, R196). -/

namespace Sys2Proof.Machine

/-! ### One bin -/

section
variable {b j : Nat}

theorem mem_binNumbers : b ∈ binNumbers ↔ 1 ≤ b ∧ b ≤ 6 := by
  simp only [binNumbers, List.mem_cons, List.not_mem_nil, or_false]
  omega

theorem mem_feederNumbers : b ∈ feederNumbers ↔ 1 ≤ b ∧ b ≤ 8 := by
  simp only [feederNumbers, List.mem_cons, List.not_mem_nil, or_false]
  omega

variable (s : State)

@[simp] theorem State.onBin_bin (f : Bin → Bin) : (s.onBin b f).bin b = f (s.bin b) := by
  simp [State.bin, State.onBin, BinManager.bin, BinManager.onBin]

theorem State.onBin_bin_ne (f : Bin → Bin) (hb : b ∈ binNumbers) (hj : j ∈ binNumbers) (h : j ≠ b) :
    (s.onBin b f).bin j = s.bin j := by
  rw [mem_binNumbers] at hb hj
  exact nth_setNth_ne _ _ (by omega) (by omega) (by omega)

theorem State.onBin_effects (f : Bin → Bin) : Effects [] [] 0 [.bins] s (s.onBin b f) := by
  refine Effects.of_changesOnly (fun b hb => ?_) (by simp) (by simp)
  cases b <;> first | rfl | simp at hb

@[simp] theorem State.onTray_bin (f : Tray → Tray) :
    (s.onTray b f).bin b = { s.bin b with tray := (s.bin b).tray.map f } := s.onBin_bin _

theorem State.onTray_bin_ne (f : Tray → Tray) (hb : b ∈ binNumbers) (hj : j ∈ binNumbers) (h : j ≠ b) :
    (s.onTray b f).bin j = s.bin j := s.onBin_bin_ne _ hb hj h

theorem State.onTray_effects (f : Tray → Tray) : Effects [] [] 0 [.bins] s (s.onTray b f) := s.onBin_effects _

theorem State.bin_congr {t : State} (h : t.bins = s.bins) : t.bin b = s.bin b := by simp [State.bin, h]

@[simp] theorem State.setBinState_bin (st : BinState) :
    (s.setBinState b st).bin b = { s.bin b with state := st } := by
  unfold State.setBinState
  rw [State.bin_congr _ (State.notifyBoth_fields _ _).2.2.2.2.2.2.1]
  exact s.onBin_bin _

theorem State.setBinState_bin_ne (st : BinState) (hb : b ∈ binNumbers) (hj : j ∈ binNumbers) (h : j ≠ b) :
    (s.setBinState b st).bin j = s.bin j := by
  unfold State.setBinState
  rw [State.bin_congr _ (State.notifyBoth_fields _ _).2.2.2.2.2.2.1]
  exact s.onBin_bin_ne _ hb hj h

theorem State.setBinState_effects (st : BinState) :
    Effects [.binState b st ((s.bin b).tray.map Tray.id)] [.binState b st ((s.bin b).tray.map Tray.id)] 0 [.bins] s
      (s.setBinState b st) :=
  Effects.after (s.onBin_effects _) ((State.notifyBoth_effects _ _).mono (by simp))

/-- The release test, in the terms of the statements (R143). -/
theorem State.releaseTest_eq : s.releaseTest b =
    if s.frees b (s.bin b).state && (s.bin b).tray.isNone then s.setBinState b .free else s := by
  unfold State.releaseTest State.frees
  cases s.sorterStatus with
  | none => simp
  | some w =>
    refine if_congr ?_ rfl rfl
    simp only [Option.elim_some, Bool.and_eq_true]
    tauto

end

/-- The sorter's status is read off the settings and the head line. -/
theorem State.sorterStatus_congr {s t : State} (hp : t.profile = s.profile) (hh : t.heads = s.heads) :
    t.sorterStatus = s.sorterStatus := by
  simp only [State.sorterStatus, hp, hh]

/-! ### An operation run over the bins, or over the feeders -/

/-- An operation that acts on one item of a table, and sends notices that depend on that item alone, acts on each of
the items it is run over, and its notices stand in their order. -/
theorem foldl_effects {α : Type} {g : State → Nat → State} {read : State → Nat → α} {env : State → Prop}
    {notices : Nat → α → List Notice} {f : Nat → α → α} {bs : List Block} {items : List Nat}
    (hg : ∀ u k, k ∈ items → env u → env (g u k)
      ∧ Effects (notices k (read u k)) (notices k (read u k)) 0 bs u (g u k)
      ∧ read (g u k) k = f k (read u k) ∧ ∀ j ∈ items, j ≠ k → read (g u k) j = read u j)
    {ks : List Nat} (hks : ∀ k ∈ ks, k ∈ items) (hn : ks.Nodup) (s : State) (hs : env s) :
    env (ks.foldl g s)
      ∧ Effects (ks.flatMap fun k => notices k (read s k)) (ks.flatMap fun k => notices k (read s k)) 0 bs s
          (ks.foldl g s)
      ∧ ∀ j ∈ items, read (ks.foldl g s) j = if j ∈ ks then f j (read s j) else read s j := by
  induction ks generalizing s with
  | nil => exact ⟨hs, Effects.refl _ _, fun j _ => by simp⟩
  | cons k ks ih =>
    obtain ⟨hk, hn⟩ := List.nodup_cons.1 hn
    have hkmem := hks k List.mem_cons_self
    obtain ⟨henv, heff, hread, hother⟩ := hg s k hkmem hs
    have hks' : ∀ j ∈ ks, j ∈ items := fun j hj => hks j (List.mem_cons_of_mem _ hj)
    obtain ⟨henv', heff', hread'⟩ := ih hks' hn (g s k) henv
    have hne : ∀ j ∈ ks, j ≠ k := fun j hj e => hk (e ▸ hj)
    have hsame : (ks.flatMap fun j => notices j (read (g s k) j)) = ks.flatMap fun j => notices j (read s j) :=
      List.flatMap_congr fun j hj => by rw [hother j (hks' j hj) (hne j hj)]
    rw [hsame] at heff'
    refine ⟨henv', (heff.trans heff').congr rfl rfl (by simp), fun j hj => ?_⟩
    rw [List.foldl_cons, hread' j hj]
    by_cases hjk : j = k
    · subst hjk
      simp [hk, hread]
    · simp [hjk, hother j hj hjk]

/-! ### The bins at a run reset (R162) -/

/-- Whether the last status of the sorter head shows a bin neither occupied nor faulted. -/
def State.seenFree (s : State) (b : Nat) : Bool :=
  s.sorterStatus.elim false fun w => !shownOccupied w b && !shownFault w b

/-- A FREE, OPEN or FULL_WAIT bin. -/
def BinState.cleared (st : BinState) : Bool := st == .free || st == .opened || st == .fullWait

/-- A bin without a tray after step 3 of R162, and the notices of that step. -/
def Bin.clear (x : Bin) : Bin := if x.state.cleared then { x with state := .clearing } else x
def Bin.clearNotices (b : Nat) (x : Bin) : List Notice :=
  if x.state.cleared then [.binState b .clearing (x.tray.map Tray.id)] else []

/-- Step 3 of R162 over all bins. -/
theorem State.clearBins_effects (s : State) :
    Effects (binNumbers.flatMap fun b => (s.bin b).clearNotices b) (binNumbers.flatMap fun b => (s.bin b).clearNotices b)
        0 [.bins] s s.clearBins
      ∧ ∀ b ∈ binNumbers, s.clearBins.bin b = (s.bin b).clear := by
  have hg : ∀ u b, b ∈ binNumbers → True → True
      ∧ Effects ((u.bin b).clearNotices b) ((u.bin b).clearNotices b) 0 [.bins] u (u.clearBin b)
      ∧ (u.clearBin b).bin b = (u.bin b).clear ∧ ∀ j ∈ binNumbers, j ≠ b → (u.clearBin b).bin j = u.bin j := by
    intro u b hb _
    have hclear : u.clearBin b = if (u.bin b).state.cleared then u.setBinState b .clearing else u := rfl
    rw [hclear, Bin.clearNotices, Bin.clear]
    by_cases h : (u.bin b).state.cleared = true
    · simp only [h, if_true]
      exact ⟨trivial, u.setBinState_effects _, u.setBinState_bin _,
        fun j hj hne => u.setBinState_bin_ne _ hb hj hne⟩
    · simp only [h]
      exact ⟨trivial, Effects.refl _ _, rfl, fun _ _ _ => rfl⟩
  obtain ⟨-, heff, hbins⟩ := foldl_effects (read := State.bin) (notices := Bin.clearNotices) (f := fun _ => Bin.clear)
    hg (fun _ h => h) (by decide) s trivial
  exact ⟨heff, fun b hb => (hbins b hb).trans (if_pos hb)⟩

/-- A bin after step 4 of R162, where `free` says that the sorter head shows it free, and the notices of that step. -/
def Bin.freed (free : Bool) (x : Bin) : Bin :=
  if x.state == .clearing && (free && x.tray.isNone) then { x with state := .free } else x
def Bin.freedNotices (free : Bool) (b : Nat) (x : Bin) : List Notice :=
  if x.state == .clearing && (free && x.tray.isNone) then [.binState b .free (x.tray.map Tray.id)] else []

/-- Step 4 of R162 over all bins. -/
theorem State.testAllCleared_effects (s : State) :
    Effects (binNumbers.flatMap fun b => (s.bin b).freedNotices (s.seenFree b) b)
        (binNumbers.flatMap fun b => (s.bin b).freedNotices (s.seenFree b) b) 0 [.bins] s s.testAllCleared
      ∧ ∀ b ∈ binNumbers, s.testAllCleared.bin b = (s.bin b).freed (s.seenFree b) := by
  have hg : ∀ u b, b ∈ binNumbers → u.sorterStatus = s.sorterStatus → (u.testCleared b).sorterStatus = s.sorterStatus
      ∧ Effects ((u.bin b).freedNotices (s.seenFree b) b) ((u.bin b).freedNotices (s.seenFree b) b) 0 [.bins] u
          (u.testCleared b)
      ∧ (u.testCleared b).bin b = (u.bin b).freed (s.seenFree b)
      ∧ ∀ j ∈ binNumbers, j ≠ b → (u.testCleared b).bin j = u.bin j := by
    intro u b hb hu
    have htest : u.testCleared b = if (u.bin b).state == .clearing && (s.seenFree b && (u.bin b).tray.isNone)
        then u.setBinState b .free else u := by
      unfold State.testCleared
      rw [State.releaseTest_eq]
      cases h : (u.bin b).state == .clearing with
      | true => simp [State.frees, h, hu, State.seenFree]
      | false => simp
    have hstatus : (u.testCleared b).sorterStatus = s.sorterStatus :=
      (State.sorterStatus_congr (by simp) (by simp)).trans hu
    refine ⟨hstatus, ?_⟩
    rw [htest, Bin.freedNotices, Bin.freed]
    split
    · exact ⟨u.setBinState_effects _, u.setBinState_bin _, fun j hj hne => u.setBinState_bin_ne _ hb hj hne⟩
    · exact ⟨Effects.refl _ _, rfl, fun _ _ _ => rfl⟩
  obtain ⟨-, heff, hbins⟩ := foldl_effects (read := State.bin)
    (notices := fun b => Bin.freedNotices (s.seenFree b) b) (f := fun b => Bin.freed (s.seenFree b)) hg
    (fun _ h => h) (by decide) s rfl
  exact ⟨heff, fun b hb => (hbins b hb).trans (if_pos hb)⟩

/-- The BIN_STATE notices of a run reset: those of the bins that become CLEARING, then of those that become FREE. -/
def State.clearedNotices (s : State) : List Notice :=
  (binNumbers.filter fun b => (s.bin b).state ∈ [.free, .opened, .fullWait]).map fun b => .binState b .clearing none
def State.freedNotices (s : State) : List Notice :=
  (binNumbers.filter fun b => (s.bin b).state ∉ [.fault, .offline] ∧ s.seenFree b).map fun b => .binState b .free none

/-- A list in which each item that is chosen stands for one value. -/
theorem flatMap_if {α β : Type} (p : α → Bool) (f : α → β) (l : List α) :
    (l.flatMap fun x => if p x then [f x] else []) = (l.filter p).map f := by
  induction l with
  | nil => rfl
  | cons x xs ih => by_cases h : p x <;> simp [h, ih]

/-- Steps 3 and 4 of R162 on a bin whose tray has been dropped. -/
theorem Bin.freedNotices_clear (free : Bool) (b : Nat) (st : BinState) :
    (Bin.clear ⟨st, none⟩).freedNotices free b
      = if decide (st ∉ [.fault, .offline] ∧ free = true) then [.binState b .free none] else [] := by
  cases st <;> cases free <;> simp [Bin.clear, Bin.freedNotices, BinState.cleared]

theorem Bin.freed_clear (free : Bool) (st : BinState) :
    ((Bin.clear ⟨st, none⟩).freed free).tray = none
      ∧ (st ∈ [.fault, .offline] → ((Bin.clear ⟨st, none⟩).freed free).state = st)
      ∧ (st ∉ [.fault, .offline] → ((Bin.clear ⟨st, none⟩).freed free).state = if free then .free else .clearing) := by
  cases st <;> cases free <;> decide

/-- The bins at a run reset: they hold no tray, and each bin that is neither FAULT nor OFFLINE is CLEARING, or FREE
when the sorter head shows it free (R162). -/
theorem State.resetBins_effects (s : State) :
    Effects (s.clearedNotices ++ s.freedNotices) (s.clearedNotices ++ s.freedNotices) 0
        [.bins, .delivery, .closedTrays, .reservations, .stall, .trayCounter] s s.resetBins
      ∧ (∀ b ∈ binNumbers, (s.resetBins.bin b).tray = none
        ∧ ((s.bin b).state ∈ [.fault, .offline] → (s.resetBins.bin b).state = (s.bin b).state)
        ∧ ((s.bin b).state ∉ [.fault, .offline] →
            (s.resetBins.bin b).state = if s.seenFree b then .free else .clearing))
      ∧ s.resetBins.bins.delivery = [] ∧ s.resetBins.bins.closedTrays = [] ∧ s.resetBins.bins.reservations = []
      ∧ s.resetBins.bins.stall = none ∧ s.resetBins.bins.trayCounter = 1 := by
  have hdrop (b : Nat) : (s.onBins BinManager.dropTrays).bin b = { s.bin b with tray := none } := nth_ofFn _ _
  obtain ⟨hclear, hclearBins⟩ := (s.onBins BinManager.dropTrays).clearBins_effects
  obtain ⟨hfree, hfreeBins⟩ := (s.onBins BinManager.dropTrays).clearBins.testAllCleared_effects
  have hseen (b : Nat) : (s.onBins BinManager.dropTrays).clearBins.seenFree b = s.seenFree b := by
    rw [State.seenFree, State.sorterStatus_congr (s := s) (by simp) (by simp)]
    rfl
  simp only [hseen] at hfree hfreeBins
  have hcleared : (binNumbers.flatMap fun b => ((s.onBins BinManager.dropTrays).bin b).clearNotices b)
      = s.clearedNotices := by
    simp only [hdrop, Bin.clearNotices, Option.map_none]
    rw [flatMap_if (fun b => (s.bin b).state.cleared), State.clearedNotices]
    congr 1
    refine List.filter_congr fun b _ => ?_
    cases (s.bin b).state <;> rfl
  have hfreed : (binNumbers.flatMap fun b =>
      ((s.onBins BinManager.dropTrays).clearBins.bin b).freedNotices (s.seenFree b) b) = s.freedNotices := by
    have hone : ∀ b ∈ binNumbers, ((s.onBins BinManager.dropTrays).clearBins.bin b).freedNotices (s.seenFree b) b
        = if decide ((s.bin b).state ∉ [.fault, .offline] ∧ s.seenFree b) then [.binState b .free none] else [] := by
      intro b hb
      rw [hclearBins b hb, hdrop]
      exact Bin.freedNotices_clear _ _ _
    rw [List.flatMap_congr hone, flatMap_if, State.freedNotices]
  rw [hcleared] at hclear
  rw [hfreed] at hfree
  have hbins : Effects (s.clearedNotices ++ s.freedNotices) (s.clearedNotices ++ s.freedNotices) 0 [.bins]
      (s.onBins BinManager.dropTrays) s.resetBins := (hclear.trans hfree).congr rfl rfl (by simp)
  have hdropped : Effects [] [] 0 [.bins, .delivery, .closedTrays, .reservations, .stall, .trayCounter] s
      (s.onBins BinManager.dropTrays) := by
    refine Effects.of_changesOnly (fun b hb => ?_) (by simp) (by simp)
    cases b <;> first | rfl | simp at hb
  refine ⟨hdropped.after (hbins.mono (by simp)), fun b hb => ?_, hbins.frame .delivery (by simp),
    hbins.frame .closedTrays (by simp), hbins.frame .reservations (by simp), hbins.frame .stall (by simp),
    hbins.frame .trayCounter (by simp)⟩
  have hbin : s.resetBins.bin b = (Bin.clear { s.bin b with tray := none }).freed (s.seenFree b) := by
    rw [← hdrop, ← hclearBins b hb]
    exact hfreeBins b hb
  rw [hbin]
  exact Bin.freed_clear _ _

/-! ### The feeders at a run reset (R98) -/

section
variable {k j : Nat} (s : State)

@[simp] theorem State.onFeeder_feeder (f : Feeder → Feeder) : (s.onFeeder k f).feeder k = f (s.feeder k) := by
  simp [State.feeder, State.onFeeder]

theorem State.onFeeder_feeder_ne (f : Feeder → Feeder) (hk : k ∈ feederNumbers) (hj : j ∈ feederNumbers) (h : j ≠ k) :
    (s.onFeeder k f).feeder j = s.feeder j := by
  rw [mem_feederNumbers] at hk hj
  exact nth_setNth_ne _ _ (by omega) (by omega) (by omega)

theorem State.feeder_congr {t : State} (h : t.feeders = s.feeders) : t.feeder k = s.feeder k := by
  simp [State.feeder, h]

end

/-- A feeder's state is derived from the settings, the head line and its miss run (R80). -/
theorem State.derivedFeederState_congr {s t : State} {k : Nat} (hp : t.profile = s.profile) (hh : t.heads = s.heads)
    (hm : (t.feeder k).missRun = (s.feeder k).missRun) : t.derivedFeederState k = s.derivedFeederState k := by
  simp only [State.derivedFeederState, State.feederHeadEntry, hp, hh, hm]

/-- Deriving a feeder's state again with no hold outstanding (R81). -/
theorem State.derive_of_no_hold {s : State} (k : Nat) (h : s.checker.releaseHold = .free) :
    s.derive k = if s.derivedFeederState k = (s.feeder k).state then s
      else (s.onFeeder k fun f => { f with state := s.derivedFeederState k }).notifyBoth
        (.feederState k (s.derivedFeederState k) (s.feeder k).missRun) := by
  unfold State.derive
  by_cases hst : s.derivedFeederState k = (s.feeder k).state
  · simp [hst]
  · have hst' : ¬ (s.feeder k).state = s.derivedFeederState k := fun e => hst e.symm
    simp only [beq_iff_eq, hst, hst', if_false]
    exact if_neg (by simp [State.onFeeder, h])

/-- FEEDER_STATE of feeder `k` with record `x`, when the state derived is a new one. -/
def State.deriveNotices (s : State) (k : Nat) (x : Feeder) : List Notice :=
  if s.derivedFeederState k = x.state then [] else [.feederState k (s.derivedFeederState k) x.missRun]

/-- Deriving one feeder's state again, with no hold outstanding, acts on that feeder alone. -/
theorem State.derive_effects {s : State} {k : Nat} (hk : k ∈ feederNumbers) (h : s.checker.releaseHold = .free) :
    Effects (s.deriveNotices k (s.feeder k)) (s.deriveNotices k (s.feeder k)) 0 [.feeders] s (s.derive k)
      ∧ (s.derive k).feeder k = { s.feeder k with state := s.derivedFeederState k }
      ∧ ∀ j ∈ feederNumbers, j ≠ k → (s.derive k).feeder j = s.feeder j := by
  rw [State.derive_of_no_hold k h, State.deriveNotices]
  by_cases hst : s.derivedFeederState k = (s.feeder k).state
  · simp only [hst, if_true]
    exact ⟨Effects.refl _ _, trivial, fun _ _ _ => trivial⟩
  · simp only [hst, if_false]
    have hfeeder (j : Nat) (n : Notice) (u : State) : (u.notifyBoth n).feeder j = u.feeder j :=
      State.feeder_congr u (by simp)
    simp only [hfeeder]
    refine ⟨Effects.after (Effects.of_changesOnly (fun b hb => ?_) (by simp) (by simp))
      ((State.notifyBoth_effects _ _).mono (by simp)), s.onFeeder_feeder _, fun j hj hne =>
      s.onFeeder_feeder_ne _ hk hj hne⟩
    cases b <;> first | rfl | simp at hb

/-- What deriving the feeders' states reads, beside the states themselves, is as in `s`, and no hold is outstanding. -/
def State.DerivesAs (s u : State) : Prop :=
  u.checker.releaseHold = .free ∧ u.profile = s.profile ∧ u.heads = s.heads
    ∧ ∀ k ∈ feederNumbers, (u.feeder k).missRun = (s.feeder k).missRun

theorem State.DerivesAs.derive {s u : State} {k : Nat} (hk : k ∈ feederNumbers) (h : s.DerivesAs u) :
    s.DerivesAs (u.derive k) := by
  obtain ⟨hhold, hprofile, hheads, hmiss⟩ := h
  obtain ⟨heff, hone, hother⟩ := State.derive_effects hk hhold
  refine ⟨(heff.frame .releaseHold (by simp)).trans hhold, by simpa using hprofile, by simpa using hheads,
    fun j hj => ?_⟩
  by_cases hjk : j = k
  · subst hjk
    rw [hone]
    exact hmiss j hj
  · rw [hother j hj hjk]
    exact hmiss j hj

/-- The state of every feeder derived again with no hold outstanding: FEEDER_STATE of each whose state changes, in feeder
order (R81, R98). -/
theorem State.deriveAll_effects {s : State} (h : s.checker.releaseHold = .free) :
    (∀ k ∈ feederNumbers, s.deriveAll.feeder k = { s.feeder k with state := s.derivedFeederState k })
      ∧ Effects (feederNumbers.flatMap fun k => feederNotices k s s.deriveAll)
          (feederNumbers.flatMap fun k => feederNotices k s s.deriveAll) 0 [.feeders] s s.deriveAll := by
  have hg : ∀ u k, k ∈ feederNumbers → s.DerivesAs u → s.DerivesAs (u.derive k)
      ∧ Effects (s.deriveNotices k (u.feeder k)) (s.deriveNotices k (u.feeder k)) 0 [.feeders] u (u.derive k)
      ∧ (u.derive k).feeder k = { u.feeder k with state := s.derivedFeederState k }
      ∧ ∀ j ∈ feederNumbers, j ≠ k → (u.derive k).feeder j = u.feeder j := by
    intro u k hk hu
    obtain ⟨hhold, hprofile, hheads, hmiss⟩ := id hu
    have hd : u.derivedFeederState k = s.derivedFeederState k :=
      State.derivedFeederState_congr hprofile hheads (hmiss k hk)
    have hone := State.derive_effects hk hhold
    rw [State.deriveNotices, hd] at hone
    exact ⟨hu.derive hk, hone⟩
  obtain ⟨-, heff, hfeeders⟩ := foldl_effects (read := State.feeder) (notices := s.deriveNotices)
    (f := fun k x => { x with state := s.derivedFeederState k }) hg (fun _ h => h) (by decide) s
    ⟨h, rfl, rfl, fun _ _ => rfl⟩
  have hall : ∀ k ∈ feederNumbers, s.deriveAll.feeder k = { s.feeder k with state := s.derivedFeederState k } :=
    fun k hk => (hfeeders k hk).trans (if_pos hk)
  have hnotices : (feederNumbers.flatMap fun k => feederNotices k s s.deriveAll)
      = feederNumbers.flatMap fun k => s.deriveNotices k (s.feeder k) :=
    List.flatMap_congr fun k hk => by simp only [feederNotices, hall k hk, State.deriveNotices]
  rw [hnotices]
  exact ⟨hall, heff⟩

/-- The feeders with their miss runs and taken counts at 0 (R98). -/
def State.zeroFeeders (s : State) : State :=
  s.onFeeders fun v => Vector.ofFn fun i => { v[i] with missRun := 0, takenCount := 0 }

theorem State.zeroFeeders_feeder (s : State) (k : Nat) :
    s.zeroFeeders.feeder k = { s.feeder k with missRun := 0, takenCount := 0 } := nth_ofFn _ _

/-- The feeders at a run reset (R98). -/
theorem State.resetFeeders_effects {s : State} (h : s.checker.releaseHold = .free) :
    (∀ k ∈ feederNumbers, s.resetFeeders.feeder k =
        { s.feeder k with missRun := 0, takenCount := 0, state := s.resetFeeders.derivedFeederState k })
      ∧ Effects (feederNumbers.flatMap fun k => feederNotices k s s.resetFeeders)
          (feederNumbers.flatMap fun k => feederNotices k s s.resetFeeders) 0 [.feeders] s s.resetFeeders := by
  obtain ⟨hall, heff⟩ := State.deriveAll_effects (s := s.zeroFeeders) h
  have hreset : s.resetFeeders = s.zeroFeeders.deriveAll := rfl
  have hderived (k : Nat) (hk : k ∈ feederNumbers) :
      s.resetFeeders.derivedFeederState k = s.zeroFeeders.derivedFeederState k := by
    refine State.derivedFeederState_congr (by simp [hreset]) (by simp [hreset]) ?_
    rw [hreset, hall k hk]
  have hnotices : (feederNumbers.flatMap fun k => feederNotices k s s.resetFeeders)
      = feederNumbers.flatMap fun k => feederNotices k s.zeroFeeders s.resetFeeders :=
    List.flatMap_congr fun k _ => by simp only [feederNotices, State.zeroFeeders_feeder]
  rw [hnotices]
  refine ⟨fun k hk => ?_, Effects.after (Effects.of_changesOnly (fun b hb => ?_) (by simp) (by simp)) heff⟩
  · rw [hderived k hk, hreset, hall k hk, State.zeroFeeders_feeder]
  · cases b <;> first | rfl | simp at hb

/-- Deriving the feeders again with no hold outstanding leaves the Collation Checker alone. -/
theorem State.resetFeeders_checker {s : State} (h : s.checker.releaseHold = .free) :
    s.resetFeeders.checker = s.checker := by
  have hframe := (State.resetFeeders_effects h).2.frame
  have hforming := hframe .forming (by simp)
  have hready := hframe .ready (by simp)
  have hcursor := hframe .cursor (by simp)
  have horphan := hframe .orphanRun (by simp)
  have hintake := hframe .intakeState (by simp)
  have hhold := hframe .releaseHold (by simp)
  simp only [Block.same] at hforming hready hcursor horphan hintake hhold
  cases hc : s.resetFeeders.checker
  cases hd : s.checker
  simp_all

theorem feederNotices_congr {s t u v : State} {k : Nat} (hs : s.feeder k = u.feeder k) (ht : t.feeder k = v.feeder k) :
    feederNotices k s t = feederNotices k u v := by
  rw [feederNotices, feederNotices, hs, ht]

/-! ### What the answer to a frame leaves -/

section
variable (s : State) (p : Port) (f : List Byte) (r : Reply)

@[simp] theorem State.dropFrame_feeder (k : Nat) : (s.dropFrame p).feeder k = s.feeder k := rfl

@[simp] theorem State.dropFrame_bin (b : Nat) : (s.dropFrame p).bin b = s.bin b := rfl

@[simp] theorem State.answerFrame_bin (b : Nat) : (s.answerFrame p f r).bin b = s.bin b := rfl

@[simp] theorem State.answerFrame_feeder (k : Nat) : (s.answerFrame p f r).feeder k = s.feeder k := rfl

@[simp] theorem State.answerFrame_derivedFeederState (k : Nat) :
    (s.answerFrame p f r).derivedFeederState k = s.derivedFeederState k := rfl

end

/-! ### RUN_RESET (R196) -/

/-- The run table, the collation records, the track queue and the census at a run reset (R25, R53, R118, R137). -/
def State.resetRunBlocks (s : State) : State :=
  ((s.resetRunTable.onChecker fun _ => Checker.powerOn).onTrack fun _ => TrackQueue.powerOn).onCensus fun _ => []

/-- OUTCOMES_DISCARDED, when the table held a record (R25). -/
def State.discardFlag (s : State) : FlagSet := if s.run.pieces = [] then 0 else StickyFlag.outcomesDiscarded.bit

theorem State.runReset_eq (s : State) :
    s.runReset = s.resetRunBlocks.resetBins.resetFeeders.notifyBoth (.runState .closed) := rfl

theorem State.resetRunBlocks_effects (s : State) : Effects [] [] s.discardFlag
    [.runState, .pieces, .outcomes, .forming, .ready, .cursor, .orphanRun, .intakeState, .releaseHold, .entries,
      .allocator, .census] s s.resetRunBlocks := by
  have hflag : Effects [] [] s.discardFlag [] s (if s.run.pieces.isEmpty then s else s.raise .outcomesDiscarded) := by
    rw [State.discardFlag]
    by_cases h : s.run.pieces = []
    · simpa [h] using Effects.refl [] s
    · simpa [h] using s.raise_effects .outcomesDiscarded
  refine (hflag.mono (by simp)).before (Effects.of_changesOnly (fun b hb => ?_) (by simp) (by simp))
  cases b <;> first | rfl | simp at hb

theorem State.resetRunBlocks_values (s : State) :
    s.resetRunBlocks.run = { s.run with runState := .closed, pieces := [], outcomes := [] }
      ∧ s.resetRunBlocks.checker = ⟨none, none, 0, 0, .inSync, .free⟩ ∧ s.resetRunBlocks.track = ⟨[], 0⟩
      ∧ s.resetRunBlocks.census = [] ∧ s.resetRunBlocks.feeders = s.feeders ∧ s.resetRunBlocks.bins = s.bins
      ∧ s.resetRunBlocks.profile = s.profile ∧ s.resetRunBlocks.heads = s.heads := by
  unfold State.resetRunBlocks State.resetRunTable
  split <;> exact ⟨rfl, rfl, rfl, rfl, rfl, rfl, rfl, rfl⟩

/-- The feeders after a run reset, each derived again from a miss run of 0 (R98). -/
theorem State.runReset_feeders (s : State) :
    (∀ k ∈ feederNumbers, s.runReset.feeder k =
        { s.feeder k with missRun := 0, takenCount := 0, state := s.runReset.derivedFeederState k })
      ∧ Effects (feederNumbers.flatMap fun k => feederNotices k s s.runReset)
          (feederNumbers.flatMap fun k => feederNotices k s s.runReset) 0 [.feeders] s.resetRunBlocks.resetBins
          s.resetRunBlocks.resetBins.resetFeeders := by
  obtain ⟨-, hchecker, -, -, hfeeders, -⟩ := s.resetRunBlocks_values
  obtain ⟨hall, heff⟩ := State.resetFeeders_effects (s := s.resetRunBlocks.resetBins) (by simp [hchecker])
  have hbefore (k : Nat) : s.resetRunBlocks.resetBins.feeder k = s.feeder k := State.feeder_congr _ (by simp [hfeeders])
  have hafter (k : Nat) : s.runReset.feeder k = s.resetRunBlocks.resetBins.resetFeeders.feeder k :=
    State.feeder_congr _ (by simp [State.runReset_eq])
  have hderived (k : Nat) :
      s.runReset.derivedFeederState k = s.resetRunBlocks.resetBins.resetFeeders.derivedFeederState k :=
    State.derivedFeederState_congr (by simp [State.runReset_eq]) (by simp [State.runReset_eq]) (by rw [hafter])
  constructor
  · intro k hk
    rw [hafter, hall k hk, hbefore, hderived]
  · simpa only [feederNotices, hafter, hbefore] using heff

theorem State.runReset_checker (s : State) : s.runReset.checker = ⟨none, none, 0, 0, .inSync, .free⟩ := by
  obtain ⟨-, hchecker, -⟩ := s.resetRunBlocks_values
  have hbins : s.resetRunBlocks.resetBins.checker = ⟨none, none, 0, 0, .inSync, .free⟩ := by simp [hchecker]
  rw [State.runReset_eq, (State.notifyBoth_fields _ _).2.1, State.resetFeeders_checker (by rw [hbins]), hbins]

/-- The notices of a run reset, in order (R98, R162, R196). -/
def State.runResetNotices (s : State) : List Notice :=
  s.clearedNotices ++ s.freedNotices ++ (feederNumbers.flatMap fun k => feederNotices k s s.runReset)
    ++ [.runState .closed]

/-- The blocks a run reset empties. -/
def runResetBlocks : List Block :=
  [.runState, .pieces, .outcomes, .forming, .ready, .cursor, .orphanRun, .intakeState, .releaseHold, .feeders, .entries,
    .allocator, .census, .bins, .delivery, .closedTrays, .reservations, .stall, .trayCounter]

theorem State.runReset_effects (s : State) :
    Effects s.runResetNotices s.runResetNotices s.discardFlag runResetBlocks s s.runReset := by
  obtain ⟨-, -, -, -, -, hbins, hprofile, hheads⟩ := s.resetRunBlocks_values
  have hbin (b : Nat) : s.resetRunBlocks.bin b = s.bin b := State.bin_congr _ hbins
  have hseen (b : Nat) : s.resetRunBlocks.seenFree b = s.seenFree b := by
    rw [State.seenFree, State.sorterStatus_congr hprofile hheads]
    rfl
  obtain ⟨heff, -⟩ := s.resetRunBlocks.resetBins_effects
  simp only [State.clearedNotices, State.freedNotices, hbin, hseen] at heff
  obtain ⟨-, hfeeders⟩ := s.runReset_feeders
  have hall := ((s.resetRunBlocks_effects.mono (cs := runResetBlocks) (by decide)).trans
    (heff.mono (by decide))).trans
    ((hfeeders.mono (by decide)).trans ((State.notifyBoth_effects (.runState .closed) _).mono (by decide)))
  refine (hall.congr ?_ ?_ (by simp)) <;>
    simp [State.runResetNotices, State.clearedNotices, State.freedNotices]

/-- What a run reset leaves of the bins (R162). -/
theorem State.runReset_bins (s : State) :
    (∀ b ∈ binNumbers, (s.runReset.bin b).tray = none
        ∧ ((s.bin b).state ∈ [.fault, .offline] → (s.runReset.bin b).state = (s.bin b).state)
        ∧ ((s.bin b).state ∉ [.fault, .offline] →
            (s.runReset.bin b).state = if s.seenFree b then .free else .clearing))
      ∧ s.runReset.bins.delivery = [] ∧ s.runReset.bins.closedTrays = [] ∧ s.runReset.bins.reservations = []
      ∧ s.runReset.bins.stall = none ∧ s.runReset.bins.trayCounter = 1 := by
  obtain ⟨-, -, -, -, -, hbins, hprofile, hheads⟩ := s.resetRunBlocks_values
  have hbin (b : Nat) : s.resetRunBlocks.bin b = s.bin b := State.bin_congr _ hbins
  have hseen (b : Nat) : s.resetRunBlocks.seenFree b = s.seenFree b := by
    rw [State.seenFree, State.sorterStatus_congr hprofile hheads]
    rfl
  have hafter : s.runReset.bins = s.resetRunBlocks.resetBins.bins := by simp [State.runReset_eq]
  obtain ⟨-, hall, hlists⟩ := s.resetRunBlocks.resetBins_effects
  rw [hafter]
  refine ⟨fun b hb => ?_, hlists⟩
  rw [State.bin_congr _ hafter]
  simpa only [hbin, hseen] using hall b hb

end Sys2Proof.Machine

open Sys2Proof Sys2Proof.Machine

/-- Settles O24: the blocks are emptied one after another, and the bins and the feeders send their notices in turn. -/
theorem runResetEmptiesTheBlocks : Obligations.RunResetEmptiesTheBlocks := by
  intro p s hdue seenFree cleared freed
  have hper : RequestKind.runReset.permitted p = true := by cases p <;> rfl
  refine ⟨fun hstopped => ?_, fun hrunning => ?_⟩
  · have hb : RequestKind.runReset.body p [] (s.dropFrame p)
        = ((s.dropFrame p).runReset, done [.code .count s.run.pieces.length]) := by
      simp [RequestKind.body, runResetBody, hstopped]
    obtain ⟨hexec, hans, hhap⟩ := exec_due_effects (k := .runReset) hdue hper rfl hb
      (State.runReset_effects _) (by simp [runResetBlocks])
    obtain ⟨hrun, -, htrack, hcensus, -⟩ := (s.dropFrame p).resetRunBlocks_values
    have hchecker := (s.dropFrame p).runReset_checker
    obtain ⟨hbins, hdelivery, hclosed, hreservations, hstall, hcounter⟩ := (s.dropFrame p).runReset_bins
    obtain ⟨hfeeders, -⟩ := (s.dropFrame p).runReset_feeders
    refine ⟨_, hexec, hans, ?_, ?_, ?_, ?_, by simpa using hdelivery, by simpa using hclosed,
      by simpa using hreservations, by simpa using hstall, by simpa using hcounter, fun b hb => ?_, fun k hk => ?_, ?_, ?_⟩
    · simp [State.runReset_eq, hrun]
    · simpa using hchecker
    · simp [State.runReset_eq, htrack]
    · simp [State.runReset_eq, hcensus]
    · simp only [State.answerFrame_bin]
      exact hbins b hb
    · simp only [State.answerFrame_feeder, State.answerFrame_derivedFeederState]
      exact hfeeders k hk
    · simp [State.answerFrame_outputs, State.outputs, State.holdOutput, State.stallCondition, State.syncCondition,
        State.releaseCondition, hstall, hchecker]
    · have hnotices (k : Nat) : feederNotices k s ((s.dropFrame p).runReset.answerFrame p (requestFrame .runReset [])
          (done [.code .count s.run.pieces.length]))
          = feederNotices k (s.dropFrame p) (s.dropFrame p).runReset :=
        feederNotices_congr (by rw [State.dropFrame_feeder]) (by rw [State.answerFrame_feeder])
      simp only [hnotices]
      exact hhap
  · exact exec_due_unchanged (k := .runReset) (r := refuse .wrongState) hdue hper rfl
      (by simp [RequestKind.body, runResetBody, hrunning])
end

section
/-! A RELEASE that diverts (R43 to R48). -/

namespace Sys2Proof.Machine

/-! ### The test of a draining run (R4) -/

section
variable {s : State}

theorem State.drainTest_closes (hd : s.run.runState = .draining) (hl : s.lineEmpty = true) :
    s.drainTest = s.closeNow := by simp [State.drainTest, hd, hl]

theorem State.drainTest_stays (h : ¬ (s.run.runState = .draining ∧ s.lineEmpty = true)) : s.drainTest = s := by
  unfold State.drainTest
  exact if_neg (by simpa [Bool.and_eq_true] using h)

theorem State.drainTest_changes : ChangesOnly (.runState :: gateBlocks) s s.drainTest := by
  unfold State.drainTest
  split
  · exact State.closeNow_changes _
  · exact ChangesOnly.refl _ _

/-- The run closes or stays as it was; of the run table, only its state changes. -/
theorem State.drainTest_run : s.drainTest.run.pieces = s.run.pieces ∧ s.drainTest.run.outcomes = s.run.outcomes := by
  unfold State.drainTest
  split
  · simp [(State.closeNow_values s).1]
  · exact ⟨rfl, rfl⟩

end

/-! ### The ready record empties (R47, R48) -/

/-- The Collation Checker after a verdict other than HOLD: a waiting collation has moved to the ready record. -/
def Checker.emptied (k : Checker) : Checker :=
  { k with
    ready := if k.waiting then k.forming else none
    forming := if k.waiting then none else k.forming
    releaseHold := .free }

/-- The state in which the Run Table makes the test of R4. -/
def State.unready (s : State) : State := s.onChecker Checker.emptied

theorem State.emptyReady_eq (s : State) : s.emptyReady = s.unready.drainTest := by
  have h (k : Checker) : ({ k with ready := none, releaseHold := .free } : Checker).settleForming = k.emptied := by
    unfold Checker.settleForming Checker.emptied Checker.waiting
    cases k.forming.elim false Collation.ended <;> rfl
  unfold State.emptyReady State.unready
  congr 2
  exact funext h

theorem State.unready_changes (s : State) : ChangesOnly [.ready, .forming, .releaseHold] s s.unready := by
  intro b hb
  cases b <;> first | rfl | simp at hb

/-- Whether a draining run closes in `t`: it was draining, and nothing is left in the two records and on the track. -/
def State.ClosesIn (s t : State) : Prop :=
  s.run.runState = .draining ∧ t.checker.forming = none ∧ t.checker.ready = none ∧ s.track.entries = []

/-- A draining run that closes is CLOSED, its census is empty, and RUN_STATE(CLOSED) is the last notice (R4). -/
def State.ClosedLast (t : State) : Prop :=
  t.run.runState = .closed ∧ t.census = []
    ∧ ∀ q, (t.port q).notices.length < 16 → (t.port q).notices.getLast? = some (.runState .closed)

theorem State.closeNow_closedLast (s : State) : s.closeNow.ClosedLast := by
  obtain ⟨hrun, hcensus, hnotices⟩ := s.closeNow_values
  refine ⟨by rw [hrun], hcensus, fun q hq => ?_⟩
  obtain ⟨ns, hns⟩ := hnotices q
  rw [hns] at hq ⊢
  exact getLast?_pushNotice hq

theorem State.ClosedLast.answerFrame {t : State} (h : t.ClosedLast) (p : Port) (f : List Byte) (r : Reply) :
    (t.answerFrame p f r).ClosedLast := by
  simpa [State.ClosedLast] using h

/-- The blocks a RELEASE that diverts may change. -/
def releaseBlocks : List Block := .runState :: .ready :: .forming :: .releaseHold :: .pieces :: .outcomes :: gateBlocks

section
variable {s v : State}

/-- The state in which the ready record has emptied, after the one re-evaluation of the event. -/
theorem State.emptyReady_values (hstate : v.run.runState = s.run.runState) (htrack : v.track = s.track) :
    let t := v.emptyReady.afterEvent s
    t.checker = v.checker.emptied ∧ t.run.pieces = v.run.pieces ∧ t.run.outcomes = v.run.outcomes
      ∧ (s.ClosesIn t → t.ClosedLast) ∧ (¬ s.ClosesIn t → t = v.unready.afterEvent s) := by
  intro t
  have hchecker : t.checker = v.checker.emptied := by simp [t, State.emptyReady_eq, State.unready]
  obtain ⟨hpieces, houtcomes⟩ := v.unready.drainTest_run
  have hline : v.unready.run.runState = .draining ∧ v.unready.lineEmpty = true ↔ s.ClosesIn t := by
    rw [State.lineEmpty_iff, State.ClosesIn, hchecker, ← hstate, ← htrack]
    rfl
  refine ⟨hchecker, by simpa [t, State.emptyReady_eq, State.unready] using hpieces,
    by simpa [t, State.emptyReady_eq, State.unready] using houtcomes, fun h => ?_, fun h => ?_⟩
  · obtain ⟨hdraining, hempty⟩ := hline.2 h
    have hclose : v.emptyReady = v.unready.closeNow := by
      rw [State.emptyReady_eq, State.drainTest_closes hdraining hempty]
    have hentries : v.unready.closeNow.track.entries = [] := by
      simpa [State.unready, htrack] using h.2.2.2
    have ht : t = v.unready.closeNow := by
      simp only [t, hclose, State.afterEvent_of_no_entries _ _ hentries]
    rw [ht]
    exact State.closeNow_closedLast _
  · simp only [t, State.emptyReady_eq, State.drainTest_stays (mt hline.1 h)]

theorem State.emptyReady_changes (h : ChangesOnly releaseBlocks s v) :
    ChangesOnly releaseBlocks s (v.emptyReady.afterEvent s) := by
  rw [State.emptyReady_eq]
  exact ((h.trans ((State.unready_changes v).mono (by decide))).trans (State.drainTest_changes.mono (by decide))).trans
    ((State.afterEvent_changes _ _).mono (by decide))

end

/-! ### Finishing, in two parts (R19) -/

/-- The record finished and joined to the outcome order, with OUTCOMES when that was empty; the census has not been told
yet (R19). -/
def State.finishRecord (id : PieceId) (d : Disposition) (s : State) : State :=
  let s1 := (s.onPiece id (Piece.finish d)).onRun fun t => { t with outcomes := t.outcomes ++ [id] }
  if s.run.outcomes.isEmpty then s1.notify .plan .outcomes else s1

/-- OUTCOMES, when the outcome order was empty (R19). -/
def State.outcomesNotice (s : State) : List Notice := if s.run.outcomes = [] then [.outcomes] else []

section
variable {s : State} {id : PieceId} {r : Piece} {d : Disposition}

theorem State.finish_eq (h : s.piece? id = some r) (hr : r.state ≠ .finished) :
    s.finish id d = (s.finishRecord id d).withdraw r := by
  unfold State.finish
  simp only [h, beq_iff_eq, hr, if_false]
  rfl

theorem State.finishRecord_effects :
    Effects [] s.outcomesNotice 0 [.pieces, .outcomes] s (s.finishRecord id d) := by
  have hrun : Effects [] [] 0 [.pieces, .outcomes] s
      ((s.onPiece id (Piece.finish d)).onRun fun t => { t with outcomes := t.outcomes ++ [id] }) := by
    refine Effects.of_changesOnly (fun b hb => ?_) (by simp) (by simp)
    cases b <;> first | rfl | simp at hb
  unfold State.finishRecord State.outcomesNotice
  by_cases h : s.run.outcomes = []
  · simpa [h] using hrun.after ((State.notify_plan_effects .outcomes _).mono (by simp))
  · simpa [h] using hrun

/-- The census is not told of a record it does not count (R126). -/
theorem State.withdraw_uncounted (h : r.census ≠ .counted) : s.withdraw r = s := by
  unfold State.withdraw
  split
  · next hc => exact absurd hc h
  · rfl
  · rfl
  · rfl

/-- Finishing a record that the census does not count. -/
theorem State.finish_uncounted (h : s.piece? id = some r) (hr : r.state ≠ .finished) (hc : r.census ≠ .counted) :
    Effects [] s.outcomesNotice 0 [.pieces, .outcomes] s (s.finish id d) := by
  rw [State.finish_eq h hr, State.withdraw_uncounted hc]
  exact State.finishRecord_effects

theorem State.addCause_effects (c : Cause) : Effects [] [] 0 [.pieces] s (s.addCause id c) :=
  Effects.of_changesOnly (State.onPiece_changes _ _ _) (by simp) (by simp)

theorem State.piece?_addCause (c : Cause) : (s.addCause id c).piece? id = (s.piece? id).map (Piece.addCause c) :=
  State.piece?_onPiece (Piece.addCause_id c)

@[simp] theorem Piece.addCause_census (c : Cause) (r : Piece) : (r.addCause c).census = r.census := by
  unfold Piece.addCause; split <;> rfl

/-- What finishing a record does to the run table, once a cause has been added to it. -/
theorem State.finish_run_of_addCause {u : State} (c : Cause) (h : s.piece? id = some r) (hr : r.state ≠ .finished)
    (hu : u.run = (s.addCause id c).run) : (u.finish id d).run = { s.run with
      pieces := s.run.pieces.map fun x => if x.id = id then (x.addCause c).finish d else x
      outcomes := s.run.outcomes ++ [id] } := by
  have hadd : u.piece? id = some (r.addCause c) := by
    have hsame : u.piece? id = (s.addCause id c).piece? id := by simp only [State.piece?, hu]
    rw [hsame, State.piece?_addCause, h, Option.map_some]
  rw [State.finish_run d hadd (by simpa using hr), hu, State.addCause, State.onPiece_pieces]
  simp only [List.map_map, RunTable.mk.injEq, true_and, and_true]
  refine List.map_congr_left fun x _ => ?_
  by_cases hx : x.id = id <;> simp [hx]

/-- Adding a cause to a record and finishing it, when the census does not count it. -/
theorem State.addCause_finish_uncounted (c : Cause) (h : s.piece? id = some r) (hr : r.state ≠ .finished)
    (hc : r.census ≠ .counted) :
    Effects [] s.outcomesNotice 0 [.pieces, .outcomes] s ((s.addCause id c).finish id d) := by
  have hadd : (s.addCause id c).piece? id = some (r.addCause c) := by rw [State.piece?_addCause, h, Option.map_some]
  exact ((State.addCause_effects c).mono (by decide)).after
    (State.finish_uncounted hadd (by simpa using hr) (by simpa using hc))

end

/-! ### The body of RELEASE -/

section
variable {flush : Bool} {c : Collation} {r : Piece} {s : State}

theorem yesNoAt_toBytes (b : Bool) : yesNoAt (toBytes 1 (yesNo b)) 0 = some b := by cases b <;> rfl

theorem releaseBody_ready (h : s.checker.ready = some c) : releaseBody (toBytes 1 (yesNo flush)) s
    = ((s.releaseVerdict c).1.afterEvent s, done (s.releaseVerdict c).2.values) := by
  simp only [releaseBody, yesNoAt_toBytes, h]

/-- A flush ends the open forming record, which is judged in the same request (R43). -/
theorem releaseBody_flush {c' : Collation} (hready : s.checker.ready = none) (hforming : s.checker.forming = some c)
    (hopen : c.ended = false) (h : (s.flushForming c).checker.ready = some c') :
    releaseBody (toBytes 1 (yesNo true)) s
      = (((s.flushForming c).releaseVerdict c').1.afterEvent s, done ((s.flushForming c).releaseVerdict c').2.values) := by
  have hof : s.checker.openForming = some c := by simp [Checker.openForming, hforming, hopen]
  simp only [releaseBody, yesNoAt_toBytes, hready, hof, h, if_true]

theorem State.releaseVerdict_orphan (h : c.owner = .orphan) :
    s.releaseVerdict c = (s.emptyReady, .divert none none false c.joined) := by
  simp only [State.releaseVerdict, h]

theorem State.releaseVerdict_unclean (h : c.owner = .piece r.id) (hr : s.piece? r.id = some r)
    (hc : c.clean r.sheets = false ∨ r.cancelPending = true) :
    s.releaseVerdict c
      = ((s.finish r.id .diverted).emptyReady, .divert (some r.id) r.faults.head? r.cancelPending c.joined) := by
  simp only [State.releaseVerdict, h, hr]
  exact if_pos (by simpa using hc)

theorem State.releaseVerdict_unavailable (h : c.owner = .piece r.id) (hr : s.piece? r.id = some r)
    (hc : c.clean r.sheets = true) (hcancel : r.cancelPending = false) (hu : s.unavailable r ≠ [])
    (hp : s.profile.limits.feederPolicy = .divert) :
    s.releaseVerdict c = (((s.addCause r.id .feederUnavailable).finish r.id .diverted).emptyReady,
      .divert (some r.id) (some .feederUnavailable) false c.joined) := by
  simp only [State.releaseVerdict, h, hr]
  rw [if_neg (by simp [hc, hcancel]), State.releaseClean, if_pos (by simpa using hu)]
  simp only [hp]

/-- A collation is clean when it has ended without faults and has every sheet (R28). -/
theorem Collation.clean_iff (h : c.owner = .piece r.id) : c.clean r.sheets = true ↔
    c.ended = true ∧ c.faults = [] ∧ ∀ i, 1 ≤ i → i ≤ r.sheets → i ∈ c.accepted := by
  have hall : (∀ i < r.sheets, i + 1 ∈ c.accepted) ↔ ∀ i, 1 ≤ i → i ≤ r.sheets → i ∈ c.accepted := by
    constructor
    · intro hi i h1 h2
      have := hi (i - 1) (by omega)
      rwa [Nat.sub_add_cancel h1] at this
    · exact fun hi i h => hi (i + 1) (by omega) (by omega)
  simp [Collation.clean, h, hall, and_assoc]

/-- What a flush leaves: the forming record, ended, in the ready record, and MISSING_SHEET in its piece. -/
theorem State.flushForming_checker (hready : s.checker.ready = none) :
    (s.flushForming c).checker = { s.checker with
      forming := none
      ready := some { (match c.owner with
        | .piece _ => c.addFault .missingSheet
        | .orphan => c) with ended := true } } := by
  unfold State.flushForming
  cases h : c.owner with
  | orphan => simp [State.setForming, Checker.settleForming, Checker.waiting, hready, h]
  | piece id => simp [State.setForming, Checker.settleForming, Checker.waiting, hready]

end

/-! ### A verdict that empties the ready record -/

/-- A RELEASE whose verdict leaves `v` before the ready record empties. -/
theorem release_diverts {pl : List Byte} {s v : State} {values : List Value} (hdue : Due .release .track pl s)
    (hlen : pl.length = 1)
    (hb : releaseBody pl (s.dropFrame .track) = (v.emptyReady.afterEvent (s.dropFrame .track), done values))
    (hstate : v.run.runState = s.run.runState) (htrack : v.track = s.track)
    (hc : ChangesOnly releaseBlocks (s.dropFrame .track) v) :
    ∃ t, exec (.release .track) s = .next t ∧ t.checker = v.checker.emptied
      ∧ Answered .track .release .done values s t
      ∧ t.run.pieces = v.run.pieces ∧ t.run.outcomes = v.run.outcomes
      ∧ ((s.ClosesIn t → t.ClosedLast) ∧ (¬ s.ClosesIn t → t.run.runState = s.run.runState)
        ∧ ChangesOnly (requestBlocks .track ++ releaseBlocks ++ [.pins]) s t)
      ∧ ∀ plan bs, ¬ s.ClosesIn t → Effects [] plan 0 bs (s.dropFrame .track) v →
        (∀ b ∈ bs, b ∈ [.ready, .forming, .releaseHold, .pieces, .outcomes]) →
        Happened [] plan 0 (requestBlocks .track ++ ([.ready, .forming, .releaseHold] ++ bs)) s t := by
  have hlength : RequestKind.release.lengthAllowed pl.length = true := by simp [RequestKind.lengthAllowed, hlen]
  obtain ⟨hchecker, hpieces, houtcomes, hcloses, hstays⟩ :=
    State.emptyReady_values (s := s.dropFrame .track) (v := v) hstate htrack
  obtain ⟨hexec, hans, hchanges⟩ := exec_due_changes (k := .release) hdue rfl hlength hb (by decide)
    (State.emptyReady_changes hc)
  have hsame : s.ClosesIn ((v.emptyReady.afterEvent (s.dropFrame .track)).answerFrame .track (requestFrame .release pl)
      (done values)) ↔ (s.dropFrame .track).ClosesIn (v.emptyReady.afterEvent (s.dropFrame .track)) := Iff.rfl
  refine ⟨_, hexec, hchecker, hans, hpieces, houtcomes,
    ⟨fun h => (hcloses (hsame.1 h)).answerFrame _ _ _, fun h => ?_, hchanges⟩, fun plan bs h heff hbs => ?_⟩
  · rw [hstays (mt hsame.2 h)]
    simpa [State.unready] using hstate
  · have hempty : Effects [] plan 0 ([.ready, .forming, .releaseHold] ++ bs) (s.dropFrame .track) v.unready :=
      (heff.mono fun b hb => List.mem_append_right _ hb).before
        (Effects.of_changesOnly ((State.unready_changes v).mono fun b hb => List.mem_append_left _ hb)
          (fun p hp => by simpa using hbs (.notices p) (by simpa using hp))
          (fun hf => by simpa using hbs .flags (by simpa using hf)))
    have hbins : v.unready.bins.table = (s.dropFrame .track).bins.table :=
      heff.frame .bins (fun hf => by simpa using hbs .bins (by simpa using hf))
    rw [hstays (mt hsame.2 h), State.afterEvent_of_same_bins hbins]
    rw [hstays (mt hsame.2 h), State.afterEvent_of_same_bins hbins] at hb
    obtain ⟨-, -, hhap⟩ := exec_due_effects (k := .release) hdue rfl hlength hb hempty
      ⟨fun hf => by simpa using hbs (.intake .track) (by simpa using hf),
        fun hf => by simpa using hbs (.responses .track) (by simpa using hf)⟩
    exact hhap

theorem State.settleForming_changes (s : State) :
    ChangesOnly [.ready, .forming] s (s.onChecker Checker.settleForming) := by
  have hk (k : Checker) : k.settleForming.cursor = k.cursor ∧ k.settleForming.orphanRun = k.orphanRun
      ∧ k.settleForming.intake = k.intake ∧ k.settleForming.releaseHold = k.releaseHold := by
    unfold Checker.settleForming; split <;> simp
  obtain ⟨hcursor, horphan, hintake, hhold⟩ := hk s.checker
  intro b hb
  cases b <;> first
    | rfl
    | exact hcursor
    | exact horphan
    | exact hintake
    | exact hhold
    | simp at hb

theorem State.setForming_changes (c : Collation) (s : State) : ChangesOnly [.ready, .forming] s (s.setForming c) := by
  intro b hb
  cases b <;> first | rfl | simp at hb

/-- What a flush that ends a piece collation does: MISSING_SHEET in the piece, and the collation is ready (R43). -/
theorem State.flushForming_piece {c : Collation} {id : PieceId} {s : State} (h : c.owner = .piece id) :
    (s.flushForming c).run = (s.addCause id .missingSheet).run
      ∧ Effects [] [] 0 [.ready, .forming, .pieces] s (s.flushForming c) := by
  refine ⟨by simp [State.flushForming, h], Effects.of_changesOnly ?_ (by simp) (by simp)⟩
  unfold State.flushForming
  rw [h]
  exact ((State.onPiece_changes _ _ _).mono (by decide)).trans
    (((State.setForming_changes _ _).mono (by decide)).trans ((State.settleForming_changes _).mono (by decide)))

/-- A flush that ends an orphan changes the Collation Checker alone. -/
theorem State.flushForming_orphan {c : Collation} {s : State} (h : c.owner = .orphan) :
    (s.flushForming c).run = s.run ∧ Effects [] [] 0 [.ready, .forming] s (s.flushForming c) := by
  refine ⟨by simp [State.flushForming, h], Effects.of_changesOnly ?_ (by simp) (by simp)⟩
  unfold State.flushForming
  rw [h]
  exact (State.setForming_changes _ _).trans (State.settleForming_changes _)

@[simp] theorem Collation.addFault_owner (f : Cause) (c : Collation) : (c.addFault f).owner = c.owner := by
  unfold Collation.addFault; split <;> rfl

@[simp] theorem Collation.addFault_joined (f : Cause) (c : Collation) : (c.addFault f).joined = c.joined := by
  unfold Collation.addFault; split <;> rfl

@[simp] theorem Piece.addCause_sheets (c : Cause) (r : Piece) : (r.addCause c).sheets = r.sheets := by
  unfold Piece.addCause; split <;> rfl

theorem Collation.addFault_faults_ne (f : Cause) (c : Collation) : (c.addFault f).faults ≠ [] := by
  unfold Collation.addFault
  split
  · next h => exact fun e => by simp [e] at h
  · simp

/-- The number of the first cause of a piece to which MISSING_SHEET has been added. -/
theorem Piece.firstCause_addCause {r : Piece} (h : r.state ≠ .finished) (c : Cause) :
    (r.addCause c).faults.head?.elim 0 Cause.number = (r.faults.head?.getD c).number := by
  unfold Piece.addCause
  cases hf : r.faults with
  | nil => simp [h]
  | cons a as => split <;> simp [hf]

end Sys2Proof.Machine

open Sys2Proof Sys2Proof.Machine

/-- Settles O33: each verdict finishes its piece, if it has one, and then empties the ready record. -/
theorem releaseDivertsOrphansAndFaultedPieces : Obligations.ReleaseDivertsOrphansAndFaultedPieces := by
  intro flush c s hdue finished others closes drained orphaned diverted
  have drained_of {t : State} (h : (s.ClosesIn t → t.ClosedLast) ∧ (¬ s.ClosesIn t → t.run.runState = s.run.runState)
      ∧ ChangesOnly (requestBlocks .track ++ releaseBlocks ++ [.pins]) s t) : drained t := by
    obtain ⟨hlast, hstays, hchanges⟩ := h
    exact ⟨hlast, hstays, hchanges.mono (by decide)⟩
  have hbs : ∀ b ∈ [Block.pieces, .outcomes], b ∈ [Block.ready, .forming, .pieces, .outcomes] := by decide
  have orphan {v : State}
      (hb : releaseBody (toBytes 1 (yesNo flush)) (s.dropFrame .track) = (v.emptyReady.afterEvent (s.dropFrame .track),
        done (Verdict.divert none none false c.joined).values))
      (hrun : v.run = s.run) (htrack : v.track = s.track)
      (heff : Effects [] [] 0 [.ready, .forming, .releaseHold] (s.dropFrame .track) v) :
      ∃ t, exec (.release .track) s = .next t ∧ t.checker = v.checker.emptied ∧ orphaned t := by
    obtain ⟨t, hexec, hchecker, hans, -, -, hdrained, hquiet⟩ := release_diverts hdue rfl hb (by rw [hrun]) htrack
      (heff.frame.mono (by decide))
    exact ⟨t, hexec, hchecker, hans, drained_of hdrained, fun h => (hquiet [] _ h heff (by simp)).mono (by decide)⟩
  have piece {r : Piece} {gains : Piece → Piece} {cause : Nat} {v : State}
      (hb : releaseBody (toBytes 1 (yesNo flush)) (s.dropFrame .track) = (v.emptyReady.afterEvent (s.dropFrame .track),
        done [.code .releaseVerdict 1, .code .owner 2, triV r.id.seq, byteV r.id.reprint, byteV cause,
          flagV r.cancelPending, .code .sheetsJoined c.joined]))
      (hrun : v.run = { s.run with
        pieces := s.run.pieces.map fun x => if x.id = r.id then finished (gains x) else x
        outcomes := s.run.outcomes ++ [r.id] })
      (htrack : v.track = s.track) (hc : ChangesOnly releaseBlocks (s.dropFrame .track) v)
      (heff : r.census ≠ .counted →
        Effects [] s.outcomesNotice 0 [.ready, .forming, .pieces, .outcomes] (s.dropFrame .track) v) :
      ∃ t, exec (.release .track) s = .next t ∧ t.checker = v.checker.emptied ∧ diverted r cause gains t := by
    obtain ⟨t, hexec, hchecker, hans, hpieces, houtcomes, hdrained, hquiet⟩ := release_diverts hdue rfl hb
      (by rw [hrun]) htrack hc
    refine ⟨t, hexec, hchecker, hans, by rw [hpieces, hrun], by rw [houtcomes, hrun], drained_of hdrained,
      fun h hcensus => ?_⟩
    exact (hquiet _ _ h (heff hcensus) (by simp)).mono (by decide)
  have howned {r : Piece} (howner : c.owner = .piece r.id) :
      c.clean r.sheets = true ↔ c.ended = true ∧ c.faults = [] ∧ ∀ i, 1 ≤ i → i ≤ r.sheets → i ∈ c.accepted :=
    Collation.clean_iff howner
  refine ⟨fun hready => ?_, fun hflush hready hforming hopen => ?_⟩
  · intro emptied
    have hemptied {v t : State} (hv : v.checker = s.checker) (h : t.checker = v.checker.emptied) : emptied t := by
      simp only [emptied, h, hv]
      exact ⟨rfl, rfl, rfl⟩
    have hb : releaseBody (toBytes 1 (yesNo flush)) (s.dropFrame .track) = _ := releaseBody_ready hready
    refine ⟨fun howner => ?_, fun r howner hr hstate hd hunclean => ?_,
      fun r howner hr hstate hd hended hfaults hall hcancel hu hp => ?_⟩
    · rw [State.releaseVerdict_orphan howner] at hb
      obtain ⟨t, hexec, hchecker, horphaned⟩ := orphan hb rfl rfl (Effects.refl _ _)
      exact ⟨t, hexec, hemptied rfl hchecker, horphaned⟩
    · have hc : c.clean r.sheets = false ∨ r.cancelPending = true := by
        rw [Bool.eq_false_iff, Ne, howned howner]
        rcases hunclean with h | h | ⟨i, h1, h2, h3⟩ | h
        · exact .inl fun hc => by simp [h] at hc
        · exact .inl fun hc => h hc.2.1
        · exact .inl fun hc => h3 (hc.2.2 i h1 h2)
        · exact .inr h
      have hne : r.state ≠ .finished := by simp [hstate]
      rw [State.releaseVerdict_unclean (s := s.dropFrame .track) howner hr hc] at hb
      obtain ⟨t, hexec, hchecker, hdiverted⟩ := piece (r := r) (gains := fun x => x) hb
        (State.finish_run .diverted hr hne) (by simp) ((State.finish_changes _).mono (by decide))
        (fun hc => (State.finish_uncounted (s := s.dropFrame .track) hr hne hc).mono hbs)
      exact ⟨t, hexec, hemptied (by simp) hchecker, hdiverted⟩
    · have hne : r.state ≠ .finished := by simp [hstate]
      rw [State.releaseVerdict_unavailable (s := s.dropFrame .track) howner hr
          ((howned howner).2 ⟨hended, hfaults, hall⟩) hcancel hu hp,
        ← hcancel] at hb
      obtain ⟨t, hexec, hchecker, hdiverted⟩ := piece (r := r) (gains := Piece.addCause .feederUnavailable) (cause := 8)
        hb (State.finish_run_of_addCause .feederUnavailable hr hne rfl) (by simp)
        (((State.onPiece_changes _ _ _).mono (by decide)).trans ((State.finish_changes _).mono (by decide)))
        (fun hc => (State.addCause_finish_uncounted (s := s.dropFrame .track) .feederUnavailable hr hne
          hc).mono hbs)
      exact ⟨t, hexec, hemptied (by simp) hchecker, hdiverted⟩
  · intro emptied
    subst hflush
    have hchecker := State.flushForming_checker (c := c) (s := s.dropFrame .track) hready
    have hemptied {v t : State} (hv : v.checker = ((s.dropFrame .track).flushForming c).checker)
        (h : t.checker = v.checker.emptied) : emptied t := by
      simp only [emptied, h, hv, hchecker]
      rfl
    have hb : releaseBody (toBytes 1 (yesNo true)) (s.dropFrame .track) = _ :=
      releaseBody_flush hready hforming hopen (by rw [hchecker])
    refine ⟨fun howner => ?_, fun r howner hr hstate hd => ?_⟩
    · obtain ⟨hrun, heff⟩ := State.flushForming_orphan (s := s.dropFrame .track) howner
      rw [howner, State.releaseVerdict_orphan (by exact howner)] at hb
      obtain ⟨t, hexec, ht, horphaned⟩ := orphan hb hrun (by simp) (heff.mono (by decide))
      exact ⟨t, hexec, hemptied rfl ht, horphaned⟩
    · have hne : r.state ≠ .finished := by simp [hstate]
      obtain ⟨hrun, heff⟩ := State.flushForming_piece (s := s.dropFrame .track) howner
      have hr' : ((s.dropFrame .track).flushForming c).piece? r.id = some (r.addCause .missingSheet) := by
        have : ((s.dropFrame .track).flushForming c).piece? r.id
            = ((s.dropFrame .track).addCause r.id .missingSheet).piece? r.id := by
          simp only [State.piece?, hrun]
        rw [this, State.piece?_addCause]
        exact congrArg (Option.map _) hr
      have hunclean : Collation.clean { c.addFault .missingSheet with ended := true } r.sheets = false := by
        rw [Bool.eq_false_iff, Ne, Collation.clean_iff (r := r) (by simpa using howner)]
        exact fun hc => Collation.addFault_faults_ne _ _ hc.2.1
      have hid : (r.addCause .missingSheet).id = r.id := Piece.addCause_id _ _
      rw [howner] at hb
      dsimp only at hb
      rw [State.releaseVerdict_unclean (r := r.addCause .missingSheet) (by simpa using howner) (by rwa [hid])
        (.inl (by simpa using hunclean)), hid] at hb
      have hvalues : (Verdict.divert (some r.id) (r.addCause .missingSheet).faults.head?
          (r.addCause .missingSheet).cancelPending (c.addFault .missingSheet).joined).values
          = [.code .releaseVerdict 1, .code .owner 2, triV r.id.seq, byteV r.id.reprint,
              byteV (r.faults.head?.getD .missingSheet).number, flagV r.cancelPending, .code .sheetsJoined c.joined] := by
        rw [Piece.addCause_cancelPending, Collation.addFault_joined, ← Piece.firstCause_addCause hne]
        rfl
      have hnotice : ((s.dropFrame .track).flushForming c).outcomesNotice = s.outcomesNotice := by
        simp [State.outcomesNotice, hrun, State.addCause, State.onPiece_pieces]
      obtain ⟨t, hexec, ht, hdiverted⟩ := piece (r := r) (gains := Piece.addCause .missingSheet)
        (cause := (r.faults.head?.getD .missingSheet).number) (by rw [← hvalues]; exact hb)
        (State.finish_run_of_addCause .missingSheet hr hne hrun) (by simp)
        ((heff.frame.mono (by decide)).trans ((State.finish_changes _).mono (by decide)))
        (fun hc => (heff.mono (by decide)).after (hnotice ▸
          (State.finish_uncounted hr' (by simpa using hne) (by simpa using hc)).mono hbs))
      exact ⟨t, hexec, hemptied (by simp) ht, hdiverted⟩
end

section
/-! The entries at the gate: a re-evaluation that ends a stall and the hand-on behind it (R109, R152), and CANCEL_PIECE
(R17, R18). -/

namespace Sys2Proof.Machine

/-! ### Track entries -/

/-- An entry GATED with a decision (R107 to R109). -/
def TrackEntry.gate (d : GateDecision) (e : TrackEntry) : TrackEntry :=
  { e with stage := .gated, stalled := false, decision := some d }

section
variable {s : State} {older younger : List TrackEntry} {e : TrackEntry}

/-- The entries of a queue of distinct tags, found by their tags. -/
theorem State.entry?_of_split (h : s.track.entries = older ++ e :: younger)
    (hn : (s.track.entries.map TrackEntry.tag).Nodup) : s.entry? e.tag = some e := by
  rw [h, List.map_append, List.map_cons, List.nodup_middle, List.nodup_cons, ← List.map_append, List.mem_map] at hn
  have hnone : older.find? (fun x => x.tag == e.tag) = none := by
    refine List.find?_eq_none.2 fun x hx hxe => hn.1 ⟨x, List.mem_append_left _ hx, by simpa using hxe⟩
  simp [State.entry?, h, List.find?_append, hnone]

/-- A change of one entry of a queue of distinct tags. -/
theorem State.onEntry_of_split (f : TrackEntry → TrackEntry) (h : s.track.entries = older ++ e :: younger)
    (hn : (s.track.entries.map TrackEntry.tag).Nodup) :
    (s.onEntry e.tag f).track.entries = older ++ f e :: younger := by
  rw [h, List.map_append, List.map_cons, List.nodup_middle, List.nodup_cons, ← List.map_append, List.mem_map] at hn
  have hother : ∀ x ∈ older ++ younger, (if (x.tag == e.tag) = true then f x else x) = x := fun x hx =>
    if_neg fun hxe => hn.1 ⟨x, hx, by simpa using hxe⟩
  have hold : older.map (fun x => if (x.tag == e.tag) = true then f x else x) = older :=
    (List.map_congr_left fun x hx => hother x (List.mem_append_left _ hx)).trans (List.map_id _)
  have hyoung : younger.map (fun x => if (x.tag == e.tag) = true then f x else x) = younger :=
    (List.map_congr_left fun x hx => hother x (List.mem_append_right _ hx)).trans (List.map_id _)
  simp only [State.onEntry, State.onTrack_track, h, List.map_append, List.map_cons, hold, hyoung, beq_self_eq_true,
    if_true]

theorem State.younger_of_split (h : s.track.entries = older ++ e :: younger)
    (hn : (s.track.entries.map TrackEntry.tag).Nodup) : s.younger e.tag = younger.map TrackEntry.tag := by
  rw [h, List.map_append, List.map_cons, List.nodup_middle, List.nodup_cons, ← List.map_append, List.mem_map] at hn
  have hold : ∀ x ∈ older, (x.tag != e.tag) = true := fun x hx => by
    simpa using fun hxe => hn.1 ⟨x, List.mem_append_left _ hx, hxe⟩
  simp [State.younger, h, List.dropWhile_append_of_pos hold]

theorem State.setGated_of_split (d : GateDecision) (h : s.track.entries = older ++ e :: younger)
    (hn : (s.track.entries.map TrackEntry.tag).Nodup) :
    (s.setGated e.tag d).track.entries = older ++ e.gate d :: younger :=
  State.onEntry_of_split _ h hn

theorem State.onEntry_effects (tag : Nat) (f : TrackEntry → TrackEntry) :
    Effects [] [] 0 [.entries] s (s.onEntry tag f) := by
  refine Effects.of_changesOnly (fun b hb => ?_) (by simp) (by simp)
  cases b <;> first | rfl | simp at hb

/-- An entry GATED, with its decision sent to the track port. -/
theorem State.setGated_notify_effects (tag : Nat) (d : GateDecision) :
    Effects [.gateGo tag d] [] 0 [.entries] s ((s.setGated tag d).notify .track (.gateGo tag d)) :=
  Effects.after (State.onEntry_effects _ _) ((State.notify_track_effects _ _).mono (by simp))

end

/-! ### The hand-on over entries that are diverted (R109) -/

/-- An entry whose piece is faulted or cancel-pending is decided DIVERT (R146). -/
def State.Diverts (s : State) (e : TrackEntry) : Prop :=
  ∃ r, s.piece? e.piece = some r ∧ (r.faults ≠ [] ∨ r.cancelPending = true)

theorem State.decideEntry_of_diverts {s : State} {e : TrackEntry} (h : s.Diverts e) :
    s.decideEntry e = (s, .decided .divert) := by
  obtain ⟨r, hr, hd⟩ := h
  unfold State.decideEntry
  rw [hr]
  exact if_pos (by simpa [List.isEmpty_iff] using hd)

/-- The hand-on stops at an entry that has not reached the gate. -/
theorem State.handOn_stops {s : State} {older rest : List TrackEntry} (h : s.track.entries = older ++ rest)
    (hn : (s.track.entries.map TrackEntry.tag).Nodup) (hrest : ∀ x, rest.head? = some x → x.stage ≠ .atGate) :
    s.handOn (rest.map TrackEntry.tag) = s := by
  cases rest with
  | nil => rfl
  | cons x rest =>
    have hx := hrest x rfl
    simp only [List.map_cons, State.handOn, State.entry?_of_split h hn]
    exact if_neg (by simp [hx])

/-- The hand-on decides DIVERT for each of a run of diverted entries, with its GATE_GO, and stops behind them. -/
theorem State.handOn_diverts {s : State} {older run rest : List TrackEntry}
    (h : s.track.entries = older ++ (run ++ rest)) (hn : (s.track.entries.map TrackEntry.tag).Nodup)
    (hrun : ∀ x ∈ run, (x.stage = .atGate ∧ x.stalled = false) ∧ s.Diverts x)
    (hrest : ∀ x, rest.head? = some x → x.stage ≠ .atGate) :
    (s.handOn ((run ++ rest).map TrackEntry.tag)).track.entries
        = older ++ (run.map (TrackEntry.gate .divert) ++ rest)
      ∧ Effects (run.map fun x => .gateGo x.tag .divert) [] 0 [.entries] s
          (s.handOn ((run ++ rest).map TrackEntry.tag)) := by
  induction run generalizing s older with
  | nil =>
    have hstops : s.handOn (([] ++ rest).map TrackEntry.tag) = s := State.handOn_stops (rest := rest) h hn hrest
    rw [hstops]
    exact ⟨h, Effects.refl _ _⟩
  | cons x run ih =>
    obtain ⟨⟨hstage, hstalled⟩, hdiverts⟩ := hrun x List.mem_cons_self
    have hentry := State.entry?_of_split h hn
    have hstep : s.handOn (((x :: run) ++ rest).map TrackEntry.tag)
        = ((s.setGated x.tag .divert).notify .track (.gateGo x.tag .divert)).handOn
            ((run ++ rest).map TrackEntry.tag) := by
      simp only [List.cons_append, List.map_cons, State.handOn, hentry, hstage, hstalled,
        State.decideEntry_of_diverts hdiverts]
      rfl
    have hnext : ((s.setGated x.tag .divert).notify .track (.gateGo x.tag .divert)).track.entries
        = (older ++ [x.gate .divert]) ++ (run ++ rest) := by
      rw [(State.notify_fields _ _ _).2.2.2.2.1, State.setGated_of_split .divert h hn]
      simp
    have hnodup : (((s.setGated x.tag .divert).notify .track (.gateGo x.tag .divert)).track.entries.map
        TrackEntry.tag).Nodup := by
      rw [hnext]
      rw [h] at hn
      simpa [TrackEntry.gate] using hn
    have hpieces (id : PieceId) : ((s.setGated x.tag .divert).notify .track (.gateGo x.tag .divert)).piece? id
        = s.piece? id := by
      simp only [State.piece?, (State.notify_fields _ _ _).1, (State.setGated_frame _ _ _).1]
    have hrest' : ∀ y ∈ run, (y.stage = .atGate ∧ y.stalled = false)
        ∧ ((s.setGated x.tag .divert).notify .track (.gateGo x.tag .divert)).Diverts y := by
      intro y hy
      obtain ⟨hgate, r, hr, hd⟩ := hrun y (List.mem_cons_of_mem _ hy)
      exact ⟨hgate, r, (hpieces y.piece).trans hr, hd⟩
    obtain ⟨hentries, heff⟩ := ih hnext hnodup hrest'
    rw [hstep]
    refine ⟨by rw [hentries]; simp, ?_⟩
    exact ((State.setGated_notify_effects x.tag .divert).trans heff).congr rfl rfl (by simp)

/-! ### A re-evaluation that reaches a decision (R152) -/

/-- What a re-evaluation that reaches decision `d` for the stalled entry does before the hand-on: the stall ends, and the
entry is GATED with its GATE_GO. -/
def State.endStallWith (tag : Nat) (d : GateDecision) (s : State) : State :=
  ((s.onBins fun m => { m with stall := none }).setGated tag d).notify .track (.gateGo tag d)

theorem State.endStallWith_effects (tag : Nat) (d : GateDecision) (s : State) :
    Effects [.gateGo tag d] [] 0 [.entries, .stall] s (s.endStallWith tag d) := by
  have hstall : Effects [] [] 0 [.entries, .stall] s (s.onBins fun m => { m with stall := none }) := by
    refine Effects.of_changesOnly (fun b hb => ?_) (by simp) (by simp)
    cases b <;> first | rfl | simp at hb
  exact hstall.after ((State.setGated_notify_effects tag d).mono (by simp))

theorem State.endStallWith_bins (tag : Nat) (d : GateDecision) (s : State) :
    (s.endStallWith tag d).bins = { s.bins with stall := none } := by
  simp [State.endStallWith]

theorem State.reevaluate_decides {s u : State} {e : TrackEntry} {g : TrayGroup} {d : GateDecision}
    (hs : s.bins.stall = some ⟨e.tag, g⟩) (he : s.entry? e.tag = some e) (hd : s.decideEntry e = (u, .decided d)) :
    (s.reevaluate true).1 = (u.endStallWith e.tag d).handOn ((u.endStallWith e.tag d).younger e.tag) := by
  simp only [State.reevaluate, hs, he, hd, if_true]
  rfl

/-- A stalled entry that is now diverted, with the diverted entries waiting behind it (R109, R152). -/
theorem State.reevaluate_diverts {s : State} {older run rest : List TrackEntry} {e : TrackEntry} {g : TrayGroup}
    (h : s.track.entries = older ++ e :: (run ++ rest)) (hn : (s.track.entries.map TrackEntry.tag).Nodup)
    (hs : s.bins.stall = some ⟨e.tag, g⟩) (he : s.Diverts e)
    (hrun : ∀ x ∈ run, (x.stage = .atGate ∧ x.stalled = false) ∧ s.Diverts x)
    (hrest : ∀ x, rest.head? = some x → x.stage ≠ .atGate) :
    (s.reevaluate true).1.track.entries = older ++ ((e :: run).map (TrackEntry.gate .divert) ++ rest)
      ∧ Effects ((e :: run).map fun x => .gateGo x.tag .divert) [] 0 [.entries, .stall] s (s.reevaluate true).1
      ∧ (s.reevaluate true).1.bins.stall = none := by
  have hd := State.decideEntry_of_diverts he
  rw [State.reevaluate_decides hs (State.entry?_of_split h hn) hd]
  have hnext : (s.endStallWith e.tag .divert).track.entries = older ++ e.gate .divert :: (run ++ rest) := by
    rw [State.endStallWith, (State.notify_fields _ _ _).2.2.2.2.1]
    exact State.setGated_of_split .divert h hn
  have hnodup : ((s.endStallWith e.tag .divert).track.entries.map TrackEntry.tag).Nodup := by
    rw [hnext]
    rw [h] at hn
    simpa [TrackEntry.gate] using hn
  have hpieces (id : PieceId) : (s.endStallWith e.tag .divert).piece? id = s.piece? id := by
    simp [State.piece?, State.endStallWith]
  have hrun' : ∀ x ∈ run, (x.stage = .atGate ∧ x.stalled = false) ∧ (s.endStallWith e.tag .divert).Diverts x := by
    intro x hx
    obtain ⟨hgate, r, hr, hf⟩ := hrun x hx
    exact ⟨hgate, r, (hpieces x.piece).trans hr, hf⟩
  have hyounger : (s.endStallWith e.tag .divert).younger e.tag = (run ++ rest).map TrackEntry.tag :=
    State.younger_of_split (e := e.gate .divert) hnext hnodup
  obtain ⟨hentries, heff⟩ := State.handOn_diverts (older := older ++ [e.gate .divert]) (by simpa using hnext) hnodup
    hrun' hrest
  rw [hyounger]
  refine ⟨by rw [hentries]; simp, ?_, ?_⟩
  · exact ((s.endStallWith_effects e.tag .divert).trans (heff.mono (by simp))).congr rfl rfl (by simp)
  · exact (heff.frame .stall (by simp)).trans (by rw [State.endStallWith_bins])

/-! ### Cancel-pending (R17, R18) -/

/-- A record that is cancel-pending. -/
def Piece.pending (r : Piece) : Piece := { r with cancelPending := true }

section
variable {s : State} {id : PieceId}

/-- Whether a release hold stands on the piece. -/
def State.holds (s : State) (id : PieceId) : Bool :=
  s.checker.releaseHold != .free && s.checker.ready.elim false fun c => c.owner == .piece id

/-- Whether the piece's entry is stalled at the gate. -/
def State.stalledAtGate (s : State) (id : PieceId) : Bool :=
  s.track.entries.any fun e => e.piece == id && e.stage == .atGate && e.stalled

/-- Cancel-pending set, with the release hold on the piece lifted. -/
def State.pendPiece (id : PieceId) (s : State) : State :=
  if s.holds id then (s.onPiece id Piece.pending).clearHold else s.onPiece id Piece.pending

theorem State.setCancelPending_eq : s.setCancelPending id =
    if s.stalledAtGate id then ((s.pendPiece id).reevaluate true).1 else s.pendPiece id := by
  unfold State.setCancelPending State.pendPiece State.stalledAtGate
  dsimp only
  have hholds : ((s.onPiece id fun r => { r with cancelPending := true }).checker.releaseHold != .free
      && (s.onPiece id fun r => { r with cancelPending := true }).checker.ready.elim false
        fun c => c.owner == .piece id) = s.holds id := rfl
  rw [hholds]
  split
  · rw [(show ((s.onPiece id fun r => { r with cancelPending := true }).clearHold).track.entries = s.track.entries by
      simp [State.clearHold])]
    rfl
  · rfl

theorem State.clearHold_effects : Effects [.holdCleared] [] 0 [.releaseHold] s s.clearHold := by
  refine Effects.after (Effects.of_changesOnly (fun b hb => ?_) (by simp) (by simp))
    ((State.notify_track_effects .holdCleared _).mono (by simp))
  cases b <;> first | rfl | simp at hb

theorem State.pendPiece_run :
    (s.pendPiece id).run = { s.run with
      pieces := s.run.pieces.map fun x => if x.id = id then x.pending else x } := by
  unfold State.pendPiece
  split
  · simp [State.clearHold, State.onPiece_pieces]
  · rw [State.onPiece_pieces]

theorem State.pendPiece_effects :
    Effects (if s.holds id then [.holdCleared] else []) [] 0 [.pieces, .releaseHold] s (s.pendPiece id) := by
  have hpiece : Effects [] [] 0 [.pieces, .releaseHold] s (s.onPiece id Piece.pending) :=
    (Effects.of_changesOnly (s.onPiece_changes id Piece.pending) (by simp) (by simp)).mono (by decide)
  unfold State.pendPiece
  split
  · exact hpiece.after (State.clearHold_effects.mono (by decide))
  · exact hpiece

theorem State.setCancelPending_run :
    (s.setCancelPending id).run = { s.run with
      pieces := s.run.pieces.map fun x => if x.id = id then x.pending else x } := by
  rw [State.setCancelPending_eq]
  split
  · rw [(State.reevaluate_frame _ _).1, State.pendPiece_run]
  · rw [State.pendPiece_run]

theorem State.setCancelPending_changes :
    ChangesOnly (.pieces :: .releaseHold :: gateBlocks) s (s.setCancelPending id) := by
  rw [State.setCancelPending_eq]
  have hpend := (State.pendPiece_effects (s := s) (id := id)).frame.mono (cs := .pieces :: .releaseHold :: gateBlocks)
    (by decide)
  split
  · exact hpend.trans ((State.reevaluate_changes _ _).mono (by decide))
  · exact hpend

end

/-! ### The body of CANCEL_PIECE -/

section
variable {pl : List Byte} {n : Nat} {r : Piece} {s : State}

theorem cancelPieceBody_notFound (hn : fieldAt pl 0 3 = n) (h : s.newest n = none) :
    cancelPieceBody pl s = (s, refuse .notFound) := by simp [cancelPieceBody, hn, h]

theorem cancelPieceBody_finished (hn : fieldAt pl 0 3 = n) (h : s.newest n = some r) (hr : r.state = .finished) :
    cancelPieceBody pl s = (s, refuse .wrongState) := by simp [cancelPieceBody, hn, h, hr]

theorem cancelPieceBody_loaded (hn : fieldAt pl 0 3 = n) (h : s.newest n = some r) (hr : r.state = .loaded) :
    cancelPieceBody pl s = ((s.finish r.id .cancelled).afterEvent s, done cancelledV) := by
  simp [cancelPieceBody, hn, h, hr]

theorem cancelPieceBody_pending (hn : fieldAt pl 0 3 = n) (h : s.newest n = some r)
    (hr : r.state = .collating ∨ r.state = .onTrack) (hp : r.cancelPending = true) :
    cancelPieceBody pl s = (s, done pendingV) := by
  rcases hr with hr | hr <;> simp [cancelPieceBody, hn, h, hr, hp]

theorem cancelPieceBody_gated (hn : fieldAt pl 0 3 = n) (h : s.newest n = some r)
    (hr : r.state = .collating ∨ r.state = .onTrack) (hp : r.cancelPending = false) (hg : s.isGated r.id = true) :
    cancelPieceBody pl s = (s, refuse .tooLate) := by
  rcases hr with hr | hr <;> simp [cancelPieceBody, hn, h, hr, hp, hg]

theorem cancelPieceBody_live (hn : fieldAt pl 0 3 = n) (h : s.newest n = some r)
    (hr : r.state = .collating ∨ r.state = .onTrack) (hp : r.cancelPending = false) (hg : s.isGated r.id = false) :
    cancelPieceBody pl s = ((s.setCancelPending r.id).afterEvent s, done pendingV) := by
  rcases hr with hr | hr <;> simp [cancelPieceBody, hn, h, hr, hp, hg]

theorem State.isGated_iff {id : PieceId} :
    s.isGated id = true ↔ ∃ e ∈ s.track.entries, e.piece = id ∧ e.stage = .gated := by
  simp [State.isGated]

end

end Sys2Proof.Machine

open Sys2Proof Sys2Proof.Machine

/-- Settles O52: the newest record's state decides; cancel-pending lifts a hold on the piece, or ends its stall. -/
theorem cancelPieceActsAtOnce : Obligations.CancelPieceActsAtOnce := by
  refine ⟨fun n s hn hdue => ?_, fun n pre post r s hn hdue hsplit hr hpost hpending hd => ?_⟩
  · intro newest live unchanged
    have harg : fieldAt (toBytes 3 n) 0 3 = n := by simp; omega
    have hlen : RequestKind.cancelPiece.lengthAllowed (toBytes 3 n).length = true := by simp [RequestKind.lengthAllowed]
    have found {r : Piece} (h : newest r) : (s.dropFrame .plan).newest n = some r := by
      obtain ⟨pre, post, hsplit, hr, hpost⟩ := h
      exact State.newest_split hsplit hr hpost
    have quiet {r : Reply} (h : cancelPieceBody (toBytes 3 n) (s.dropFrame .plan) = (s.dropFrame .plan, r)) :
        unchanged r.result r.answer := exec_due_unchanged (k := .cancelPiece) hdue rfl hlen h
    refine ⟨fun h => ?_, fun r h hr => ?_, fun r h hp => ?_, fun r h hp hg => ?_, fun r h hr hd => ?_,
      fun r h hp hg => ?_⟩
    · exact quiet (cancelPieceBody_notFound harg (State.newest_none h))
    · exact quiet (cancelPieceBody_finished harg (found h) hr)
    · exact quiet (cancelPieceBody_pending harg (found h.1) h.2 hp)
    · exact quiet (cancelPieceBody_gated harg (found h.1) h.2 hp (State.isGated_iff.2 hg))
    · have hmem : r ∈ s.run.pieces := by
        obtain ⟨pre, post, hsplit, -⟩ := h
        simp [hsplit]
      have hfound : s.piece? r.id = some r := State.piece?_of_mem hd hmem
      have hrun : ((s.dropFrame .plan).finish r.id .cancelled).run = _ :=
        State.finish_run (s := s.dropFrame .plan) .cancelled hfound (by simp [hr])
      obtain ⟨hexec, hans, hchanges⟩ := exec_due_changes (k := .cancelPiece) hdue rfl hlen
        (cancelPieceBody_loaded harg (found h) hr) (by decide)
        ((State.finish_changes _).trans ((State.afterEvent_changes _ _).mono (by decide)))
      refine ⟨_, hexec, hans, ?_, ?_, hchanges.mono (by decide)⟩
      · simp only [State.answerFrame_fields, State.afterEvent_frame, hrun, Piece.finish, ite_self]
        rfl
      · simp only [State.answerFrame_fields, State.afterEvent_frame, hrun]
        rfl
    · have hnotGated : (s.dropFrame .plan).isGated r.id = false := by
        rw [Bool.eq_false_iff, Ne, State.isGated_iff]
        rintro ⟨e, he, hid, hstage⟩
        exact hg e he hid hstage
      obtain ⟨hexec, hans, hchanges⟩ := exec_due_changes (k := .cancelPiece) hdue rfl hlen
        (cancelPieceBody_live harg (found h.1) h.2 hp hnotGated) (by decide)
        (State.setCancelPending_changes.trans ((State.afterEvent_changes _ _).mono (by decide)))
      refine ⟨_, hexec, hans, ?_, hchanges.mono (by decide)⟩
      simp only [State.answerFrame_fields, State.afterEvent_frame, State.setCancelPending_run]
      rfl
  · have harg : fieldAt (toBytes 3 n) 0 3 = n := by simp; omega
    have hlen : RequestKind.cancelPiece.lengthAllowed (toBytes 3 n).length = true := by simp [RequestKind.lengthAllowed]
    have hnewest : (s.dropFrame .plan).newest n = some r := State.newest_split hsplit hr hpost
    have hmem : r ∈ s.run.pieces := by simp [hsplit]
    have hfound : s.piece? r.id = some r := State.piece?_of_mem hd hmem
    have hpieces : ((s.dropFrame .plan).setCancelPending r.id).run.pieces
        = s.run.pieces.map fun x => if x.id = r.id then x.pending else x := by rw [State.setCancelPending_run]; rfl
    refine ⟨fun c hcollating hready howner hhold hnone => ?_,
      fun older run rest e g hontrack hhold hbounded hentries he hothers hstage hstalled hstall hrun hrest => ?_⟩
    · have hnotGated : (s.dropFrame .plan).isGated r.id = false := by
        rw [Bool.eq_false_iff, Ne, State.isGated_iff]
        rintro ⟨e, he, hid, -⟩
        exact hnone e he hid
      have hholds : (s.dropFrame .plan).holds r.id = true := by simp [State.holds, hready, howner, hhold]
      have hnotStalled : (s.dropFrame .plan).stalledAtGate r.id = false := by
        simpa [State.stalledAtGate] using fun e he hid => absurd hid (hnone e he)
      have hset : (s.dropFrame .plan).setCancelPending r.id = (s.dropFrame .plan).pendPiece r.id := by
        rw [State.setCancelPending_eq, hnotStalled]
        rfl
      have heff := State.pendPiece_effects (s := s.dropFrame .plan) (id := r.id)
      rw [hholds] at heff
      have hb := cancelPieceBody_live harg hnewest (.inl hcollating) hpending hnotGated
      rw [hset, State.afterEvent_of_same_bins (heff.frame .bins (by simp))] at hb
      obtain ⟨hexec, hans, hhap⟩ := exec_due_effects (k := .cancelPiece) hdue rfl hlen hb heff (by simp)
      refine ⟨_, hexec, hans, ?_, ?_, hhap⟩
      · simp only [State.answerFrame_fields, ← hset, hpieces]
        rfl
      · simp [State.pendPiece, hholds, State.clearHold]
    · obtain ⟨-, hnodup, -⟩ := hbounded
      have hmemE : e ∈ s.track.entries := by simp [hentries]
      have hnotGated : (s.dropFrame .plan).isGated r.id = false := by
        rw [Bool.eq_false_iff, Ne, State.isGated_iff]
        rintro ⟨x, hx, hid, hgated⟩
        rw [State.dropFrame_fields .. |>.2.2.2.2.1, hentries] at hx
        have hxe : x = e := by
          by_contra hne
          exact hothers x (by simp only [List.mem_append, List.mem_cons] at hx ⊢; tauto) hid
        rw [hxe, hstage] at hgated
        cases hgated
      have hstalledAt : (s.dropFrame .plan).stalledAtGate r.id = true := by
        simpa [State.stalledAtGate] using ⟨e, hmemE, ⟨he, hstage⟩, hstalled⟩
      have hnotHeld : (s.dropFrame .plan).holds r.id = false := by simp [State.holds, hhold]
      have hpend : (s.dropFrame .plan).pendPiece r.id = (s.dropFrame .plan).onPiece r.id Piece.pending := by
        simp [State.pendPiece, hnotHeld]
      have hset : (s.dropFrame .plan).setCancelPending r.id
          = (((s.dropFrame .plan).onPiece r.id Piece.pending).reevaluate true).1 := by
        rw [State.setCancelPending_eq, hstalledAt, hpend]
        rfl
      have hdiverts : ((s.dropFrame .plan).onPiece r.id Piece.pending).Diverts e := by
        refine ⟨r.pending, ?_, .inr rfl⟩
        rw [he, State.piece?_onPiece (f := Piece.pending) fun _ => rfl]
        exact congrArg (Option.map Piece.pending) hfound
      have hbehind : ∀ x ∈ run, (x.stage = .atGate ∧ x.stalled = false)
          ∧ ((s.dropFrame .plan).onPiece r.id Piece.pending).Diverts x := by
        intro x hx
        obtain ⟨hgate, hfree, y, hy, hf⟩ := hrun x hx
        refine ⟨⟨hgate, hfree⟩, y, ?_, hf⟩
        rw [State.piece?_onPiece_ne (f := Piece.pending) (fun _ => rfl) (hothers x (by simp [hx]))]
        exact hy
      obtain ⟨hgated, heff, hnone⟩ := State.reevaluate_diverts (older := older) (run := run) (rest := rest)
        (by simpa using hentries) (by simpa using hnodup) (by simpa using hstall) hdiverts hbehind hrest
      have hpiece : Effects [] [] 0 [.pieces, .entries, .stall] (s.dropFrame .plan)
          ((s.dropFrame .plan).onPiece r.id Piece.pending) :=
        (Effects.of_changesOnly (State.onPiece_changes _ _ _) (by simp) (by simp)).mono (by decide)
      have hall := hpiece.after (heff.mono (by decide))
      have hb := cancelPieceBody_live harg hnewest (.inr hontrack) hpending hnotGated
      rw [← hset] at hall hgated hnone
      rw [State.afterEvent_of_same_bins (hall.frame .bins (by simp))] at hb
      obtain ⟨hexec, hans, hhap⟩ := exec_due_effects (k := .cancelPiece) hdue rfl hlen hb hall (by simp)
      refine ⟨_, hexec, hans, ?_, ?_, by simpa using hnone, hhap⟩
      · simp only [State.answerFrame_fields, hpieces]
        rfl
      · simp only [State.answerFrame_fields, hgated, List.append_assoc]
        rfl
end

section
/-! Delivering and closing trays (R155 to R157), and the re-evaluation after an event that frees a bin (R152). -/

namespace Sys2Proof.Machine

/-- Effects outside of which some of the blocks are as they were. -/
theorem Effects.restrict {s t : State} {tr pl : List Notice} {fl : FlagSet} {bs cs : List Block}
    (h : Effects tr pl fl bs s t) (hc : ∀ b ∈ bs, b ∉ cs → b.same s t) : Effects tr pl fl cs s t where
  toTrack := h.toTrack
  toPlan := h.toPlan
  flags := h.flags
  frame := fun b hb => by
    simp only [List.mem_append, not_or] at hb
    by_cases hbs : b ∈ bs
    · exact hc b hbs hb.2
    · exact h.frame b (by simpa only [List.mem_append, not_or] using ⟨hb.1, hbs⟩)

/-! ### The re-evaluation after an event (R152) -/

/-- An event that frees no bin is followed by no re-evaluation. -/
theorem State.afterEvent_of_none_freed {s before : State}
    (h : ∀ b ∈ binNumbers, (s.bin b).state = .free → (before.bin b).state = .free) : s.afterEvent before = s := by
  have hfreed : binFreed before s = false := by
    rw [Bool.eq_false_iff, Ne, binFreed, List.any_eq_true]
    rintro ⟨b, hb, hfree⟩
    simp only [Bool.and_eq_true, bne_iff_ne, beq_iff_eq] at hfree
    exact hfree.1 (h b hb hfree.2)
  simp [State.afterEvent, hfreed]

/-- An event that frees a bin is followed by one re-evaluation. -/
theorem State.afterEvent_of_freed {s before : State} {b : Nat} (hb : b ∈ binNumbers)
    (h : (before.bin b).state ≠ .free) (hf : (s.bin b).state = .free) :
    s.afterEvent before = (s.reevaluate true).1 := by
  have hfreed : binFreed before s = true := by
    rw [binFreed, List.any_eq_true]
    exact ⟨b, hb, by simp [h, hf]⟩
  simp [State.afterEvent, hfreed]

/-! ### Delivery (R157) -/

/-- Bin `b` once its tray has been delivered: the release test may have made it FREE (R143, R157). -/
def State.deliveredBin (s : State) (b : Nat) : Bin :=
  ⟨if s.frees b (s.bin b).state then .free else (s.bin b).state, none⟩

/-- The BIN_STATE notice of bin `b` when its tray has been delivered (R143, R157). -/
def State.deliveredNotices (s : State) (b : Nat) : List Notice :=
  if s.frees b (s.bin b).state then [.binState b .free none] else []

/-- TRAY_CLOSED of the tray that bin `b` holds (R157). -/
def State.closedNotices (s : State) (b : Nat) : List Notice :=
  ((s.bin b).tray.map fun y => Notice.trayClosed y.id y.run y.bin y.reason).toList

section
variable {s t : State} {b j : Nat}

/-- The release test reads the active profile and the head table. -/
theorem State.frees_congr (hp : t.settings.active = s.settings.active) (hh : t.heads.table = s.heads.table)
    (st : BinState) : t.frees b st = s.frees b st := by
  simp only [State.frees, State.sorterStatus, State.profile, hp, hh]

/-- The state in which a delivery makes the release test. -/
def State.handOver (b : Nat) (y : Tray) (s : State) : State :=
  ((s.onBins fun m => { m with closedTrays := m.closedTrays ++ [y] }).onBin b fun x => { x with tray := none }).notify
    .plan (.trayClosed y.id y.run y.bin y.reason)

theorem State.handOver_bin (y : Tray) : (s.handOver b y).bin b = { s.bin b with tray := none } := by
  rw [State.handOver, State.bin_congr _ (State.notify_fields _ _ _).2.2.2.2.2.2.1, State.onBin_bin]
  rfl

theorem State.handOver_bin_ne (y : Tray) (hb : b ∈ binNumbers) (hj : j ∈ binNumbers) (h : j ≠ b) :
    (s.handOver b y).bin j = s.bin j := by
  rw [State.handOver, State.bin_congr _ (State.notify_fields _ _ _).2.2.2.2.2.2.1, State.onBin_bin_ne _ _ hb hj h]
  rfl

theorem State.handOver_effects (y : Tray) :
    Effects [] [.trayClosed y.id y.run y.bin y.reason] 0 [.closedTrays, .bins] s (s.handOver b y) := by
  refine Effects.after (Effects.of_changesOnly (fun c hc => ?_) (by simp) (by simp))
    ((State.notify_plan_effects _ _).mono (by simp))
  cases c <;> first | rfl | simp at hc

/-- What delivering the tray of a bin does. -/
theorem State.deliverTray_values (y : Tray) (hb : b ∈ binNumbers) :
    (s.deliverTray b y).bin b = s.deliveredBin b
      ∧ (∀ j ∈ binNumbers, j ≠ b → (s.deliverTray b y).bin j = s.bin j)
      ∧ (s.deliverTray b y).bins.closedTrays = s.bins.closedTrays ++ [y]
      ∧ Effects (s.deliveredNotices b) (.trayClosed y.id y.run y.bin y.reason :: s.deliveredNotices b) 0
          [.closedTrays, .bins] s (s.deliverTray b y) := by
  have hfrees : (s.handOver b y).frees b ((s.handOver b y).bin b).state = s.frees b (s.bin b).state := by
    rw [State.handOver_bin, State.frees_congr (s := s) (by simp [State.handOver]) (by simp [State.handOver])]
  have htray : ((s.handOver b y).bin b).tray = none := by rw [State.handOver_bin]
  have hclosed : (s.handOver b y).bins.closedTrays = s.bins.closedTrays ++ [y] := by
    rw [State.handOver, (State.notify_fields _ _ _).2.2.2.2.2.2.1]
    rfl
  have hdeliver : s.deliverTray b y
      = if s.frees b (s.bin b).state then (s.handOver b y).setBinState b .free else s.handOver b y := by
    rw [← hfrees, show s.deliverTray b y = (s.handOver b y).releaseTest b from rfl, State.releaseTest_eq, htray]
    simp
  rw [hdeliver, State.deliveredBin, State.deliveredNotices]
  by_cases h : s.frees b (s.bin b).state = true
  · have heff := (s.handOver b y).setBinState_effects (b := b) .free
    rw [htray] at heff
    simp only [h, if_true]
    refine ⟨by rw [State.setBinState_bin, State.handOver_bin], fun j hj hne => ?_, by simpa using hclosed, ?_⟩
    · rw [State.setBinState_bin_ne _ _ hb hj hne, State.handOver_bin_ne y hb hj hne]
    · exact ((State.handOver_effects y).trans (heff.mono (by simp))).congr rfl rfl (by simp)
  · simp only [h]
    exact ⟨State.handOver_bin y, fun j hj hne => State.handOver_bin_ne y hb hj hne, hclosed, State.handOver_effects y⟩

end

/-- The bins of a delivery queue: distinct bins, each holding its tray. -/
def State.Delivers (s : State) (ds : List Nat) : Prop :=
  ds.Nodup ∧ ∀ b ∈ ds, b ∈ binNumbers ∧ (s.bin b).tray ≠ none

/-- What delivering the oldest tray does. -/
theorem State.deliverOldest_values {s : State} {b : Nat} {ds : List Nat} {y : Tray} (hs : s.bins.delivery = b :: ds)
    (hb : b ∈ binNumbers) (hy : (s.bin b).tray = some y) :
    s.deliverOldest.bins.closedTrays = s.bins.closedTrays ++ [y] ∧ s.deliverOldest.bins.delivery = ds
      ∧ s.deliverOldest.bin b = s.deliveredBin b ∧ (∀ j ∈ binNumbers, j ≠ b → s.deliverOldest.bin j = s.bin j)
      ∧ Effects (s.deliveredNotices b) (s.closedNotices b ++ s.deliveredNotices b) 0 [.closedTrays, .delivery, .bins] s
          s.deliverOldest := by
  have heq : s.deliverOldest = (s.onBins fun m => { m with delivery := ds }).deliverTray b y := by
    unfold State.deliverOldest
    rw [hs]
    dsimp only
    rw [show ((s.onBins fun m => { m with delivery := ds }).bin b).tray = some y from hy]
  obtain ⟨hbin, hother, hclosed, heff⟩ :=
    State.deliverTray_values (s := s.onBins fun m => { m with delivery := ds }) y hb
  have hpop : Effects [] [] 0 [.closedTrays, .delivery, .bins] s (s.onBins fun m => { m with delivery := ds }) := by
    refine Effects.of_changesOnly (fun c hc => ?_) (by simp) (by simp)
    cases c <;> first | rfl | simp at hc
  rw [heq]
  refine ⟨hclosed, heff.frame .delivery (by simp), hbin, hother, ?_⟩
  exact (hpop.after (heff.mono (by simp))).congr rfl (by rw [State.closedNotices, hy]; rfl) rfl

/-- The trays of the delivery queue follow, oldest first, while the closed-tray list has room (R157, R159). -/
theorem State.deliverWaiting_values {s : State} {ds : List Nat} (hs : s.bins.delivery = ds) (hd : s.Delivers ds) {k : Nat}
    (hk : k = min (64 - s.bins.closedTrays.length) ds.length) :
    (s.deliverWaiting ds.length).bins.closedTrays
        = s.bins.closedTrays ++ (ds.take k).filterMap (fun b => (s.bin b).tray)
      ∧ (s.deliverWaiting ds.length).bins.delivery = ds.drop k
      ∧ (∀ b ∈ binNumbers,
          (s.deliverWaiting ds.length).bin b = if b ∈ ds.take k then s.deliveredBin b else s.bin b)
      ∧ Effects ((ds.take k).flatMap s.deliveredNotices)
          ((ds.take k).flatMap fun b => s.closedNotices b ++ s.deliveredNotices b) 0
          [.closedTrays, .delivery, .bins] s (s.deliverWaiting ds.length) := by
  induction ds generalizing s k with
  | nil =>
    have hstays : s.deliverWaiting ([] : List Nat).length = s := rfl
    rw [hstays]
    exact ⟨by simp, by simpa using hs, fun b _ => by simp, by simpa using Effects.refl _ _⟩
  | cons b ds ih =>
    by_cases hroom : s.bins.closedTrays.length < 64
    · obtain ⟨hnodup, hds⟩ := hd
      obtain ⟨hbds, hn⟩ := List.nodup_cons.1 hnodup
      obtain ⟨hb, htray⟩ := hds b List.mem_cons_self
      obtain ⟨y, hy⟩ := Option.ne_none_iff_exists'.1 htray
      obtain ⟨hclosed, hdelivery, hbin, hother, heff⟩ := State.deliverOldest_values hs hb hy
      have hne : ∀ j ∈ ds, j ∈ binNumbers ∧ j ≠ b := fun j hj =>
        ⟨(hds j (List.mem_cons_of_mem _ hj)).1, fun e => hbds (e ▸ hj)⟩
      have hfrees (j : Nat) (st : BinState) : s.deliverOldest.frees j st = s.frees j st :=
        State.frees_congr (by simp) (by simp) st
      have hdeliveredBin (j : Nat) (h : s.deliverOldest.bin j = s.bin j) :
          s.deliverOldest.deliveredBin j = s.deliveredBin j := by
        simp only [State.deliveredBin, h, hfrees]
      have hdeliveredNotices (j : Nat) (h : s.deliverOldest.bin j = s.bin j) :
          s.deliverOldest.deliveredNotices j = s.deliveredNotices j := by
        simp only [State.deliveredNotices, h, hfrees]
      have hclosedNotices (j : Nat) (h : s.deliverOldest.bin j = s.bin j) :
          s.deliverOldest.closedNotices j = s.closedNotices j := by
        simp only [State.closedNotices, h]
      have hdelivers : s.deliverOldest.Delivers ds := ⟨hn, fun j hj => by
        rw [hother j (hne j hj).1 (hne j hj).2]
        exact hds j (List.mem_cons_of_mem _ hj)⟩
      obtain ⟨l, rfl⟩ : ∃ l, k = l + 1 := ⟨k - 1, by simp only [List.length_cons] at hk; omega⟩
      have hl : l = min (64 - s.deliverOldest.bins.closedTrays.length) ds.length := by
        rw [hclosed, List.length_append, List.length_singleton]
        simp only [List.length_cons] at hk
        omega
      obtain ⟨hclosed', hdelivery', hbins', heff'⟩ := ih hdelivery hdelivers hl
      have hstep : s.deliverWaiting (b :: ds).length = s.deliverOldest.deliverWaiting ds.length :=
        if_pos hroom
      have htake : ∀ j ∈ ds.take l, s.deliverOldest.bin j = s.bin j := fun j hj =>
        hother j (hne j (List.mem_of_mem_take hj)).1 (hne j (List.mem_of_mem_take hj)).2
      rw [hstep]
      refine ⟨?_, by rw [hdelivery']; rfl, fun j hj => ?_, ?_⟩
      · rw [hclosed', hclosed, List.filterMap_congr fun j hj => congrArg Bin.tray (htake j hj), List.append_assoc]
        simp [hy]
      · rw [hbins' j hj, List.take_succ_cons]
        by_cases hjb : j = b
        · have hout : b ∉ ds.take l := fun h => hbds (List.mem_of_mem_take h)
          simp [hjb, hbin, hout]
        · simp only [List.mem_cons, hjb, false_or, hother j hj hjb, hdeliveredBin j (hother j hj hjb)]
      · refine (heff.trans heff').congr ?_ ?_ (by simp)
        · rw [List.flatMap_congr fun j hj => hdeliveredNotices j (htake j hj)]
          rfl
        · rw [List.flatMap_congr fun j hj =>
            congrArg₂ (· ++ ·) (hclosedNotices j (htake j hj)) (hdeliveredNotices j (htake j hj))]
          rfl
    · have hstays : s.deliverWaiting (b :: ds).length = s := if_neg hroom
      have hzero : k = 0 := by omega
      rw [hstays, hzero]
      exact ⟨by simp, by simpa using hs, fun b _ => by simp, by simpa using Effects.refl _ _⟩

/-! ### A tray becomes CLOSED (R156, R157) -/

section
variable {s : State} {b : Nat} {y : Tray}

/-- With the closed-tray list full, the tray waits in its bin (R157). -/
theorem State.joinDelivery_waits (h : 64 ≤ s.bins.closedTrays.length) :
    (∀ j, (s.joinDelivery b).bin j = s.bin j) ∧ (s.joinDelivery b).bins.delivery = s.bins.delivery ++ [b]
      ∧ Effects [] [] StickyFlag.trayListFull.bit [.delivery] s (s.joinDelivery b) := by
  have heq : s.joinDelivery b
      = (s.onBins fun m => { m with delivery := m.delivery ++ [b] }).raise .trayListFull :=
    if_neg (by simpa [closedTrayCapacity] using h)
  have hjoin : Effects [] [] 0 [.delivery] s (s.onBins fun m => { m with delivery := m.delivery ++ [b] }) := by
    refine Effects.of_changesOnly (fun c hc => ?_) (by simp) (by simp)
    cases c <;> first | rfl | simp at hc
  rw [heq]
  exact ⟨fun _ => rfl, rfl, hjoin.after ((State.raise_effects _ _).mono (by simp))⟩

/-- With room in the closed-tray list and no tray before it, the tray is delivered at once (R157). -/
theorem State.joinDelivery_delivers (h : s.bins.closedTrays.length < 64) (hd : s.bins.delivery = [])
    (hb : b ∈ binNumbers) (hy : (s.bin b).tray = some y) :
    (s.joinDelivery b).bin b = s.deliveredBin b ∧ (∀ j ∈ binNumbers, j ≠ b → (s.joinDelivery b).bin j = s.bin j)
      ∧ (s.joinDelivery b).bins.closedTrays = s.bins.closedTrays ++ [y] ∧ (s.joinDelivery b).bins.delivery = []
      ∧ Effects (s.deliveredNotices b) (.trayClosed y.id y.run y.bin y.reason :: s.deliveredNotices b) 0
          [.bins, .closedTrays] s (s.joinDelivery b) := by
  have heq : s.joinDelivery b = (s.onBins fun m => { m with delivery := m.delivery ++ [b] }).deliverOldest := by
    have hlen : ((s.onBins fun m => { m with delivery := m.delivery ++ [b] }).bins.delivery).length = 1 := by
      simp [hd]
    exact (if_pos h).trans ((congrArg (State.deliverWaiting · _) hlen).trans (if_pos h))
  have hjoin : Effects [] [] 0 [.bins, .closedTrays, .delivery] s
      (s.onBins fun m => { m with delivery := m.delivery ++ [b] }) := by
    refine Effects.of_changesOnly (fun c hc => ?_) (by simp) (by simp)
    cases c <;> first | rfl | simp at hc
  obtain ⟨hclosed, hdelivery, hbin, hother, heff⟩ :=
    State.deliverOldest_values (s := s.onBins fun m => { m with delivery := m.delivery ++ [b] }) (ds := [])
      (by simp [hd]) hb hy
  have hnotices : (s.onBins fun m => { m with delivery := m.delivery ++ [b] }).closedNotices b
      = [.trayClosed y.id y.run y.bin y.reason] := by
    rw [State.closedNotices, show ((s.onBins fun m => { m with delivery := m.delivery ++ [b] }).bin b).tray = some y
      from hy]
    rfl
  rw [hnotices] at heff
  rw [heq]
  refine ⟨hbin, hother, hclosed, hdelivery,
    Effects.restrict (hjoin.after (heff.mono (by decide))) fun c hc hnot => ?_⟩
  have hblock : c = .delivery := by
    simp only [List.mem_cons, List.not_mem_nil, or_false] at hc hnot
    tauto
  subst hblock
  exact hdelivery.trans hd.symm

/-- A tray that is not CLOSING, or in which a place is reserved, does not become CLOSED (R156). -/
theorem State.closeIfEmptied_stays (hy : (s.bin b).tray = some y) (h : y.state ≠ .closing ∨ 0 < y.reserved) :
    s.closeIfEmptied b = s := by
  unfold State.closeIfEmptied
  rw [hy]
  refine if_neg fun hcond => ?_
  obtain ⟨hc, hr⟩ := Bool.and_eq_true_iff.1 hcond
  rw [beq_iff_eq] at hc hr
  exact h.elim (fun h => h hc) (by omega)

/-- The tray of bin `b` marked CLOSED. -/
def State.markClosed (b : Nat) (s : State) : State := s.onTray b fun t => { t with state := .closed }

theorem State.closeIfEmptied_closes (hy : (s.bin b).tray = some y) (hc : y.state = .closing) (hr : y.reserved = 0) :
    s.closeIfEmptied b = ((s.markClosed b).trayClosedReport y.group).joinDelivery b := by
  unfold State.closeIfEmptied
  rw [hy]
  exact if_pos (by simp [hc, hr])

theorem State.markClosed_bin (hy : (s.bin b).tray = some y) :
    (s.markClosed b).bin b = ⟨(s.bin b).state, some { y with state := .closed }⟩ := by
  rw [State.markClosed, State.onTray_bin, hy]
  rfl

/-- The closing of an emptied tray whose report ends no census entry, with the closed-tray list full: the tray waits in
its bin (R156, R157). -/
theorem State.closeIfEmptied_waits (hb : b ∈ binNumbers) (hy : (s.bin b).tray = some y) (hc : y.state = .closing)
    (hr : y.reserved = 0) (hquiet : (s.markClosed b).trayClosedReport y.group = s.markClosed b)
    (h : 64 ≤ s.bins.closedTrays.length) :
    (s.closeIfEmptied b).bin b = ⟨(s.bin b).state, some { y with state := .closed }⟩
      ∧ (∀ j ∈ binNumbers, j ≠ b → (s.closeIfEmptied b).bin j = s.bin j)
      ∧ (s.closeIfEmptied b).bins.delivery = s.bins.delivery ++ [b]
      ∧ Effects [] [] StickyFlag.trayListFull.bit [.bins, .delivery] s (s.closeIfEmptied b) := by
  rw [State.closeIfEmptied_closes hy hc hr, hquiet]
  obtain ⟨hbins, hdelivery, heff⟩ := State.joinDelivery_waits (s := s.markClosed b) (b := b) h
  refine ⟨by rw [hbins, State.markClosed_bin hy], fun j hj hne => ?_, hdelivery, ?_⟩
  · rw [hbins]
    exact State.onTray_bin_ne _ _ hb hj hne
  · exact Effects.after ((State.onTray_effects _ _).mono (by simp)) (heff.mono (by simp))

/-- The same with room in the closed-tray list: the tray is delivered at once (R156, R157). -/
theorem State.closeIfEmptied_delivers (hb : b ∈ binNumbers) (hy : (s.bin b).tray = some y) (hc : y.state = .closing)
    (hr : y.reserved = 0) (hquiet : (s.markClosed b).trayClosedReport y.group = s.markClosed b)
    (h : s.bins.closedTrays.length < 64) (hd : s.bins.delivery = []) :
    (s.closeIfEmptied b).bin b = s.deliveredBin b
      ∧ (∀ j ∈ binNumbers, j ≠ b → (s.closeIfEmptied b).bin j = s.bin j)
      ∧ (s.closeIfEmptied b).bins.closedTrays = s.bins.closedTrays ++ [{ y with state := .closed }]
      ∧ Effects (s.deliveredNotices b) (.trayClosed y.id y.run y.bin y.reason :: s.deliveredNotices b) 0
          [.bins, .closedTrays] s (s.closeIfEmptied b) := by
  rw [State.closeIfEmptied_closes hy hc hr, hquiet]
  have hstate : ((s.markClosed b).bin b).state = (s.bin b).state := by rw [State.markClosed_bin hy]
  have hfrees (st : BinState) : (s.markClosed b).frees b st = s.frees b st := State.frees_congr rfl rfl st
  have hbin : (s.markClosed b).deliveredBin b = s.deliveredBin b := by simp only [State.deliveredBin, hstate, hfrees]
  have hnotices : (s.markClosed b).deliveredNotices b = s.deliveredNotices b := by
    simp only [State.deliveredNotices, hstate, hfrees]
  obtain ⟨hbins, hother, hclosed, -, heff⟩ := State.joinDelivery_delivers (s := s.markClosed b) h hd hb
    (congrArg Bin.tray (State.markClosed_bin hy))
  rw [hbin] at hbins
  rw [hnotices] at heff
  refine ⟨hbins, fun j hj hne => ?_, hclosed, ?_⟩
  · rw [hother j hj hne]
    exact State.onTray_bin_ne _ _ hb hj hne
  · exact Effects.after ((State.onTray_effects _ _).mono (by simp)) heff

end

/-! ### A tray begins closing (R155) -/

/-- The tray of bin `b` marked CLOSING, with its close reason. -/
def State.markClosing (b : Nat) (reason : CloseReason) (s : State) : State :=
  s.onTray b fun t => { t with state := .closing, reason := some reason }

/-- The OPEN tray of bin `b` goes CLOSING, and its bin FULL_WAIT unless it is FAULT or OFFLINE (R155). -/
def State.startClosing (b : Nat) (reason : CloseReason) (s : State) : State :=
  if (s.bin b).state = .fault ∨ (s.bin b).state = .offline then s.markClosing b reason
  else (s.markClosing b reason).setBinState b .fullWait

section
variable {s : State} {b : Nat} {y : Tray} {reason : CloseReason}

theorem State.beginClosing_stays (hy : (s.bin b).tray = some y) (h : y.state ≠ .opened) :
    s.beginClosing b reason = s := by
  unfold State.beginClosing
  rw [hy]
  exact if_neg (by simpa using h)

theorem State.markClosing_bin (hy : (s.bin b).tray = some y) : (s.markClosing b reason).bin b
    = ⟨(s.bin b).state, some { y with state := .closing, reason := some reason }⟩ := by
  rw [State.markClosing, State.onTray_bin, hy]
  rfl

theorem State.beginClosing_opened (hy : (s.bin b).tray = some y) (h : y.state = .opened) :
    s.beginClosing b reason = (s.startClosing b reason).closeIfEmptied b := by
  have hstate : ((s.markClosing b reason).bin b).state = (s.bin b).state := by rw [State.markClosing_bin hy]
  have hstart : (if ((s.markClosing b reason).bin b).state == .fault || ((s.markClosing b reason).bin b).state == .offline
      then s.markClosing b reason else (s.markClosing b reason).setBinState b .fullWait) = s.startClosing b reason := by
    rw [hstate]
    exact if_congr (by simp) rfl rfl
  unfold State.beginClosing
  rw [hy, ← hstart]
  exact if_pos (by simp [h])

theorem State.startClosing_values (hb : b ∈ binNumbers) (hy : (s.bin b).tray = some y) :
    (s.startClosing b reason).bin b = (s.bin b).closing reason y
      ∧ (∀ j ∈ binNumbers, j ≠ b → (s.startClosing b reason).bin j = s.bin j)
      ∧ Effects ((s.bin b).closingNotices b y) ((s.bin b).closingNotices b y) 0 [.bins] s
          (s.startClosing b reason) := by
  have hbin := State.markClosing_bin (reason := reason) hy
  have hmark : Effects [] [] 0 [.bins] s (s.markClosing b reason) := s.onTray_effects _
  have hother : ∀ j ∈ binNumbers, j ≠ b → (s.markClosing b reason).bin j = s.bin j :=
    fun j hj hne => State.onTray_bin_ne _ _ hb hj hne
  unfold State.startClosing Bin.closing Bin.closingNotices
  by_cases h : (s.bin b).state = .fault ∨ (s.bin b).state = .offline
  · simp only [h, if_true]
    exact ⟨hbin, hother, hmark⟩
  · have hset := (s.markClosing b reason).setBinState_effects (b := b) .fullWait
    rw [hbin] at hset
    simp only [h, if_false]
    refine ⟨by simp [hbin], fun j hj hne => ?_, hmark.after hset⟩
    rw [State.setBinState_bin_ne _ _ hb hj hne, hother j hj hne]

/-! ### An OPEN tray with nothing reserved in it begins closing (R155, R156) -/

/-- What closing an empty tray leaves in its bin, before the tray is delivered. -/
theorem State.startClosing_tray (hb : b ∈ binNumbers) (hy : (s.bin b).tray = some y) :
    ((s.startClosing b reason).bin b).tray = some { y with state := .closing, reason := some reason } :=
  congrArg Bin.tray (State.startClosing_values hb hy).1

theorem State.beginClosing_waits (hb : b ∈ binNumbers) (hy : (s.bin b).tray = some y) (ho : y.state = .opened)
    (hr : y.reserved = 0) (hg : ∀ u : State, u.trayClosedReport y.group = u) (h : 64 ≤ s.bins.closedTrays.length) :
    (s.beginClosing b reason).bin b
        = ⟨((s.bin b).closing reason y).state, some { y with state := .closed, reason := some reason }⟩
      ∧ (∀ j ∈ binNumbers, j ≠ b → (s.beginClosing b reason).bin j = s.bin j)
      ∧ (s.beginClosing b reason).bins.delivery = s.bins.delivery ++ [b]
      ∧ Effects ((s.bin b).closingNotices b y) ((s.bin b).closingNotices b y) StickyFlag.trayListFull.bit
          [.bins, .delivery] s (s.beginClosing b reason) := by
  obtain ⟨hstart, hstartOther, hstartEff⟩ := State.startClosing_values (reason := reason) hb hy
  have hclosed : (s.startClosing b reason).bins.closedTrays = s.bins.closedTrays :=
    hstartEff.frame .closedTrays (by simp)
  obtain ⟨hbin, hother, hdelivery, heff⟩ := State.closeIfEmptied_waits hb (State.startClosing_tray hb hy) rfl hr (hg _)
    (by rw [hclosed]; exact h)
  rw [State.beginClosing_opened hy ho]
  refine ⟨by rw [hbin, hstart], fun j hj hne => by rw [hother j hj hne, hstartOther j hj hne], ?_, ?_⟩
  · rw [hdelivery, show (s.startClosing b reason).bins.delivery = s.bins.delivery from
      hstartEff.frame .delivery (by simp)]
  · exact ((hstartEff.mono (by simp)).trans heff).congr (by simp) (by simp) (by simp)

theorem State.beginClosing_delivers (hb : b ∈ binNumbers) (hy : (s.bin b).tray = some y) (ho : y.state = .opened)
    (hr : y.reserved = 0) (hg : ∀ u : State, u.trayClosedReport y.group = u) (h : s.bins.closedTrays.length < 64)
    (hd : s.bins.delivery = []) {x : Bin} (hx : x = (s.bin b).closing reason y) {freed : List Notice}
    (hf : freed = if s.frees b x.state then [.binState b .free none] else []) :
    (s.beginClosing b reason).bin b = ⟨if s.frees b x.state then .free else x.state, none⟩
      ∧ (∀ j ∈ binNumbers, j ≠ b → (s.beginClosing b reason).bin j = s.bin j)
      ∧ (s.beginClosing b reason).bins.closedTrays
          = s.bins.closedTrays ++ [{ y with state := .closed, reason := some reason }]
      ∧ Effects ((s.bin b).closingNotices b y ++ freed)
          ((s.bin b).closingNotices b y ++ .trayClosed y.id y.run y.bin (some reason) :: freed) 0
          [.bins, .closedTrays] s (s.beginClosing b reason) := by
  obtain ⟨hstart, hstartOther, hstartEff⟩ := State.startClosing_values (reason := reason) hb hy
  have hclosed : (s.startClosing b reason).bins.closedTrays = s.bins.closedTrays :=
    hstartEff.frame .closedTrays (by simp)
  have hdelivery : (s.startClosing b reason).bins.delivery = s.bins.delivery := hstartEff.frame .delivery (by simp)
  have hfrees (st : BinState) : (s.startClosing b reason).frees b st = s.frees b st :=
    State.frees_congr (hstartEff.frame .active (by simp)) (hstartEff.frame .headTable (by simp)) st
  obtain ⟨hbin, hother, hlist, heff⟩ := State.closeIfEmptied_delivers hb (State.startClosing_tray hb hy) rfl hr (hg _)
    (by rw [hclosed]; exact h) (by rw [hdelivery]; exact hd)
  rw [State.deliveredNotices, hstart, hfrees, ← hx, ← hf] at heff
  rw [State.deliveredBin, hstart, hfrees, ← hx] at hbin
  rw [State.beginClosing_opened hy ho]
  refine ⟨hbin, fun j hj hne => by rw [hother j hj hne, hstartOther j hj hne], by rw [hlist, hclosed], ?_⟩
  exact ((hstartEff.mono (by simp)).trans heff).congr rfl rfl (by simp)

end

end Sys2Proof.Machine
end

section
/-! A stalled entry that takes the bin a delivery has freed (R149 to R152), and the acknowledgements (R22, R159). -/

namespace Sys2Proof.Machine

/-! ### A tray opens in a FREE bin (R145, R149) -/

section
variable {s t : State} {b k : Nat} {g : TrayGroup} {y : Tray}

theorem State.openTray_values (hb : b ∈ binNumbers) :
    (s.openTray b g).bin b = ⟨.opened, some (s.newTray b g)⟩
      ∧ (∀ j ∈ binNumbers, j ≠ b → (s.openTray b g).bin j = s.bin j)
      ∧ (s.openTray b g).bins.trayCounter = (if s.bins.trayCounter = 65535 then 1 else s.bins.trayCounter + 1)
      ∧ Effects [.binState b .opened (some s.bins.trayCounter)] [.binState b .opened (some s.bins.trayCounter)] 0
          [.bins, .trayCounter] s (s.openTray b g) := by
  have hput : Effects [] [] 0 [.bins, .trayCounter] s ((s.onBins fun m => { m with
      trayCounter := if m.trayCounter == 65535 then 1 else m.trayCounter + 1 }).onBin b
        fun x => { x with tray := some (s.newTray b g) }) := by
    refine Effects.of_changesOnly (fun c hc => ?_) (by simp) (by simp)
    cases c <;> first | rfl | simp at hc
  have hset := State.setBinState_effects (b := b) ((s.onBins fun m => { m with
    trayCounter := if m.trayCounter == 65535 then 1 else m.trayCounter + 1 }).onBin b
      fun x => { x with tray := some (s.newTray b g) }) .opened
  rw [State.onBin_bin] at hset
  unfold State.openTray
  refine ⟨by rw [State.setBinState_bin, State.onBin_bin], fun j hj hne => ?_, ?_,
    hput.after (hset.mono (by simp))⟩
  · rw [State.setBinState_bin_ne _ _ hb hj hne, State.onBin_bin_ne _ _ hb hj hne]
    rfl
  · refine (hset.frame .trayCounter (by simp)).trans ?_
    simp [State.onBin, BinManager.onBin]

/-- A place reserved that does not fill the tray (R150). -/
theorem State.reserve_values {tag m : Nat} (hb : b ∈ binNumbers) (hy : (s.bin b).tray = some y)
    (hl : y.count + (y.reserved + 1) ≠ s.profile.sort.trayPieceLimit) :
    (s.reserve b tag m).bin b
        = ⟨(s.bin b).state, some { y with reserved := y.reserved + 1, reservedMass := y.reservedMass + m }⟩
      ∧ (∀ j ∈ binNumbers, j ≠ b → (s.reserve b tag m).bin j = s.bin j)
      ∧ (s.reserve b tag m).bins.reservations = s.bins.reservations ++ [⟨tag, y.id, m⟩]
      ∧ Effects [] [] 0 [.bins, .reservations] s (s.reserve b tag m) := by
  have htray : (s.onTray b fun t => { t with reserved := t.reserved + 1, reservedMass := t.reservedMass + m }).bin b
      = ⟨(s.bin b).state, some { y with reserved := y.reserved + 1, reservedMass := y.reservedMass + m }⟩ := by
    rw [State.onTray_bin, hy]
    rfl
  have hid : (s.bin b).tray.elim 0 Tray.id = y.id := by rw [hy]; rfl
  have heq : s.reserve b tag m
      = (s.onTray b fun t => { t with reserved := t.reserved + 1, reservedMass := t.reservedMass + m }).onBins
          fun x => { x with reservations := x.reservations ++ [⟨tag, y.id, m⟩] } := by
    unfold State.reserve
    rw [hid]
    refine if_neg ?_
    rw [show ∀ u : State, ((u.onBins fun x => { x with reservations := x.reservations ++ [⟨tag, y.id, m⟩] }).bin b)
      = u.bin b from fun _ => rfl, htray]
    simpa using hl
  rw [heq]
  refine ⟨htray, fun j hj hne => State.onTray_bin_ne _ _ hb hj hne, rfl, ?_⟩
  refine Effects.of_changesOnly (fun c hc => ?_) (by simp) (by simp)
  cases c <;> first | rfl | simp at hc

/-- The lowest dedicated bin that is FREE (R149). -/
theorem State.binForTray_rule (hb : b ∈ binNumbers) (hd : s.profile.dedicatedSlot b = some k)
    (hfree : (s.bin b).state = .free)
    (hfirst : ∀ j ∈ binNumbers, j < b → s.profile.dedicatedSlot j = some k → (s.bin j).state ≠ .free) :
    s.binForTray (.rule k) = some b := by
  obtain ⟨as, bs, hsplit⟩ := List.append_of_mem hb
  have hsorted : binNumbers.Pairwise (· < ·) := by decide
  refine List.find?_eq_some_iff_append.2 ⟨by simp [hd, hfree], as, bs, hsplit, fun j hj => ?_⟩
  rw [hsplit, List.pairwise_append] at hsorted
  have hlt : j < b := hsorted.2.2 j hj b List.mem_cons_self
  have hmem : j ∈ binNumbers := by
    rw [hsplit]
    exact List.mem_append_left _ hj
  by_cases hj : s.profile.dedicatedSlot j = some k
  · simpa [hj] using hfirst j hmem hlt hj
  · simp [hj]

theorem State.openTrayBin_none (h : ∀ j ∈ binNumbers, ∀ z, (s.bin j).tray = some z → z.group = g → z.state ≠ .opened) :
    s.openTrayBin g = none := by
  refine List.find?_eq_none.2 fun j hj => ?_
  cases hz : (s.bin j).tray with
  | none => simp
  | some z => simpa using h j hj z hz

/-- The continuation number depends on the trays held, in whatever order. -/
theorem State.nextContinuation_of_perm (hr : t.run.runNumber = s.run.runNumber) (h : t.heldTrays.Perm s.heldTrays) :
    t.nextContinuation g = s.nextContinuation g := by
  have hmax : ((t.heldTrays.filter fun z => z.run == s.run.runNumber && z.group == g).map Tray.continuation).foldl max 0
      = ((s.heldTrays.filter fun z => z.run == s.run.runNumber && z.group == g).map Tray.continuation).foldl max 0 :=
    ((h.filter _).map _).foldl_eq 0
  simp only [State.nextContinuation, hr, hmax]

/-- A delivery moves the tray from its bin to the closed-tray list. -/
theorem State.heldTrays_of_delivered (hb : b ∈ binNumbers) (hy : (s.bin b).tray = some y) (ht : (t.bin b).tray = none)
    (hother : ∀ j ∈ binNumbers, j ≠ b → t.bin j = s.bin j)
    (hclosed : t.bins.closedTrays = s.bins.closedTrays ++ [y]) : t.heldTrays.Perm s.heldTrays := by
  have hperm : binNumbers.Perm (b :: binNumbers.erase b) := List.perm_cons_erase hb
  have hrest : (binNumbers.erase b).filterMap (fun j => (t.bin j).tray)
      = (binNumbers.erase b).filterMap fun j => (s.bin j).tray := by
    refine List.filterMap_congr fun j hj => ?_
    have hne : j ≠ b := fun e => (List.Nodup.not_mem_erase (by decide)) (e ▸ hj)
    rw [hother j (List.mem_of_mem_erase hj) hne]
  have hs := hperm.filterMap fun j => (s.bin j).tray
  have ht' := hperm.filterMap fun j => (t.bin j).tray
  rw [List.filterMap_cons_some (by exact hy)] at hs
  rw [List.filterMap_cons_none (by exact ht), hrest] at ht'
  unfold State.heldTrays
  rw [hclosed, ← List.append_assoc]
  refine (List.perm_append_singleton _ _).trans ?_
  rw [← List.cons_append]
  exact ((List.Perm.cons y ht').trans hs.symm).append_right _

end

/-! ### The stalled entry takes a bin that has become FREE (R152) -/

/-- A sound piece ruled by slot `k`, whose group has no OPEN tray, opens one in the lowest FREE bin dedicated to `k`. -/
theorem State.decideEntry_opens {s : State} {e : TrackEntry} {r : Piece} {k b : Nat} (hr : s.piece? e.piece = some r)
    (hfaults : r.faults = []) (hcancel : r.cancelPending = false) (hc : r.census = .ruled k)
    (hnone : s.openTrayBin (.rule k) = none) (hbin : s.binForTray (.rule k) = some b) :
    s.decideEntry e = ((s.openTray b (.rule k)).reserve b e.tag r.finalMass, .decided (.bin b)) := by
  have hlevel : s.levelAnswer r = (s, .rule k) := by simp [State.levelAnswer, hc]
  have hplace : s.placeInTray (.rule k) e.tag r.finalMass = s.openOrStall (.rule k) e.tag r.finalMass := by
    simp [State.placeInTray, hnone]
  unfold State.decideEntry State.gateDecision
  simp [hr, hfaults, hcancel, hlevel, hplace, State.openOrStall, hbin]

theorem State.bin_eq_of_table {s t : State} {b : Nat} (h : t.bins.table = s.bins.table) : t.bin b = s.bin b := by
  simp [State.bin, BinManager.bin, h]

/-- A decision that ends a stall, with no entry at the gate behind it: the hand-on stops at once. -/
theorem State.endStallWith_stops {s : State} {pre post : List TrackEntry} {e : TrackEntry} {d : GateDecision}
    (h : s.track.entries = pre ++ e :: post) (hn : (s.track.entries.map TrackEntry.tag).Nodup)
    (hpost : ∀ x, post.head? = some x → x.stage ≠ .atGate) :
    (s.endStallWith e.tag d).track.entries = pre ++ e.gate d :: post
      ∧ (s.endStallWith e.tag d).handOn ((s.endStallWith e.tag d).younger e.tag) = s.endStallWith e.tag d := by
  have hentries : (s.endStallWith e.tag d).track.entries = pre ++ e.gate d :: post := by
    rw [State.endStallWith, (State.notify_fields _ _ _).2.2.2.2.1]
    exact State.setGated_of_split d h hn
  have hnodup : ((s.endStallWith e.tag d).track.entries.map TrackEntry.tag).Nodup := by
    rw [hentries]
    rw [h] at hn
    simpa [TrackEntry.gate] using hn
  have hyounger : (s.endStallWith e.tag d).younger e.tag = post.map TrackEntry.tag :=
    State.younger_of_split (e := e.gate d) hentries hnodup
  refine ⟨hentries, ?_⟩
  rw [hyounger]
  exact State.handOn_stops (older := pre ++ [e.gate d]) (by simpa using hentries) hnodup hpost

/-- The re-evaluation of a stalled entry for which a tray opens, with no entry waiting behind it. -/
theorem State.reevaluate_opens {s : State} {pre post : List TrackEntry} {e : TrackEntry} {r : Piece} {g : TrayGroup}
    {k b : Nat} (hentries : s.track.entries = pre ++ e :: post) (hn : (s.track.entries.map TrackEntry.tag).Nodup)
    (hstall : s.bins.stall = some ⟨e.tag, g⟩) (hpost : ∀ x, post.head? = some x → x.stage ≠ .atGate)
    (hr : s.piece? e.piece = some r) (hfaults : r.faults = []) (hcancel : r.cancelPending = false)
    (hc : r.census = .ruled k) (hlimit : s.profile.sort.trayPieceLimit ≠ 1) (hb : b ∈ binNumbers)
    (hnone : s.openTrayBin (.rule k) = none) (hbin : s.binForTray (.rule k) = some b) {t : State}
    (ht : t = (s.reevaluate true).1) :
    t.bins.stall = none ∧ t.track.entries = pre ++ e.gate (.bin b) :: post
      ∧ t.bin b = ⟨.opened, some { s.newTray b (.rule k) with reserved := 1, reservedMass := r.finalMass }⟩
      ∧ (∀ j ∈ binNumbers, j ≠ b → t.bin j = s.bin j)
      ∧ t.bins.trayCounter = (if s.bins.trayCounter = 65535 then 1 else s.bins.trayCounter + 1)
      ∧ t.bins.reservations = s.bins.reservations ++ [⟨e.tag, s.bins.trayCounter, r.finalMass⟩]
      ∧ Effects [.binState b .opened (some s.bins.trayCounter), .gateGo e.tag (.bin b)]
          [.binState b .opened (some s.bins.trayCounter)] 0
          [.bins, .trayCounter, .reservations, .entries, .stall] s t := by
  obtain ⟨hopen, hopenOther, hcounter, hopenEff⟩ := State.openTray_values (s := s) (g := .rule k) hb
  obtain ⟨hres, hresOther, hreservations, hresEff⟩ := State.reserve_values (s := s.openTray b (.rule k)) (tag := e.tag)
    (m := r.finalMass) hb (congrArg Bin.tray hopen) (by simpa [State.newTray] using fun h => hlimit h.symm)
  have heff : Effects _ _ 0 [.bins, .trayCounter, .reservations, .entries, .stall] s _ :=
    (hopenEff.mono (by decide)).before (hresEff.mono (by decide))
  have hdecides := State.reevaluate_decides hstall (State.entry?_of_split hentries hn)
    (State.decideEntry_opens hr hfaults hcancel hc hnone hbin)
  have htrack : ((s.openTray b (.rule k)).reserve b e.tag r.finalMass).track = s.track := by simp
  obtain ⟨hentries', hstop⟩ := State.endStallWith_stops (d := .bin b)
    (by rw [htrack]; exact hentries) (by rw [htrack]; exact hn) hpost
  have hbins := State.endStallWith_bins e.tag (.bin b) ((s.openTray b (.rule k)).reserve b e.tag r.finalMass)
  rw [hstop] at hdecides
  rw [ht, hdecides]
  have hbinEq (j : Nat) : (((s.openTray b (.rule k)).reserve b e.tag r.finalMass).endStallWith e.tag (.bin b)).bin j
      = ((s.openTray b (.rule k)).reserve b e.tag r.finalMass).bin j :=
    State.bin_eq_of_table (by rw [hbins])
  refine ⟨by rw [hbins], hentries', by rw [hbinEq, hres, hopen]; simp [State.newTray], fun j hj hne => ?_, ?_, ?_, ?_⟩
  · rw [hbinEq, hresOther j hj hne, hopenOther j hj hne]
  · rw [hbins]
    exact (hresEff.frame .trayCounter (by simp)).trans hcounter
  · rw [hbins]
    exact hreservations.trans (congrArg (· ++ _) (hopenEff.frame .reservations (by simp)))
  · exact (heff.trans ((State.endStallWith_effects _ _ _).mono (by decide))).congr rfl rfl (by simp)

/-! ### The removal tests of the census, when a closed tray is reported (R128) -/

section
variable {s t : State}

theorem State.holdsUnclosed_iff {g : TrayGroup} : s.holdsUnclosed g = true ↔
    ∃ j ∈ binNumbers, ∃ z, (s.bin j).tray = some z ∧ z.group = g ∧ z.state ≠ .closed := by
  unfold State.holdsUnclosed
  rw [List.any_eq_true]
  refine exists_congr fun j => and_congr_right fun _ => ?_
  cases (s.bin j).tray <;> simp

/-- Whether a group has a tray not yet CLOSED depends on the groups and the states of the trays alone. -/
theorem State.holdsUnclosed_congr (h : ∀ j ∈ binNumbers, (t.bin j).tray.map (fun z => (z.group, z.state))
    = (s.bin j).tray.map fun z => (z.group, z.state)) (g : TrayGroup) : t.holdsUnclosed g = s.holdsUnclosed g := by
  rw [Bool.eq_iff_iff, State.holdsUnclosed_iff, State.holdsUnclosed_iff]
  refine exists_congr fun j => and_congr_right fun hj => ?_
  have hj := h j hj
  cases ht : (t.bin j).tray <;> cases hs : (s.bin j).tray <;> simp_all

/-- The removal tests read the census, the area length and the trays not yet CLOSED. -/
theorem State.removeAreaIfDone_census_congr (hc : t.census = s.census)
    (hh : ∀ g, t.holdsUnclosed g = s.holdsUnclosed g) (a : List Nat) :
    (t.removeAreaIfDone a).census = (s.removeAreaIfDone a).census := by
  simp only [State.removeAreaIfDone, hc, hh, apply_ite State.census, State.onCensus_census]

theorem State.removeFineIfDone_census_congr (hc : t.census = s.census) (hp : t.profile = s.profile)
    (hh : ∀ g, t.holdsUnclosed g = s.holdsUnclosed g) (d : List Nat) :
    (t.removeFineIfDone d).census = (s.removeFineIfDone d).census := by
  simp only [State.removeFineIfDone, hc, hh, hp, apply_ite State.census]
  refine if_congr Iff.rfl ?_ rfl
  exact State.removeAreaIfDone_census_congr (t := t.onCensus _) (s := s.onCensus _) (by simp [hc]) hh _

end

/-- What an OPEN tray with nothing reserved leaves of the census when it closes: the report of the closed tray. -/
theorem State.beginClosing_census {s : State} {b : Nat} {y : Tray} {reason : CloseReason} (hb : b ∈ binNumbers)
    (hy : (s.bin b).tray = some y) (ho : y.state = .opened) (hr : y.reserved = 0) :
    (s.beginClosing b reason).census = ((s.markClosed b).trayClosedReport y.group).census := by
  obtain ⟨hstart, hother, heff⟩ := State.startClosing_values (reason := reason) hb hy
  have hcensus : (s.startClosing b reason).census = s.census := heff.frame .census (by simp)
  have hprofile : (s.startClosing b reason).profile = s.profile := heff.frame .active (by simp)
  have hmarked : ((s.startClosing b reason).markClosed b).bin b
      = ⟨((s.bin b).closing reason y).state, some { y with state := .closed, reason := some reason }⟩ := by
    rw [State.markClosed_bin (State.startClosing_tray hb hy), hstart]
  have hheld (g : TrayGroup) :
      ((s.startClosing b reason).markClosed b).holdsUnclosed g = (s.markClosed b).holdsUnclosed g := by
    refine State.holdsUnclosed_congr (fun j hj => ?_) g
    by_cases hjb : j = b
    · rw [hjb, hmarked, State.markClosed_bin hy]
      rfl
    · rw [State.markClosed, State.onTray_bin_ne _ _ hb hj hjb, hother j hj hjb, State.markClosed,
        State.onTray_bin_ne _ _ hb hj hjb]
  rw [State.beginClosing_opened hy ho, State.closeIfEmptied_closes (State.startClosing_tray hb hy) rfl hr,
    State.joinDelivery_census]
  cases y.group with
  | fine d =>
    exact State.removeFineIfDone_census_congr (t := (s.startClosing b reason).markClosed b) (s := s.markClosed b)
      hcensus hprofile hheld d
  | area a =>
    exact State.removeAreaIfDone_census_congr (t := (s.startClosing b reason).markClosed b) (s := s.markClosed b)
      hcensus hheld a
  | mixed => exact hcensus
  | rule k => exact hcensus

/-! ### The acknowledgements (R22, R159) -/

/-- Of a list that is filtered, the part before a place of the list. -/
theorem take_length_filter_take {α : Type} (p : α → Bool) (l : List α) (n : Nat) :
    (l.filter p).take ((l.take n).filter p).length = (l.take n).filter p := by
  conv_lhs => rw [← List.take_append_drop n l, List.filter_append]
  simp

theorem ackOutcomesBody_ok {pl : List Byte} {s : State} {n : Nat} (hn : fieldAt pl 0 2 = n) (h1 : 1 ≤ n)
    (h : n ≤ s.run.outcomes.length) :
    ackOutcomesBody pl s = (s.ackOutcomes n, done [.code .count (s.run.outcomes.length - n)]) := by
  unfold ackOutcomesBody
  simp only [hn]
  exact if_neg (by omega)

theorem ackTraysBody_ok {pl : List Byte} {s : State} {n : Nat} (hn : byteAt pl 0 = n) (h1 : 1 ≤ n) (h64 : n ≤ 64)
    (h : n ≤ s.bins.closedTrays.length) :
    ackTraysBody pl s = (s.ackTrays n,
      done [byteV (s.ackTrays n).bins.closedTrays.length, byteV (s.ackTrays n).bins.delivery.length]) := by
  unfold ackTraysBody
  simp only [hn]
  exact if_neg (by omega)

/-- The `n` oldest records gone from the closed-tray list (R159). -/
def State.dropTrays (n : Nat) (s : State) : State :=
  s.onBins fun m => { m with closedTrays := m.closedTrays.drop n }

theorem State.dropTrays_effects (n : Nat) (s : State) : Effects [] [] 0 [.closedTrays] s (s.dropTrays n) := by
  refine Effects.of_changesOnly (fun c hc => ?_) (by simp) (by simp)
  cases c <;> first | rfl | simp at hc

/-- The records gone, the waiting trays delivered: what comes before the re-evaluation (R159). -/
def State.ackDelivered (n : Nat) (s : State) : State := (s.dropTrays n).deliverWaiting s.bins.delivery.length

theorem State.ackDelivered_frame (n : Nat) (s : State) : (s.ackDelivered n).track = s.track
    ∧ (s.ackDelivered n).run = s.run ∧ (s.ackDelivered n).profile = s.profile := by
  simp [State.ackDelivered, State.dropTrays]

theorem State.ackTrays_eq (n : Nat) (s : State) : s.ackTrays n = ((s.ackDelivered n).reevaluate true).1 := rfl

theorem State.ackTrays_changes (n : Nat) (s : State) : ChangesOnly gateBlocks s (s.ackTrays n) := by
  rw [State.ackTrays_eq]
  have hdeliver : ChangesOnly gateBlocks (s.dropTrays n) (s.ackDelivered n) :=
    changesOnly_gateBlocks (by simp [State.ackDelivered])
  exact (((s.dropTrays_effects n).frame.mono (by decide)).trans hdeliver).trans (State.reevaluate_changes _ _)

/-- What the deliveries of ACK_TRAYS do. -/
theorem State.ackDelivered_values {n k : Nat} {s : State} (hd : s.Delivers s.bins.delivery)
    (hk : k = min (64 - (s.bins.closedTrays.length - n)) s.bins.delivery.length) :
    (s.ackDelivered n).bins.closedTrays
        = s.bins.closedTrays.drop n ++ (s.bins.delivery.take k).filterMap (fun b => (s.bin b).tray)
      ∧ (s.ackDelivered n).bins.delivery = s.bins.delivery.drop k
      ∧ (∀ b ∈ binNumbers,
          (s.ackDelivered n).bin b = if b ∈ s.bins.delivery.take k then s.deliveredBin b else s.bin b)
      ∧ Effects ((s.bins.delivery.take k).flatMap s.deliveredNotices)
          ((s.bins.delivery.take k).flatMap fun b => s.closedNotices b ++ s.deliveredNotices b) 0
          [.closedTrays, .delivery, .bins] s (s.ackDelivered n) := by
  obtain ⟨hclosed, hdelivery, hbins, heff⟩ := State.deliverWaiting_values (s := s.dropTrays n)
    (ds := s.bins.delivery) rfl hd (k := k) (by simpa [State.dropTrays, State.onBins] using hk)
  exact ⟨hclosed, hdelivery, hbins, Effects.after ((s.dropTrays_effects n).mono (by simp)) heff⟩

/-- The same when one tray waits and its bin is freed by the delivery. -/
theorem State.ackDelivered_one {n b : Nat} {s : State} {y : Tray} (hd : s.bins.delivery = [b]) (hb : b ∈ binNumbers)
    (hy : (s.bin b).tray = some y) (hf : s.frees b (s.bin b).state = true) (hroom : s.bins.closedTrays.length - n < 64) :
    (s.ackDelivered n).bins.closedTrays = s.bins.closedTrays.drop n ++ [y]
      ∧ (s.ackDelivered n).bins.delivery = [] ∧ (s.ackDelivered n).bin b = ⟨.free, none⟩
      ∧ (∀ j ∈ binNumbers, j ≠ b → (s.ackDelivered n).bin j = s.bin j)
      ∧ Effects [.binState b .free none] [.trayClosed y.id y.run y.bin y.reason, .binState b .free none] 0
          [.closedTrays, .delivery, .bins] s (s.ackDelivered n) := by
  have hdelivers : s.Delivers s.bins.delivery := by
    rw [hd]
    exact ⟨List.nodup_singleton b, fun j hj => by rw [List.mem_singleton.1 hj]; exact ⟨hb, by simp [hy]⟩⟩
  obtain ⟨hclosed, hdelivery, hbins, heff⟩ := State.ackDelivered_values (n := n) (k := 1) hdelivers
    (by rw [hd, List.length_singleton]; omega)
  have hnotices : s.deliveredNotices b = [.binState b .free none] := by simp [State.deliveredNotices, hf]
  have hbin : s.deliveredBin b = ⟨.free, none⟩ := by simp [State.deliveredBin, hf]
  rw [hd] at hclosed hdelivery hbins heff
  refine ⟨by simpa [hy] using hclosed, hdelivery, by rw [hbins b hb]; simp [hbin], fun j hj hne => ?_, ?_⟩
  · rw [hbins j hj]
    exact if_neg (by simpa using hne)
  · exact heff.congr (by simp [hnotices]) (by simp [hnotices, State.closedNotices, hy]) rfl

end Sys2Proof.Machine

open Sys2Proof Sys2Proof.Machine

/-- Settles O53: the oldest records go, the waiting trays follow in order, and a stalled entry is re-evaluated once. -/
theorem acknowledgementsRemoveTheOldest : Obligations.AcknowledgementsRemoveTheOldest := by
  refine ⟨fun n s hn hdue => ⟨fun h1 hlen => ?_, fun hbad => ?_⟩,
    fun n s hn hdue => ⟨fun h1 h64 hlen => ?_, fun h1 h64 hlen hstall hnodup hheld => ?_,
      fun pre post e r g k b y h1 h64 hlen hfull hbounded hentries hstage hstalled hstall hpost hr hfaults hcancel hc hlimit
        hnone hb hded hfirst hdelivery hy hfrees => ?_, fun hbad => ?_⟩,
    fun s u => ⟨State.afterEvent_of_none_freed, fun b hb h hf => State.afterEvent_of_freed hb h hf⟩,
    fun b y reason s hb hy => ?_⟩
  · have harg : fieldAt (toBytes 2 n) 0 2 = n := by simp; omega
    have heff : Effects [] [] 0 [.pieces, .outcomes, .cursor] (s.dropFrame .plan)
        ((s.dropFrame .plan).ackOutcomes n) := by
      refine Effects.of_changesOnly (fun c hc => ?_) (by simp) (by simp)
      cases c <;> first | rfl | simp at hc
    obtain ⟨hexec, hans, hhap⟩ := exec_due_effects (k := .ackOutcomes) hdue rfl rfl
      (ackOutcomesBody_ok (s := s.dropFrame .plan) harg h1 hlen) heff (by simp)
    exact ⟨_, hexec, hans, rfl, take_length_filter_take _ _ _, hhap⟩
  · refine exec_due_unchanged (k := .ackOutcomes) (r := refuse .badArg) hdue rfl rfl ?_
    have harg : fieldAt (toBytes 2 n) 0 2 = n := by simp; omega
    simp only [RequestKind.body, ackOutcomesBody, harg]
    exact if_pos hbad
  · have harg : byteAt (toBytes 1 n) 0 = n := by simp; omega
    obtain ⟨hexec, hans, hchanges⟩ := exec_due_changes (k := .ackTrays) hdue rfl rfl
      (ackTraysBody_ok (s := s.dropFrame .plan) harg h1 h64 hlen) (by decide) (State.ackTrays_changes _ _)
    exact ⟨_, hexec, hans, hchanges.mono (by decide)⟩
  · have harg : byteAt (toBytes 1 n) 0 = n := by simp; omega
    intro k out freed closed
    obtain ⟨hclosed, hdelivery, hbins, heff⟩ := State.ackDelivered_values (n := n) (s := s.dropFrame .plan)
      ⟨hnodup, hheld⟩ rfl
    have hquiet : (s.dropFrame .plan).ackTrays n = (s.dropFrame .plan).ackDelivered n := by
      rw [State.ackTrays_eq, State.reevaluate_of_no_stall]
      exact (BinManager.stall_eq_of_promises (State.deliverWaiting_promises _ _)).trans hstall
    have hb := ackTraysBody_ok (s := s.dropFrame .plan) harg h1 h64 hlen
    rw [hquiet] at hb
    obtain ⟨hexec, -, hhap⟩ := exec_due_effects (k := .ackTrays) hdue rfl rfl hb heff (by simp)
    exact ⟨_, hexec, hclosed, hdelivery, hbins, hhap⟩
  · have harg : byteAt (toBytes 1 n) 0 = n := by simp; omega
    intro id held opened
    obtain ⟨-, htags, -⟩ := hbounded
    obtain ⟨hclosed, hqueue, hfree, hother, heff⟩ := State.ackDelivered_one (s := s.dropFrame .plan) (n := n) hdelivery hb
      hy hfrees (by simp only [State.dropFrame_fields]; omega)
    have hb' := ackTraysBody_ok (s := s.dropFrame .plan) harg h1 h64 hlen
    generalize hu : (s.dropFrame .plan).ackDelivered n = u at hclosed hqueue hfree hother heff
    obtain ⟨htrack, hrun, hprofile⟩ : u.track = s.track ∧ u.run = s.run ∧ u.profile = s.profile := by
      rw [← hu]
      exact State.ackDelivered_frame n (s.dropFrame .plan)
    have hslot : u.openTrayBin (.rule k) = none := State.openTrayBin_none fun j hj z hz hg => by
      by_cases hjb : j = b
      · simp [hjb, hfree] at hz
      · exact hnone j hj z (by rw [hother j hj hjb] at hz; exact hz) hg
    have hbin : u.binForTray (.rule k) = some b := State.binForTray_rule hb (by rw [hprofile]; exact hded)
      (by rw [hfree]) fun j hj hlt hdj => by
        rw [hother j hj (by omega)]
        exact hfirst j hj hlt (by rw [← hprofile]; exact hdj)
    obtain ⟨hnostall, hgated, hopened, hsame, hcounter, hreserved, hopenEff⟩ := State.reevaluate_opens
      (by rw [htrack]; exact hentries) (by rw [htrack]; exact htags)
      ((heff.frame .stall (by simp)).trans hstall) hpost (by rw [State.piece?, hrun]; exact hr) hfaults hcancel hc
      (by rw [hprofile]; exact hlimit) hb hslot hbin rfl
    have hcounter0 : u.bins.trayCounter = id := heff.frame .trayCounter (by simp)
    have hheld : u.nextContinuation (.rule k) = held.nextContinuation (.rule k) := by
      refine State.nextContinuation_of_perm (by rw [hrun]) (State.heldTrays_of_delivered hb hy (by rw [hfree]) hother ?_)
      exact hclosed
    have hack : (s.dropFrame .plan).ackTrays n = (u.reevaluate true).1 := by rw [State.ackTrays_eq, hu]
    rw [hcounter0] at hcounter hreserved hopenEff
    have hall := (heff.mono (by decide)).trans (hopenEff.mono (cs := [.closedTrays, .delivery, .bins, .trayCounter,
      .reservations, .entries, .stall]) (by decide))
    rw [hack] at hb'
    obtain ⟨hexec, -, hhap⟩ := exec_due_effects (k := .ackTrays) hdue rfl rfl hb' hall (by simp)
    refine ⟨_, hexec, ?_, ?_, hnostall, hgated, ?_, ?_, hcounter, ?_, hhap⟩
    · exact (hopenEff.frame .closedTrays (by simp)).trans hclosed
    · exact (hopenEff.frame .delivery (by simp)).trans hqueue
    · refine hopened.trans ?_
      rw [State.newTray, hheld, hcounter0, hrun]
    · exact fun j hj hne => (hsame j hj hne).trans (hother j hj hne)
    · exact hreserved.trans (congrArg (· ++ _) (heff.frame .reservations (by simp)))
  · refine exec_due_unchanged (k := .ackTrays) (r := refuse .badArg) hdue rfl rfl ?_
    have harg : byteAt (toBytes 1 n) 0 = n := by simp; omega
    simp only [RequestKind.body, ackTraysBody, harg]
    exact if_pos hbad
  · intro t x y' closing others
    have hquiet (hg : y.group = .mixed ∨ ∃ k, y.group = .rule k) (u : State) : u.trayClosedReport y.group = u := by
      rcases hg with hg | ⟨k, hg⟩ <;> rw [hg] <;> rfl
    refine ⟨State.beginClosing_stays hy, fun ho hr => ?_, fun ho hr hg => ⟨fun hfull => ?_, fun hroom hd => ?_⟩,
      fun d ho hr hg => ?_, fun a ho hr hg => ?_⟩
    · have hstart : t = s.startClosing b reason :=
        (State.beginClosing_opened hy ho).trans (State.closeIfEmptied_stays (State.startClosing_tray hb hy) (.inr hr))
      obtain ⟨hbin, hother, heff⟩ := State.startClosing_values (reason := reason) hb hy
      simp only [others, hstart]
      exact ⟨hbin, hother, heff⟩
    · exact State.beginClosing_waits hb hy ho hr (hquiet hg) hfull
    · exact State.beginClosing_delivers hb hy ho hr (hquiet hg) hroom hd rfl rfl
    · exact (State.beginClosing_census hb hy ho hr).trans (by rw [hg]; rfl)
    · exact (State.beginClosing_census hb hy ho hr).trans (by rw [hg]; rfl)
end

section
/-! A record that finishes without ending a group (R126 to R129), and what a re-evaluation keeps of the tags and the
reservations (R109, R152). -/

namespace Sys2Proof.Machine

/-! ### The count of a fine entry falls (R127) -/

section
variable {c : List CensusEntry} {d a : List Nat} {f : Nat → Nat}

@[simp] theorem CensusEntry.onCount_digits (e : CensusEntry) : (e.onCount f).digits = e.digits := by
  unfold CensusEntry.onCount; split <;> rfl

@[simp] theorem CensusEntry.onCount_isFine (e : CensusEntry) : (e.onCount f).kind.isFine = e.kind.isFine := by
  unfold CensusEntry.onCount; split <;> simp_all [EntryKind.isFine]

theorem findFine_eq_some {n : Nat} {l : FineLevel} :
    findFine c d = some (n, l) ↔ (c.find? fun e => e.kind.isFine && e.digits == d) = some ⟨d, .fine n l⟩ := by
  unfold findFine
  cases h : c.find? fun e => e.kind.isFine && e.digits == d with
  | none => simp
  | some e =>
    obtain ⟨digits, kind⟩ := e
    have he := List.find?_some h
    cases kind with
    | area l => simp [EntryKind.isFine] at he
    | fine n l =>
      have hdigits : digits = d := by simpa [EntryKind.isFine] using he
      simp [hdigits]

/-- A fine entry after a change of its count. -/
theorem findFine_onFine {n : Nat} {l : FineLevel} (h : findFine c d = some (n, l)) :
    findFine (onFine d (CensusEntry.onCount f) c) d = some (f n, l) := by
  rw [findFine_eq_some] at h ⊢
  have hp : ((fun e : CensusEntry => e.kind.isFine && e.digits == d) ∘ fun e =>
      if (e.kind.isFine && e.digits == d) = true then e.onCount f else e) = fun e => e.kind.isFine && e.digits == d := by
    funext e
    rw [Function.comp_apply]
    split <;> simp
  rw [onFine, List.find?_map, hp, h]
  simp [EntryKind.isFine, CensusEntry.onCount]

/-- A change of a fine count leaves the area entries as they are. -/
theorem findArea_onFine : findArea (onFine d (CensusEntry.onCount f) c) a = findArea c a := by
  have hp : ((fun e : CensusEntry => !e.kind.isFine && e.digits == a) ∘ fun e =>
      if (e.kind.isFine && e.digits == d) = true then e.onCount f else e) = fun e => !e.kind.isFine && e.digits == a := by
    funext e
    rw [Function.comp_apply]
    split <;> simp
  unfold findArea
  rw [onFine, List.find?_map, hp]
  cases h : c.find? fun e => !e.kind.isFine && e.digits == a with
  | none => rfl
  | some e =>
    have he := List.find?_some h
    have hfine : e.kind.isFine = false := by simpa using (Bool.and_eq_true_iff.1 he).1
    simp [hfine]

end

section
variable {s t : State} {r : Piece}

theorem State.censusLess_counted (h : r.census = .counted) :
    s.censusLess r = onFine (s.profile.sort.finePrefix r.key) (CensusEntry.onCount (· - 1)) s.census := by
  rw [State.censusLess, if_pos h, onFine]
  refine List.map_congr_left fun e _ => if_congr ?_ rfl rfl
  simp [SortSettings.finePrefix]

/-- A fine entry whose count is not 0 is not removed (R128). -/
theorem State.removeFineIfDone_stays {u : State} {d : List Nat} {n : Nat} {l : FineLevel}
    (h : findFine u.census d = some (n, l)) (hn : n ≠ 0) : u.removeFineIfDone d = u :=
  if_neg (by simp [h, hn])

/-- An area entry above a fine entry is not removed (R128). -/
theorem State.removeAreaIfDone_stays {u : State} {d : List Nat} {n : Nat} {l : FineLevel}
    (h : findFine u.census d = some (n, l)) (m : Nat) : u.removeAreaIfDone (d.take m) = u := by
  have hmem := List.mem_of_find?_eq_some (findFine_eq_some.1 h)
  have hany : (u.census.any fun e => e.kind.isFine && (d.take m).isPrefixOf e.digits) = true :=
    List.any_eq_true.2 ⟨_, hmem, by simpa [EntryKind.isFine] using List.take_prefix m d⟩
  exact if_neg (by simp [hany])

/-- The report of a closed tray of the piece's own group removes no census entry, while the census counts the piece and
another with it (R128, R132). -/
theorem State.trayClosedReport_own {u : State} {g : TrayGroup} (h : s.FallsQuietly r) (hg : s.OwnGroup r g)
    (hc : u.census = s.census) : u.trayClosedReport g = u := by
  cases g with
  | mixed => rfl
  | rule k => rfl
  | fine d =>
    obtain ⟨hcounted, rfl⟩ := hg
    obtain ⟨⟨n, l, hfine, hn⟩, -⟩ := h hcounted
    exact State.removeFineIfDone_stays (hc ▸ hfine) (by omega)
  | area a =>
    obtain ⟨hcounted, rfl⟩ := hg
    obtain ⟨⟨n, l, hfine, -⟩, -⟩ := h hcounted
    exact State.removeAreaIfDone_stays (hc ▸ hfine) _

/-- Finishing a record that ends no group lowers its count and does nothing else (R126, R127). -/
theorem State.withdraw_quietly (h : s.FallsQuietly r) : s.withdraw r = s.onCensus fun _ => s.censusLess r := by
  by_cases hc : r.census = .counted
  · obtain ⟨⟨n, l, hfine, hn⟩, harea⟩ := h hc
    have hfall : findFine (s.censusLess r) (s.profile.sort.finePrefix r.key) = some (n - 1, l) := by
      rw [State.censusLess_counted hc]
      exact findFine_onFine hfine
    have hareaSame (a : List Nat) : findArea (s.censusLess r) a = findArea s.census a := by
      rw [State.censusLess_counted hc]
      exact findArea_onFine
    have hcensus : s.onCensus (onFine (s.profile.sort.finePrefix r.key) (CensusEntry.onCount (· - 1)))
        = s.onCensus fun _ => s.censusLess r := by
      rw [State.censusLess_counted hc]
      rfl
    have hwithdraw : s.withdraw r = s.countFalls (s.profile.sort.finePrefix r.key) := by simp only [State.withdraw, hc]
    have hnoEnd : findFine (s.onCensus fun _ => s.censusLess r).census (s.profile.sort.finePrefix r.key)
        ≠ some (0, .fine) := by
      rw [State.onCensus_census, hfall]
      simp
      omega
    have hnoArea : (s.onCensus fun _ => s.censusLess r).areaTest
        (s.profile.sort.areaPrefix (s.profile.sort.finePrefix r.key))
        (s.eligible (s.profile.sort.areaPrefix (s.profile.sort.finePrefix r.key)))
          = s.onCensus fun _ => s.censusLess r := by
      refine if_neg fun hcond => harea ?_
      simp only [State.onCensus_census, hareaSame, Bool.and_eq_true, beq_iff_eq, decide_eq_true_eq] at hcond
      exact ⟨hcond.1.1, hcond.1.2, hcond.2⟩
    rw [hwithdraw, State.countFalls, hcensus, if_neg (by simpa using hnoEnd), hnoArea,
      State.removeFineIfDone_stays hfall (by omega)]
  · rw [State.withdraw_uncounted hc, State.censusLess, if_neg hc]
    rfl

/-- The census and the active profile say whether a record's fall is quiet, and what it leaves. -/
theorem State.FallsQuietly.congr {q : Piece} (h : s.FallsQuietly r) (hc : t.census = s.census)
    (hp : t.profile = s.profile) (hq : q.census = r.census ∧ q.key = r.key) :
    t.FallsQuietly q ∧ t.censusLess q = s.censusLess r := by
  obtain ⟨hcensus, hkey⟩ := hq
  have hless : t.censusLess q = s.censusLess r := by simp only [State.censusLess, hc, hp, hcensus, hkey]
  refine ⟨?_, hless⟩
  unfold State.FallsQuietly
  rw [hless, hc, hp, hcensus, hkey]
  exact h

end

/-! ### The tags and the reservations of a re-evaluation (R109, R152) -/

/-- Every reservation of `t` stands in `s` or is for one of the tags. -/
def State.ReservesFor (tags : List Nat) (s t : State) : Prop :=
  ∀ z ∈ t.bins.reservations, z ∈ s.bins.reservations ∨ z.tag ∈ tags

section
variable {s t u : State} {tags : List Nat}

theorem State.ReservesFor.of_eq (h : t.bins.reservations = s.bins.reservations) : s.ReservesFor tags t := by
  intro z hz
  exact .inl (h ▸ hz)

theorem State.ReservesFor.trans (h : s.ReservesFor tags t) (h' : t.ReservesFor tags u) : s.ReservesFor tags u := by
  intro z hz
  rcases h' z hz with hz | hz
  · exact h z hz
  · exact .inr hz

theorem BinManager.reservations_eq_of_promises {m n : BinManager} (h : m.promises = n.promises) :
    m.reservations = n.reservations := congrArg Prod.fst h

theorem State.reserve_reserves {b tag m : Nat} (h : tag ∈ tags) : s.ReservesFor tags (s.reserve b tag m) := by
  have hadd : s.ReservesFor tags ((s.onTray b fun t =>
      { t with reserved := t.reserved + 1, reservedMass := t.reservedMass + m }).onBins
        fun x => { x with reservations := x.reservations ++ [⟨tag, (s.bin b).tray.elim 0 Tray.id, m⟩] }) := by
    intro z hz
    rcases List.mem_append.1 hz with hz | hz
    · exact .inl hz
    · rw [List.mem_singleton.1 hz]
      exact .inr h
  unfold State.reserve
  dsimp only
  split
  · exact hadd.trans (.of_eq (BinManager.reservations_eq_of_promises (State.beginClosing_promises _ _ _)))
  · exact hadd

theorem State.openOrStall_reserves {g : TrayGroup} {tag m : Nat} (h : tag ∈ tags) :
    s.ReservesFor tags (s.openOrStall g tag m).1 := by
  unfold State.openOrStall
  split
  · refine State.ReservesFor.trans (.of_eq ?_) (State.reserve_reserves h)
    rw [State.openTray, BinManager.reservations_eq_of_promises (State.setBinState_promises _ _ _)]
    rfl
  · exact .of_eq rfl

theorem State.placeInTray_reserves {g : TrayGroup} {tag m : Nat} (h : tag ∈ tags) :
    s.ReservesFor tags (s.placeInTray g tag m).1 := by
  have hclose (b : Nat) (reason : CloseReason) :
      s.ReservesFor tags ((s.beginClosing b reason).openOrStall g tag m).1 :=
    .trans (.of_eq (BinManager.reservations_eq_of_promises (State.beginClosing_promises _ _ _)))
      (State.openOrStall_reserves h)
  unfold State.placeInTray
  split
  · exact State.openOrStall_reserves h
  · split
    · exact State.openOrStall_reserves h
    · split
      · split
        · exact State.reserve_reserves h
        · exact hclose _ _
      · exact hclose _ _

theorem State.levelAnswer_bins (r : Piece) : (s.levelAnswer r).1.bins = s.bins := by simp

theorem State.levelAsked_bins (e : TrackEntry) : (s.levelAsked e).bins = s.bins := by
  unfold State.levelAsked
  split
  · exact State.levelAnswer_bins _
  · rfl

/-- A gate decision reserves a place for its own entry alone. -/
theorem State.decideEntry_reserves {e : TrackEntry} (h : e.tag ∈ tags) : s.ReservesFor tags (s.decideEntry e).1 := by
  unfold State.decideEntry
  split
  · unfold State.gateDecision
    split
    · exact .of_eq rfl
    · exact .trans (.of_eq (by rw [State.levelAnswer_bins])) (State.placeInTray_reserves h)
  · exact .of_eq rfl

/-- What a step at the gate keeps: the tags of the queue; and it reserves for entries of the queue alone. -/
def State.GateKeeps (s t : State) : Prop :=
  t.track.entries.map TrackEntry.tag = s.track.entries.map TrackEntry.tag
    ∧ s.ReservesFor (s.track.entries.map TrackEntry.tag) t

theorem State.GateKeeps.trans (h : s.GateKeeps t) (h' : t.GateKeeps u) : s.GateKeeps u := by
  obtain ⟨htags, hres⟩ := h
  obtain ⟨htags', hres'⟩ := h'
  exact ⟨htags'.trans htags, hres.trans (htags ▸ hres')⟩

theorem State.GateKeeps.of_eq (ht : t.track.entries.map TrackEntry.tag = s.track.entries.map TrackEntry.tag)
    (hr : t.bins.reservations = s.bins.reservations) : s.GateKeeps t := ⟨ht, .of_eq hr⟩

theorem State.onEntry_tags {tag : Nat} {f : TrackEntry → TrackEntry} (hf : ∀ e, (f e).tag = e.tag) :
    (s.onEntry tag f).track.entries.map TrackEntry.tag = s.track.entries.map TrackEntry.tag := by
  simp only [State.onEntry, State.onTrack_track, List.map_map]
  refine List.map_congr_left fun e _ => ?_
  rw [Function.comp_apply]
  split
  · exact hf e
  · rfl

theorem State.entry?_mem {tag : Nat} {e : TrackEntry} (h : s.entry? tag = some e) :
    e.tag = tag ∧ e.tag ∈ s.track.entries.map TrackEntry.tag :=
  ⟨by simpa using List.find?_some h, List.mem_map_of_mem (List.mem_of_find?_eq_some h)⟩

theorem State.decideEntry_gateKeeps {tag : Nat} {e : TrackEntry} (h : s.entry? tag = some e) :
    s.GateKeeps (s.decideEntry e).1 :=
  ⟨by simp, State.decideEntry_reserves (State.entry?_mem h).2⟩

theorem State.handOn_gateKeeps (ts : List Nat) : s.GateKeeps (s.handOn ts) := by
  induction ts generalizing s with
  | nil => exact .of_eq rfl rfl
  | cons tag ts ih =>
    unfold State.handOn
    split
    · exact .of_eq rfl rfl
    · next e he =>
      split
      · have hdecide := State.decideEntry_gateKeeps he
        dsimp only
        split
        · refine (hdecide.trans (.of_eq ?_ ?_)).trans ih
          · rw [(State.notify_fields _ _ _).2.2.2.2.1]
            exact State.onEntry_tags fun _ => rfl
          · rw [(State.notify_fields _ _ _).2.2.2.2.2.2.1]
            rfl
        · refine hdecide.trans (.of_eq ?_ ?_)
          · unfold State.recordStall
            rw [(State.notifyBoth_fields _ _).2.2.2.2.1]
            exact State.onEntry_tags fun _ => rfl
          · unfold State.recordStall
            rw [(State.notifyBoth_fields _ _).2.2.2.2.2.2.1]
            rfl
      · exact .of_eq rfl rfl

theorem State.reevaluate_gateKeeps : s.GateKeeps (s.reevaluate true).1 := by
  unfold State.reevaluate
  split
  · exact .of_eq rfl rfl
  · split
    · exact .of_eq rfl rfl
    · next x e he =>
      have hdecide := State.decideEntry_gateKeeps he
      dsimp only
      split
      · exact .of_eq (by simp) (by rw [State.levelAsked_bins])
      · refine (hdecide.trans (.of_eq ?_ ?_)).trans (State.handOn_gateKeeps _)
        · rw [if_pos rfl, (State.notify_fields _ _ _).2.2.2.2.1]
          exact State.onEntry_tags fun _ => rfl
        · rw [if_pos rfl, (State.notify_fields _ _ _).2.2.2.2.2.2.1]
          rfl

theorem State.afterEvent_gateKeeps (before : State) : s.GateKeeps (s.afterEvent before) := by
  unfold State.afterEvent
  split
  · exact State.reevaluate_gateKeeps
  · exact .of_eq rfl rfl

end

end Sys2Proof.Machine
end

section
/-! EXITED: the exit of the queue head (R110, R111, R153, R154). -/

namespace Sys2Proof.Machine

/-! ### The entry leaves the queue (R111) -/

/-- The entry has left the queue, and a TRACK_FULL hold has been tested (R48, R111). -/
def State.leave (tag : Nat) (s : State) : State := (s.removeEntry tag).testTrackHold

/-- The release hold once an entry has left the queue, and the notice of its end (R48). -/
def State.holdLeft (s : State) : ReleaseHold :=
  if s.checker.releaseHold = .trackFull then .free else s.checker.releaseHold
def State.holdLeftNotices (s : State) : List Notice :=
  if s.checker.releaseHold = .trackFull then [.holdCleared] else []

section
variable {s v : State} {e : TrackEntry} {es : List TrackEntry}

theorem State.removeEntry_entries (h : s.track.entries = e :: es) (hn : (s.track.entries.map TrackEntry.tag).Nodup) :
    (s.removeEntry e.tag).track.entries = es := by
  rw [h, List.map_cons, List.nodup_cons, List.mem_map] at hn
  have hrest : es.filter (fun x => x.tag != e.tag) = es := List.filter_eq_self.2 fun x hx => by
    simpa using fun hxe => hn.1 ⟨x, hx, hxe⟩
  simp [State.removeEntry, h, hrest]

theorem State.leave_values (h : s.track.entries = e :: es) (hn : (s.track.entries.map TrackEntry.tag).Nodup)
    (hl : s.track.entries.length ≤ 32) :
    (s.leave e.tag).track.entries = es ∧ (s.leave e.tag).checker = { s.checker with releaseHold := s.holdLeft }
      ∧ (s.leave e.tag).run = s.run ∧ (s.leave e.tag).bins = s.bins ∧ (s.leave e.tag).census = s.census
      ∧ Effects s.holdLeftNotices [] 0 [.entries, .releaseHold] s (s.leave e.tag) := by
  have hentries := State.removeEntry_entries h hn
  have hremove : Effects [] [] 0 [.entries, .releaseHold] s (s.removeEntry e.tag) := by
    refine Effects.of_changesOnly (fun c hc => ?_) (by simp) (by simp)
    cases c <;> first | rfl | simp at hc
  have hshort : es.length < 32 := by
    rw [h, List.length_cons] at hl
    omega
  unfold State.leave State.testTrackHold State.holdLeft State.holdLeftNotices
  by_cases hfull : s.checker.releaseHold = .trackFull
  · rw [if_pos (by rw [hentries]; simp [hshort, State.removeEntry, hfull])]
    simp only [hfull, if_true]
    refine ⟨by simpa [State.clearHold] using hentries, by simp [State.clearHold, State.removeEntry],
      by simp [State.clearHold], by simp [State.clearHold, State.removeEntry], by simp [State.clearHold], ?_⟩
    exact hremove.after (State.clearHold_effects.mono (by simp))
  · rw [if_neg (by simp [State.removeEntry, hfull])]
    simp only [hfull, if_false]
    exact ⟨hentries, rfl, rfl, rfl, rfl, hremove⟩

theorem State.closeAllTrays_promises (s : State) : s.closeAllTrays.bins.promises = s.bins.promises :=
  foldl_keeps _ (fun s => s.bins.promises) (by simp) binNumbers s

theorem State.drainTest_promises (s : State) : s.drainTest.bins.promises = s.bins.promises := by
  unfold State.drainTest
  split
  · simp [State.closeNow, State.closeAllTrays_promises]
  · rfl

/-- Whether the exit of the queue head closes a draining run: nothing else is on the line (R4). -/
def State.ClosesWithout (s : State) (es : List TrackEntry) : Prop :=
  s.run.runState = .draining ∧ s.checker.forming = none ∧ s.checker.ready = none ∧ es = []

/-- The state after an exit that has left `v`: the entry leaves, a draining run may close, and a freed bin is offered to
a stalled entry (R4, R111, R152). -/
def State.afterExit (v : State) (tag : Nat) (s : State) : State := (v.leave tag).drainTest.afterEvent s

theorem State.afterExit_values (hstate : v.run.runState = s.run.runState) (htrack : v.track = s.track)
    (hchecker : v.checker = s.checker) (h : s.track.entries = e :: es)
    (hn : (s.track.entries.map TrackEntry.tag).Nodup) (hl : s.track.entries.length ≤ 32) :
    (v.afterExit e.tag s).run.pieces = v.run.pieces ∧ (v.afterExit e.tag s).run.outcomes = v.run.outcomes
      ∧ (v.afterExit e.tag s).checker.releaseHold = s.holdLeft
      ∧ (v.afterExit e.tag s).track.entries.map TrackEntry.tag = es.map TrackEntry.tag
      ∧ v.ReservesFor (es.map TrackEntry.tag) (v.afterExit e.tag s)
      ∧ (s.ClosesWithout es → (v.afterExit e.tag s).ClosedLast)
      ∧ (¬ s.ClosesWithout es → v.afterExit e.tag s = (v.leave e.tag).afterEvent s) := by
  obtain ⟨hentries, hleft, hrun, hbins, -, -⟩ := State.leave_values (s := v) (e := e) (es := es) (by rw [htrack]; exact h)
    (by rw [htrack]; exact hn) (by rw [htrack]; exact hl)
  have hhold : v.holdLeft = s.holdLeft := by simp only [State.holdLeft, hchecker]
  obtain ⟨hpieces, houtcomes⟩ := (v.leave e.tag).drainTest_run
  have hdrainTrack : (v.leave e.tag).drainTest.track = (v.leave e.tag).track := by simp
  have hdrainRes : (v.leave e.tag).drainTest.bins.reservations = v.bins.reservations :=
    (BinManager.reservations_eq_of_promises (State.drainTest_promises _)).trans (by rw [hbins])
  obtain ⟨htags, hres⟩ := (v.leave e.tag).drainTest.afterEvent_gateKeeps s
  have hline : (v.leave e.tag).run.runState = .draining ∧ (v.leave e.tag).lineEmpty = true ↔ s.ClosesWithout es := by
    rw [State.lineEmpty_iff, State.ClosesWithout, hleft, hrun, hentries, hstate, hchecker]
  rw [hdrainTrack, hentries] at htags hres
  refine ⟨by simpa [State.afterExit, hrun] using hpieces, by simpa [State.afterExit, hrun] using houtcomes,
    by simp [State.afterExit, hleft, hhold], htags, .trans (.of_eq hdrainRes) hres, fun hc => ?_, fun hc => ?_⟩
  · obtain ⟨hdraining, hempty⟩ := hline.2 hc
    have hnone : (v.leave e.tag).closeNow.track.entries = [] := by simp [hentries, hc.2.2.2]
    have hclose : v.afterExit e.tag s = (v.leave e.tag).closeNow := by
      rw [State.afterExit, State.drainTest_closes hdraining hempty, State.afterEvent_of_no_entries _ _ hnone]
    rw [hclose]
    exact State.closeNow_closedLast _
  · rw [State.afterExit, State.drainTest_stays (mt hline.1 hc)]

end

/-! ### What an exit does to trays and records (R153, R154) -/

/-- The blocks an exit changes, before its entry leaves the queue. -/
def exitBlocks : List Block := .pieces :: .outcomes :: gateBlocks

theorem State.exitIntoBin_changes (tag b : Nat) (r : Piece) (s : State) :
    ChangesOnly exitBlocks s (s.exitIntoBin tag b r) := by
  unfold State.exitIntoBin
  cases s.reservation? tag with
  | none => exact State.finish_changes _
  | some x =>
    have hcount : ChangesOnly exitBlocks s ((s.onReservedTray b x (Tray.countPiece r x.mass)).dropReservation tag) := by
      intro c hc
      cases c <;> first | rfl | simp [exitBlocks, gateBlocks] at hc
    exact ((hcount.trans ((State.onPiece_changes _ _ _).mono (by decide))).trans (State.finish_changes _)).trans
      ((State.closeIfEmptied_changes _ _).mono (by decide))

theorem State.exitDiverted_changes (tag : Nat) (id : PieceId) (d : GateDecision) (s : State) :
    ChangesOnly exitBlocks s (s.exitDiverted tag id d) := by
  cases d with
  | divert => exact State.finish_changes _
  | bin b =>
    have hjam : ChangesOnly exitBlocks s (s.addCause id .gateJam) := (State.addCause_effects _).frame.mono (by decide)
    exact (hjam.trans ((State.releaseReservation_changes _ _ _).mono (by decide))).trans (State.finish_changes _)

theorem State.applyExit_changes (e : TrackEntry) (d reported : GateDecision) (s : State) :
    ChangesOnly exitBlocks s (s.applyExit e d reported) := by
  unfold State.applyExit
  split
  · exact State.exitIntoBin_changes _ _ _ _
  · exact State.exitDiverted_changes _ _ _ _
  · exact ChangesOnly.refl _ _

section
variable {e : TrackEntry} {r : Piece} {s : State}

theorem State.applyExit_bin {b : Nat} {d : GateDecision} (hr : s.piece? e.piece = some r) :
    s.applyExit e d (.bin b) = s.exitIntoBin e.tag b r := by simp only [State.applyExit, hr]

theorem State.applyExit_divert (hr : s.piece? e.piece = some r) :
    s.applyExit e .divert .divert = s.finish e.piece .diverted := by simp only [State.applyExit, hr, State.exitDiverted]

theorem State.applyExit_jam {b : Nat} (hr : s.piece? e.piece = some r) : s.applyExit e (.bin b) .divert
    = ((s.addCause e.piece .gateJam).releaseReservation e.tag b).finish e.piece .diverted := by
  simp only [State.applyExit, hr, State.exitDiverted]

end

/-- The values EXITED answers for a finished record (R111). -/
def Piece.exitValues (r : Piece) : List Value :=
  byteV (r.disposition.elim 0 Disposition.code) ::
    if r.disposition == some .binned then [wordV (r.tray.elim 0 Prod.fst)] else []

theorem State.exitAnswer_eq {s : State} {id : PieceId} {r : Piece} (h : s.piece? id = some r) :
    s.exitAnswer id = r.exitValues := by
  simp only [State.exitAnswer, h]
  rfl

theorem Piece.exitValues_diverted (r : Piece) :
    (r.finish .diverted).exitValues = [byteV (if r.cancelPending then 3 else 2)] := by
  unfold Piece.exitValues Piece.finish
  cases r.cancelPending <;> rfl

theorem Piece.exitValues_binned (r : Piece) (id b : Nat) :
    (Piece.finish .binned { r with tray := some (id, b) }).exitValues
      = if r.cancelPending then [byteV 3] else [byteV 1, wordV id] := by
  unfold Piece.exitValues Piece.finish
  cases r.cancelPending <;> rfl

/-! ### The request -/

theorem byteAt_tag {tag : Nat} (h : tag ≤ 63) (rest : List Byte) : byteAt (toBytes 1 tag ++ rest) 0 = tag := by
  simp only [byteAt, toBytes, List.cons_append, List.getD_cons_zero, BitVec.toNat_ofNat]
  omega

theorem exitOutcomeOf_bin {tag b : Nat} (hb : b ∈ binNumbers) :
    exitOutcomeOf (toBytes 1 tag ++ [1] ++ toBytes 1 b) = some (.bin b) := by
  rw [mem_binNumbers] at hb
  have hbin : byteAt (toBytes 1 tag ++ [1] ++ toBytes 1 b) 2 = b := by
    simp [byteAt, toBytes]
    omega
  have hone : byteAt (toBytes 1 tag ++ [1] ++ toBytes 1 b) 1 = 1 := rfl
  unfold exitOutcomeOf
  rw [hone, hbin]
  exact if_pos hb

/-- EXITED names the gated queue head, whose decision the report agrees with, and its piece is on the track (R110). -/
structure Exits (pl : List Byte) (d reported : GateDecision) (e : TrackEntry) (es : List TrackEntry) (r : Piece)
    (s : State) : Prop where
  due : Due .exited .track pl s
  length : pl.length = 3
  outcome : exitOutcomeOf pl = some reported
  tag : byteAt pl 0 = e.tag
  tag_le : e.tag ≤ 63
  head : s.track.entries = e :: es
  bounded : TrackBounded s
  stage : e.stage = .gated
  decision : e.decision = some d
  agrees : exitAgrees reported d = true
  record : s.piece? e.piece = some r
  live : r.state = .onTrack

/-- The queue, the hold and the run after an exit (R4, R48, R111). -/
structure Left (s : State) (e : TrackEntry) (es : List TrackEntry) (t : State) : Prop where
  outcomes : t.run.outcomes = s.run.outcomes ++ [e.piece]
  hold : t.checker.releaseHold = s.holdLeft
  closes : s.ClosesWithout es → t.ClosedLast
  stays : ¬ s.ClosesWithout es → t.run.runState = s.run.runState
  frame : ChangesOnly (requestBlocks .track ++ (.runState :: .releaseHold :: exitBlocks) ++ [.pins]) s t
  tags : t.track.entries.map TrackEntry.tag = es.map TrackEntry.tag

/-- The record of a piece that alone has been changed. -/
theorem State.piece?_of_pieces {s t : State} {id : PieceId} {g : Piece → Piece} (hg : ∀ x, (g x).id = x.id)
    (h : t.run.pieces = s.run.pieces.map fun x => if x.id = id then g x else x) :
    t.piece? id = (s.piece? id).map g := by
  have hsame : t.piece? id = (s.onPiece id g).piece? id := by
    simp only [State.piece?, RunTable.piece?, h, State.onPiece_pieces]
  rw [hsame, State.piece?_onPiece hg]

section
variable {pl : List Byte} {d reported : GateDecision} {e : TrackEntry} {es : List TrackEntry} {r : Piece} {s : State}

theorem exitedBody_taken (h : Exits pl d reported e es r s) :
    exitedBody pl (s.dropFrame .track)
      = (((s.dropFrame .track).applyExit e d reported).afterExit e.tag (s.dropFrame .track),
          done ((((s.dropFrame .track).applyExit e d reported).leave e.tag).drainTest.exitAnswer e.piece)) := by
  have hhead : (s.dropFrame .track).track.entries.head? = some e := congrArg List.head? h.head
  have htag : ¬ 63 < byteAt pl 0 := by rw [h.tag]; exact Nat.not_lt.2 h.tag_le
  unfold exitedBody
  simp only [h.outcome, hhead, h.decision, h.agrees, if_neg htag]
  rw [if_neg (by simp [h.tag, h.stage])]
  rfl

/-- A taken EXITED, from what it does to the trays and the records. -/
theorem Exits.exec_eq (h : Exits pl d reported e es r s) {v : State} {g : Piece → Piece}
    (hv : (s.dropFrame .track).applyExit e d reported = v) (hg : ∀ x, (g x).id = x.id)
    (hrun : v.run = { s.run with
      pieces := s.run.pieces.map fun x => if x.id = e.piece then g x else x
      outcomes := s.run.outcomes ++ [e.piece] }) :
    ∃ t, exec (.exited .track) s = .next t ∧ Left s e es t ∧ Answered .track .exited .done (g r).exitValues s t
      ∧ t.run.pieces = s.run.pieces.map (fun x => if x.id = e.piece then g x else x)
      ∧ v.ReservesFor (es.map TrackEntry.tag) t
      ∧ ∀ track plan fl bs, ¬ s.ClosesWithout es → Effects track plan fl bs (s.dropFrame .track) v →
          (v.bins.stall = none ∨ ∀ j ∈ binNumbers, (v.bin j).state = .free → (s.bin j).state = .free) →
          (.intake .track ∉ bs ∧ .responses .track ∉ bs) →
          t.bins = v.bins ∧ t.census = v.census ∧ t.track.entries = es
            ∧ Happened (track ++ s.holdLeftNotices) plan fl
                (requestBlocks .track ++ ([.entries, .releaseHold] ++ bs)) s t := by
  obtain ⟨hlen, htags, -⟩ := h.bounded
  have htrack : v.track = s.track := by simp [← hv]
  have hchecker : v.checker = s.checker := by simp [← hv]
  have hstate : v.run.runState = s.run.runState := by rw [hrun]
  obtain ⟨hpieces, houtcomes, hhold, hrest, hreserves, hcloses, hstays⟩ := State.afterExit_values
    (s := s.dropFrame .track) hstate htrack hchecker h.head htags hlen
  obtain ⟨hentries, -, hleaveRun, hleaveBins, hleaveCensus, hleave⟩ := State.leave_values (s := v)
    (by rw [htrack]; exact h.head) (by rw [htrack]; exact htags) (by rw [htrack]; exact hlen)
  have hlength : RequestKind.exited.lengthAllowed pl.length = true := by simp [RequestKind.lengthAllowed, h.length]
  have hafter : ChangesOnly (.runState :: .releaseHold :: exitBlocks) v (v.afterExit e.tag (s.dropFrame .track)) :=
    ((hleave.frame.mono (by decide)).trans (State.drainTest_changes.mono (by decide))).trans
      ((State.afterEvent_changes _ _).mono (by decide))
  have hb := exitedBody_taken h
  have hfound : (v.leave e.tag).drainTest.piece? e.piece = some (g r) := by
    rw [State.piece?_of_pieces (s := s.dropFrame .track) hg
      ((State.drainTest_run.1.trans (by rw [hleaveRun])).trans (by rw [hrun]; rfl))]
    exact congrArg (Option.map g) h.record
  rw [hv, State.exitAnswer_eq hfound] at hb
  obtain ⟨hexec, hans, hchanges⟩ := exec_due_changes (k := .exited) (bs := .runState :: .releaseHold :: exitBlocks)
    h.due rfl hlength hb (by decide)
    (((hv ▸ State.applyExit_changes _ _ _ _ : ChangesOnly exitBlocks _ v).mono (by decide)).trans hafter)
  refine ⟨_, hexec, ⟨houtcomes.trans (by rw [hrun]), hhold, fun hc => (hcloses hc).answerFrame _ _ _, fun hc => ?_,
    hchanges, hrest⟩, hans, hpieces.trans (by rw [hrun]), hreserves, fun track plan fl bs hc heff hquiet hbs => ?_⟩
  · rw [hstays hc]
    simp [hleaveRun, hstate]
  · have hnone : (v.leave e.tag).afterEvent (s.dropFrame .track) = v.leave e.tag := by
      rcases hquiet with hstall | hbins
      · exact State.afterEvent_of_no_stall (by rw [hleaveBins]; exact hstall)
      · exact State.afterEvent_of_none_freed fun j hj => by rw [State.bin_congr _ hleaveBins]; exact hbins j hj
    have hend : v.afterExit e.tag (s.dropFrame .track) = v.leave e.tag := (hstays hc).trans hnone
    have hall : Effects (track ++ s.holdLeftNotices) plan fl ([.entries, .releaseHold] ++ bs) (s.dropFrame .track)
        (v.leave e.tag) := by
      refine ((heff.mono fun b hb => List.mem_append_right _ hb).trans
        (hleave.mono fun b hb => List.mem_append_left _ hb)).congr ?_ (by simp) (by simp)
      simp only [State.holdLeftNotices, hchecker]
    rw [hend] at hb ⊢
    obtain ⟨-, -, hhap⟩ := exec_due_effects (k := .exited) h.due rfl hlength hb hall
      ⟨by simpa using hbs.1, by simpa using hbs.2⟩
    exact ⟨hleaveBins, hleaveCensus, hentries, hhap⟩

end

/-! ### The reservation of the exit (R153, R154) -/

@[simp] theorem Piece.addCause_key (c : Cause) (r : Piece) : (r.addCause c).key = r.key := by
  unfold Piece.addCause; split <;> rfl

section
variable {s u : State} {tag b : Nat} {x : Reservation} {y : Tray} {r : Piece} {id : PieceId} {d : Disposition}

theorem State.filter_reservations_of_none (h : s.reservation? tag = none) :
    s.bins.reservations.filter (fun z => z.tag != tag) = s.bins.reservations :=
  List.filter_eq_self.2 fun z hz => by simpa [State.reservation?] using List.find?_eq_none.1 h z hz

/-- The promised place and mass given up, and the reservation record removed (R154). -/
def State.giveUp (tag b : Nat) (x : Reservation) (s : State) : State :=
  (s.onReservedTray b x fun t =>
    { t with reserved := t.reserved - 1, reservedMass := t.reservedMass - x.mass }).dropReservation tag

theorem State.releaseReservation_eq (h : s.reservation? tag = some x) :
    s.releaseReservation tag b = (s.giveUp tag b x).closeIfEmptied b := by
  simp only [State.releaseReservation, h]
  rfl

theorem State.releaseReservation_reservations :
    (s.releaseReservation tag b).bins.reservations = s.bins.reservations.filter fun z => z.tag != tag := by
  cases h : s.reservation? tag with
  | none =>
    rw [State.filter_reservations_of_none h]
    simp only [State.releaseReservation, h]
  | some x =>
    rw [State.releaseReservation_eq h, BinManager.reservations_eq_of_promises (State.closeIfEmptied_promises _ _)]
    rfl

theorem State.giveUp_values (hb : b ∈ binNumbers) (hy : (s.bin b).tray = some y) (hid : y.id = x.trayId) :
    (s.giveUp tag b x).bin b = ⟨(s.bin b).state,
        some { y with reserved := y.reserved - 1, reservedMass := y.reservedMass - x.mass }⟩
      ∧ (∀ j ∈ binNumbers, j ≠ b → (s.giveUp tag b x).bin j = s.bin j)
      ∧ Effects [] [] 0 [.bins, .reservations] s (s.giveUp tag b x) := by
  refine ⟨?_, fun j hj hne => State.onTray_bin_ne _ _ hb hj hne, Effects.of_changesOnly (fun c hc => ?_) (by simp)
    (by simp)⟩
  · refine (State.onTray_bin _ _).trans ?_
    rw [hy]
    simp [hid]
  · cases c <;> first | rfl | simp at hc

theorem State.finish_promises : (s.finish id d).bins.promises = s.bins.promises := by
  unfold State.finish
  (repeat' split) <;> simp

/-- What finishing a record does to the run table, once the record has been changed. -/
theorem State.finish_run_of_onPiece {f : Piece → Piece} (hid : ∀ x, (f x).id = x.id)
    (hstate : ∀ x, (f x).state = x.state) (h : s.piece? id = some r) (hr : r.state ≠ .finished)
    (hu : u.run = (s.onPiece id f).run) : (u.finish id d).run = { s.run with
      pieces := s.run.pieces.map fun x => if x.id = id then (f x).finish d else x
      outcomes := s.run.outcomes ++ [id] } := by
  have hfound : u.piece? id = some (f r) := by
    have hsame : u.piece? id = (s.onPiece id f).piece? id := by simp only [State.piece?, hu]
    rw [hsame, State.piece?_onPiece hid, h, Option.map_some]
  rw [State.finish_run d hfound (by rw [hstate]; exact hr), hu, State.onPiece_pieces]
  simp only [List.map_map, RunTable.mk.injEq, true_and, and_true]
  refine List.map_congr_left fun x _ => ?_
  by_cases hx : x.id = id <;> simp [hx, hid]

/-- The piece of an exit into a bin: it takes the tray and bin of its reservation and finishes BINNED (R153). -/
theorem State.exitIntoBin_values (hx : s.reservation? tag = some x) (hr : s.piece? r.id = some r)
    (hstate : r.state = .onTrack) :
    (s.exitIntoBin tag b r).run = { s.run with
        pieces := s.run.pieces.map fun y =>
          if y.id = r.id then Piece.finish .binned { y with tray := some (x.trayId, b) } else y
        outcomes := s.run.outcomes ++ [r.id] }
      ∧ (s.exitIntoBin tag b r).bins.reservations = s.bins.reservations.filter fun z => z.tag != tag := by
  have heq : s.exitIntoBin tag b r
      = (((((s.onReservedTray b x (Tray.countPiece r x.mass)).dropReservation tag).onPiece r.id fun y =>
          { y with tray := some (x.trayId, b) }).finish r.id .binned).closeIfEmptied b) := by
    simp only [State.exitIntoBin, hx]
  rw [heq]
  constructor
  · rw [(State.closeIfEmptied_frame _ _).1]
    exact State.finish_run_of_onPiece (s := s) (fun _ => rfl) (fun _ => rfl) hr (by simp [hstate]) rfl
  · rw [BinManager.reservations_eq_of_promises ((State.closeIfEmptied_promises _ _).trans State.finish_promises)]
    rfl


/-- Finishing a record that ends no group (R19, R126). -/
theorem State.finish_quietly (h : s.piece? id = some r) (hr : r.state ≠ .finished) (hq : s.FallsQuietly r) :
    (s.finish id d).census = s.censusLess r ∧ (s.finish id d).bins = s.bins
      ∧ Effects [] s.outcomesNotice 0 [.pieces, .outcomes, .census] s (s.finish id d) := by
  have hrecord : Effects [] s.outcomesNotice 0 [.pieces, .outcomes] s (s.finishRecord id d) :=
    State.finishRecord_effects
  have hbins : (s.finishRecord id d).bins = s.bins := by
    unfold State.finishRecord
    dsimp only
    split <;> simp
  obtain ⟨hquiet, hless⟩ := hq.congr (t := s.finishRecord id d) (q := r) (hrecord.frame .census (by simp))
    (hrecord.frame .active (by simp)) ⟨rfl, rfl⟩
  rw [State.finish_eq h hr, State.withdraw_quietly hquiet, hless]
  refine ⟨rfl, hbins, (hrecord.mono (by decide)).before (Effects.of_changesOnly (fun c hc => ?_) (by simp) (by simp))⟩
  cases c <;> first | rfl | simp at hc

end

theorem Happened.restrict {s t : State} {tr pl : List Notice} {fl : FlagSet} {bs cs : List Block}
    (h : Happened tr pl fl bs s t) (hc : ∀ b ∈ bs, b ∉ cs → b.same s t) : Happened tr pl fl cs s t where
  toTrack := h.toTrack
  toPlan := h.toPlan
  flags := h.flags
  outputs := h.outputs
  frame := fun b hb => by
    simp only [List.mem_append, not_or] at hb
    by_cases hbs : b ∈ bs
    · exact hc b hbs hb.2
    · exact h.frame b (by simpa only [List.mem_append, not_or] using ⟨hb.1, hbs⟩)

/-! ### An exit reported DIVERTED after BIN(b) that ends no group (R154) -/

/-- The reservation given up by such an exit, and what that leaves once an emptied CLOSING tray has become CLOSED. -/
def State.jamGivenUp (e : TrackEntry) (b : Nat) (x : Reservation) (s : State) : State :=
  ((s.dropFrame .track).addCause e.piece .gateJam).giveUp e.tag b x
def State.jamReleased (e : TrackEntry) (b : Nat) (s : State) : State :=
  ((s.dropFrame .track).addCause e.piece .gateJam).releaseReservation e.tag b

/-- What such an exit leaves: bin `b` is `x'`, and beside the notices and the flag of its tray it sends HOLD_CLEARED and
OUTCOMES. -/
def State.JamLeaves (s : State) (b : Nat) (e : TrackEntry) (es : List TrackEntry) (r : Piece) (x' : Bin)
    (track plan : List Notice) (fl : FlagSet) (bs : List Block) (t : State) : Prop :=
  exec (.exited .track) s = .next t ∧ t.bin b = x' ∧ (∀ j ∈ binNumbers, j ≠ b → t.bin j = s.bin j)
    ∧ t.bins.reservations = s.bins.reservations.filter (fun z => z.tag != e.tag) ∧ t.track.entries = es
    ∧ t.census = s.censusLess r
    ∧ Happened (track ++ s.holdLeftNotices) (plan ++ s.outcomesNotice) fl (requestBlocks .track ++ [.entries, .pieces,
        .outcomes, .census, .bins, .reservations, .releaseHold] ++ bs) s t

section
variable {pl : List Byte} {b : Nat} {e : TrackEntry} {es : List TrackEntry} {r : Piece} {s : State} {x : Reservation}
  {y : Tray}

theorem State.jamReleased_eq (hx : s.reservation? e.tag = some x) :
    s.jamReleased e b = (s.jamGivenUp e b x).closeIfEmptied b := State.releaseReservation_eq hx

theorem State.jamGivenUp_values (hb : b ∈ binNumbers) (hy : (s.bin b).tray = some y) (hid : y.id = x.trayId) :
    (s.jamGivenUp e b x).bin b = ⟨(s.bin b).state,
        some { y with reserved := y.reserved - 1, reservedMass := y.reservedMass - x.mass }⟩
      ∧ (∀ j ∈ binNumbers, j ≠ b → (s.jamGivenUp e b x).bin j = s.bin j)
      ∧ Effects [] [] 0 [.pieces, .bins, .reservations, .closedTrays, .delivery] (s.dropFrame .track)
          (s.jamGivenUp e b x) := by
  obtain ⟨hbin, hother, heff⟩ := State.giveUp_values (s := (s.dropFrame .track).addCause e.piece .gateJam)
    (tag := e.tag) (x := x) hb hy hid
  exact ⟨hbin, hother, ((State.addCause_effects .gateJam).mono (by decide)).after (heff.mono (by decide))⟩

/-- From what the release of the reservation does to the tray: the record finishes and the entry leaves. -/
theorem Exits.jam_quietly (h : Exits pl (.bin b) .divert e es r s) (hopen : ¬ s.ClosesWithout es)
    (hq : s.FallsQuietly r) {x' : Bin} {track plan : List Notice} {fl : FlagSet} {bs : List Block}
    (hbin : (s.jamReleased e b).bin b = x')
    (hother : ∀ j ∈ binNumbers, j ≠ b → (s.jamReleased e b).bin j = s.bin j)
    (heff : Effects track plan fl [.pieces, .bins, .reservations, .closedTrays, .delivery] (s.dropFrame .track)
      (s.jamReleased e b))
    (hfree : s.bins.stall = none ∨ x'.state = (s.bin b).state)
    (hbs : ∀ c ∈ [Block.closedTrays, .delivery], c ∉ bs → c.same s (s.jamReleased e b)) :
    ∃ t, s.JamLeaves b e es r x' track plan fl bs t ∧ t.bins = (s.jamReleased e b).bins := by
  have hne : r.state ≠ .finished := by simp [h.live]
  have hrun : (s.jamReleased e b).run = ((s.dropFrame .track).addCause e.piece .gateJam).run := by
    simp [State.jamReleased]
  have hfound : (s.jamReleased e b).piece? e.piece = some (r.addCause .gateJam) := by
    have hsame : (s.jamReleased e b).piece? e.piece
        = ((s.dropFrame .track).addCause e.piece .gateJam).piece? e.piece := by
      simp only [State.piece?, hrun]
    rw [hsame, State.piece?_addCause]
    exact congrArg (Option.map _) h.record
  obtain ⟨hquiet, hless⟩ := hq.congr (t := s.jamReleased e b) (q := r.addCause .gateJam)
    (heff.frame .census (by decide)) (heff.frame .active (by decide)) ⟨by simp, by simp⟩
  obtain ⟨hcensus, hbins, hfinish⟩ := State.finish_quietly (d := .diverted) hfound (by simpa using hne) hquiet
  have hnotice : (s.jamReleased e b).outcomesNotice = s.outcomesNotice := by
    simp [State.outcomesNotice, hrun, State.addCause, State.onPiece_pieces]
  have hall : Effects track (plan ++ s.outcomesNotice) fl
      [.pieces, .outcomes, .census, .bins, .reservations, .closedTrays, .delivery] (s.dropFrame .track)
      ((s.jamReleased e b).finish e.piece .diverted) :=
    ((heff.mono (by decide)).trans (hfinish.mono (by decide))).congr (by simp) (by rw [hnotice]) (by simp)
  have hfreed : ((s.jamReleased e b).finish e.piece .diverted).bins.stall = none ∨ ∀ j ∈ binNumbers,
      (((s.jamReleased e b).finish e.piece .diverted).bin j).state = .free → (s.bin j).state = .free := by
    refine hfree.imp (fun hs => ?_) fun hstate j hj hf => ?_
    · rw [hbins]
      exact (heff.frame .stall (by decide)).trans hs
    · rw [State.bin_congr _ hbins] at hf
      by_cases hjb : j = b
      · rw [hjb] at hf ⊢
        rw [← hstate, ← hbin]
        exact hf
      · rwa [← hother j hj hjb]
  obtain ⟨t, hexec, -, -, -, -, hrest⟩ := h.exec_eq (v := (s.jamReleased e b).finish e.piece .diverted)
    (g := fun y => (y.addCause .gateJam).finish .diverted) (State.applyExit_jam (s := s.dropFrame .track) h.record)
    (by simp) (State.finish_run_of_onPiece (s := s.dropFrame .track) (Piece.addCause_id _) (Piece.addCause_state _)
      h.record hne hrun)
  obtain ⟨htBins, htCensus, htEntries, hhap⟩ := hrest _ _ _ _ hopen hall hfreed (by decide)
  have hsame : t.bins = (s.jamReleased e b).bins := htBins.trans hbins
  have hreleased : (s.jamReleased e b).bins.reservations = s.bins.reservations.filter fun z => z.tag != e.tag :=
    State.releaseReservation_reservations
  refine ⟨t, ⟨hexec, (State.bin_congr _ hsame).trans hbin, fun j hj hne => ?_, by rw [hsame, hreleased], htEntries,
    by rw [htCensus, hcensus, hless], hhap.restrict fun c hc hnot => ?_⟩, hsame⟩
  · exact (State.bin_congr _ hsame).trans (hother j hj hne)
  · rw [List.mem_append, not_or] at hnot
    obtain ⟨hmain, hcbs⟩ := hnot
    have hblock : c = .closedTrays ∨ c = .delivery := by
      clear hbs hcbs
      revert c
      decide
    rcases hblock with rfl | rfl
    · exact (congrArg BinManager.closedTrays hsame).trans (hbs .closedTrays (by decide) hcbs)
    · exact (congrArg BinManager.delivery hsame).trans (hbs .delivery (by decide) hcbs)

/-- An OPEN tray stays OPEN, and a CLOSING one with another place reserved stays CLOSING (R154). -/
theorem Exits.jam_keeps (h : Exits pl (.bin b) .divert e es r s) (hopen : ¬ s.ClosesWithout es)
    (hq : s.FallsQuietly r) (hb : b ∈ binNumbers) (hx : s.reservation? e.tag = some x)
    (hy : (s.bin b).tray = some y) (hid : y.id = x.trayId) (hplace : y.state = .opened ∨ 2 ≤ y.reserved) :
    ∃ t, s.JamLeaves b e es r ⟨(s.bin b).state,
      some { y with reserved := y.reserved - 1, reservedMass := y.reservedMass - x.mass }⟩ [] [] 0 [] t := by
  obtain ⟨hbin, hother, heff⟩ := State.jamGivenUp_values (e := e) hb hy hid
  have hstay : s.jamReleased e b = s.jamGivenUp e b x :=
    (State.jamReleased_eq hx).trans (State.closeIfEmptied_stays (congrArg Bin.tray hbin)
      (hplace.imp (fun h => by simp [h]) fun h => by simp only; omega))
  rw [← hstay] at hbin hother heff
  obtain ⟨t, ht, -⟩ := h.jam_quietly hopen hq hbin hother heff (.inr rfl) (bs := []) (by
      rw [hstay]
      rintro c hc -
      rcases List.mem_pair.1 hc with rfl | rfl <;> rfl)
  exact ⟨t, ht⟩

/-- The last place of a CLOSING tray, with room in the closed-tray list (R156, R157). -/
theorem Exits.jam_delivers (h : Exits pl (.bin b) .divert e es r s) (hopen : ¬ s.ClosesWithout es)
    (hq : s.FallsQuietly r) (hb : b ∈ binNumbers) (hx : s.reservation? e.tag = some x)
    (hy : (s.bin b).tray = some y) (hid : y.id = x.trayId) (hclosing : y.state = .closing) (hlast : y.reserved ≤ 1)
    (hown : s.OwnGroup r y.group) (hqueue : s.bins.delivery = []) (hroom : s.bins.closedTrays.length < 64)
    (hstall : s.bins.stall = none) :
    ∃ t, s.JamLeaves b e es r (s.deliveredBin b) (s.deliveredNotices b)
        (.trayClosed y.id y.run y.bin y.reason :: s.deliveredNotices b) 0 [.closedTrays] t
      ∧ t.bins.closedTrays = s.bins.closedTrays
        ++ [{ y with reserved := y.reserved - 1, reservedMass := y.reservedMass - x.mass, state := .closed }] := by
  obtain ⟨hgiven, hgivenOther, hgivenEff⟩ := State.jamGivenUp_values (e := e) hb hy hid
  obtain ⟨hbin, hother, hclosed, heff⟩ := State.closeIfEmptied_delivers hb (congrArg Bin.tray hgiven) hclosing
    (by simp only; omega) (State.trayClosedReport_own hq hown rfl) hroom hqueue
  have hfrees : (s.jamGivenUp e b x).frees b ((s.jamGivenUp e b x).bin b).state = s.frees b (s.bin b).state := by
    rw [hgiven]
    exact State.frees_congr rfl rfl _
  rw [State.deliveredBin, hfrees, hgiven] at hbin
  rw [State.deliveredNotices, hfrees] at heff
  rw [← State.jamReleased_eq hx] at hbin hother hclosed heff
  obtain ⟨t, ht, hbins⟩ := h.jam_quietly hopen hq hbin (fun j hj hne => (hother j hj hne).trans (hgivenOther j hj hne))
    (hgivenEff.after (heff.mono (by decide))) (.inl hstall) (bs := [.closedTrays]) (by
      rintro c hc hnot
      rcases List.mem_pair.1 hc with rfl | rfl
      · exact absurd (by decide) hnot
      · exact heff.frame .delivery (by decide))
  exact ⟨t, ht, (congrArg BinManager.closedTrays hbins).trans hclosed⟩

/-- The same with the closed-tray list full (R157). -/
theorem Exits.jam_waits (h : Exits pl (.bin b) .divert e es r s) (hopen : ¬ s.ClosesWithout es)
    (hq : s.FallsQuietly r) (hb : b ∈ binNumbers) (hx : s.reservation? e.tag = some x)
    (hy : (s.bin b).tray = some y) (hid : y.id = x.trayId) (hclosing : y.state = .closing) (hlast : y.reserved ≤ 1)
    (hown : s.OwnGroup r y.group) (hfull : 64 ≤ s.bins.closedTrays.length) :
    ∃ t, s.JamLeaves b e es r ⟨(s.bin b).state,
        some { y with reserved := y.reserved - 1, reservedMass := y.reservedMass - x.mass, state := .closed }⟩ [] []
        StickyFlag.trayListFull.bit [.delivery] t
      ∧ t.bins.delivery = s.bins.delivery ++ [b] := by
  obtain ⟨hgiven, hgivenOther, hgivenEff⟩ := State.jamGivenUp_values (e := e) hb hy hid
  obtain ⟨hbin, hother, hdelivery, heff⟩ := State.closeIfEmptied_waits hb (congrArg Bin.tray hgiven) hclosing
    (by simp only; omega) (State.trayClosedReport_own hq hown rfl) hfull
  rw [hgiven] at hbin
  rw [← State.jamReleased_eq hx] at hbin hother hdelivery heff
  obtain ⟨t, ht, hbins⟩ := h.jam_quietly hopen hq hbin (fun j hj hne => (hother j hj hne).trans (hgivenOther j hj hne))
    (hgivenEff.after (heff.mono (by decide))) (.inr rfl) (bs := [.delivery]) (by
      rintro c hc hnot
      rcases List.mem_pair.1 hc with rfl | rfl
      · exact heff.frame .closedTrays (by decide)
      · exact absurd (by decide) hnot)
  exact ⟨t, ht, (congrArg BinManager.delivery hbins).trans hdelivery⟩

end

end Sys2Proof.Machine

open Sys2Proof Sys2Proof.Machine

/-- Settles O43: the head leaves the queue; its reservation, its record and the run follow. -/
theorem exitedFinishesTheQueueHead : Obligations.ExitedFinishesTheQueueHead := by
  intro b e es r s h63 hentries hbounded hstage hr hstate hd finished closes left
  have hid : r.id = e.piece := (State.piece?_eq_some hr).1
  have hne : r.state ≠ .finished := by simp [hstate]
  have left_of {t : State} (h : Left s e es t) : left t ∧ t.track.entries.map TrackEntry.tag = es.map TrackEntry.tag :=
    ⟨⟨h.outcomes, h.hold, h.closes, h.stays, h.frame.mono (by decide)⟩, h.tags⟩
  have diverted (hdue : Due .exited .track (toBytes 1 e.tag ++ [0, 0]) s) {d : GateDecision}
      (hdec : e.decision = some d) :
      Exits (toBytes 1 e.tag ++ [0, 0]) d .divert e es r s :=
    ⟨hdue, rfl, rfl, byteAt_tag h63 _, h63, hentries, hbounded, hstage, hdec, rfl, hr, hstate⟩
  have gone {t v : State} (hres : v.ReservesFor (es.map TrackEntry.tag) t)
      (hv : v.bins.reservations = s.bins.reservations.filter fun z => z.tag != e.tag) :
      ∀ z ∈ t.bins.reservations, z.tag ≠ e.tag := by
    obtain ⟨-, hnodup, -⟩ := hbounded
    rw [hentries, List.map_cons, List.nodup_cons] at hnodup
    intro z hz
    rcases hres z hz with hz | hz
    · rw [hv] at hz
      simpa using (List.mem_filter.1 hz).2
    · exact fun hze => hnodup.1 (hze ▸ hz)
  have jammed (hdec : e.decision = some (.bin b)) (hdue : Due .exited .track (toBytes 1 e.tag ++ [0, 0]) s) :=
    (diverted hdue hdec).exec_eq (g := fun y => (y.addCause .gateJam).finish .diverted)
      (v := (((s.dropFrame .track).addCause e.piece .gateJam).releaseReservation e.tag b).finish e.piece .diverted)
      (State.applyExit_jam hr) (by simp)
      (State.finish_run_of_onPiece (s := s.dropFrame .track) (Piece.addCause_id _) (Piece.addCause_state _) hr hne
        (by simp; rfl))
  refine ⟨fun hdec hdue => ?_, fun hdec hdue => ?_, fun x hb hdec hx hdue => ?_,
    fun x y hb hdec hopen hx hy hyid hquiet hdue => ?_⟩
  · obtain ⟨t, hexec, hleft, hans, hpieces, -, -⟩ := (diverted hdue hdec).exec_eq
      (v := (s.dropFrame .track).finish e.piece .diverted) (g := Piece.finish .diverted) (State.applyExit_divert hr)
      (fun _ => rfl) (State.finish_run .diverted hr hne)
    obtain ⟨hleft, htags⟩ := left_of hleft
    exact ⟨t, hexec, hleft, htags, by rw [← Piece.exitValues_diverted]; exact hans, hpieces⟩
  · obtain ⟨t, hexec, hleft, hans, hpieces, hreserves, -⟩ := jammed hdec hdue
    obtain ⟨hleft, htags⟩ := left_of hleft
    refine ⟨t, hexec, hleft, htags, ?_, hpieces, gone hreserves ?_⟩
    · rw [Piece.exitValues_diverted, Piece.addCause_cancelPending] at hans
      exact hans
    · rw [BinManager.reservations_eq_of_promises State.finish_promises, State.releaseReservation_reservations]
      rfl
  · have hexits : Exits (toBytes 1 e.tag ++ [1] ++ toBytes 1 b) (.bin b) (.bin b) e es r s :=
      ⟨hdue, rfl, exitOutcomeOf_bin hb, byteAt_tag h63 _, h63, hentries, hbounded, hstage, hdec,
        by simp [exitAgrees], hr, hstate⟩
    obtain ⟨hrun, hreservations⟩ := State.exitIntoBin_values (s := s.dropFrame .track) (b := b) hx
      (by rw [hid]; exact hr) hstate
    rw [hid] at hrun
    obtain ⟨t, hexec, hleft, hans, hpieces, hreserves, -⟩ := hexits.exec_eq
      (g := fun y => Piece.finish .binned { y with tray := some (x.trayId, b) }) (State.applyExit_bin hr)
      (fun _ => rfl) hrun
    obtain ⟨hleft, htags⟩ := left_of hleft
    refine ⟨t, hexec, hleft, htags, ?_, hpieces, gone hreserves hreservations⟩
    rw [Piece.exitValues_binned] at hans
    exact hans
  · intro y' outcomes cleared results
    have hexits := diverted hdue hdec
    exact ⟨hexits.jam_keeps hopen hquiet hb hx hy hyid, fun hclosing hlast hown =>
      ⟨hexits.jam_delivers hopen hquiet hb hx hy hyid hclosing hlast hown,
        hexits.jam_waits hopen hquiet hb hx hy hyid hclosing hlast hown⟩⟩
end

section
/-! SHEET (R30): the sheet a payload spells, the refusals in their order, the judgement of a readable sheet, and the
effects of a sheet that joins, starts or ends a collation (R31 to R42). -/

namespace Sys2Proof.Machine

/-! ### Payloads and the numbers in them -/

theorem foldl_beNat (bs : List Byte) (acc : Nat) :
    bs.foldl (fun acc b => acc * 256 + b.toNat) acc = acc * 256 ^ bs.length + beNat bs := by
  induction bs generalizing acc with
  | nil => simp [beNat]
  | cons b bs ih =>
    have h : beNat (b :: bs) = b.toNat * 256 ^ bs.length + beNat bs := by
      simpa [beNat] using ih b.toNat
    rw [List.foldl_cons, ih, h, List.length_cons, pow_succ]
    ring

theorem beNat_cons (b : Byte) (bs : List Byte) : beNat (b :: bs) = b.toNat * 256 ^ bs.length + beNat bs := by
  simpa [beNat] using foldl_beNat bs b.toNat

theorem beNat_lt (bs : List Byte) : beNat bs < 256 ^ bs.length := by
  induction bs with
  | nil => simp [beNat]
  | cons b bs ih =>
    have hb : b.toNat + 1 ≤ 256 := b.isLt
    have := Nat.mul_le_mul_right (256 ^ bs.length) hb
    rw [beNat_cons, List.length_cons, pow_succ]
    linarith

/-- The bytes of a number see only what they can hold. -/
theorem toBytes_add_mul (w n a : Nat) : toBytes w (a * 256 ^ w + n) = toBytes w n := by
  induction w generalizing a with
  | zero => rfl
  | succ w ih =>
    have hpos : 0 < 256 ^ w := Nat.pow_pos (by decide)
    have hsplit : a * 256 ^ (w + 1) + n = a * 256 * 256 ^ w + n := by ring
    have hdiv : (a * 256 * 256 ^ w + n) / 256 ^ w = a * 256 + n / 256 ^ w := by
      rw [Nat.add_comm, Nat.add_mul_div_right _ _ hpos, Nat.add_comm]
    have hbyte : BitVec.ofNat 8 (a * 256 + n / 256 ^ w) = BitVec.ofNat 8 (n / 256 ^ w) := by
      apply BitVec.eq_of_toNat_eq
      simp only [BitVec.toNat_ofNat]
      omega
    rw [toBytes, toBytes, hsplit, hdiv, hbyte, ih]

/-- A number read from bytes is written back as those bytes (R202). -/
theorem toBytes_beNat (bs : List Byte) : toBytes bs.length (beNat bs) = bs := by
  induction bs with
  | nil => rfl
  | cons b bs ih =>
    have hpos : 0 < 256 ^ bs.length := Nat.pow_pos (by decide)
    have hdiv : (b.toNat * 256 ^ bs.length + beNat bs) / 256 ^ bs.length = b.toNat := by
      rw [Nat.add_comm, Nat.add_mul_div_right _ _ hpos, Nat.div_eq_of_lt (beNat_lt bs), Nat.zero_add]
    rw [beNat_cons, List.length_cons, toBytes, hdiv, toBytes_add_mul, ih]
    simp

theorem byteAt_le (bs : List Byte) (i : Nat) : byteAt bs i ≤ 255 := by
  have := (bs.getD i 0).isLt
  simp only [byteAt]
  omega

theorem Mark.inRange_iff (m : Mark) : m.inRange = true ↔ 1 ≤ m.id.seq ∧ m.id.seq ≤ 16777215 ∧ m.id.reprint ≤ 3
    ∧ 1 ≤ m.index ∧ m.index ≤ 24 ∧ 1 ≤ m.printed ∧ m.printed ≤ 24 := by
  simp [Mark.inRange, and_assoc]

@[simp] theorem Mark.bytes_length (m : Mark) : m.bytes.length = 7 := by simp [Mark.bytes]

/-- A mark in range is read back from its bytes (R30). -/
theorem sheetReportOf_mark {m : Mark} (h : m.inRange = true) : sheetReportOf m.bytes = some (.mark m) := by
  have hrange := m.inRange_iff.1 h
  have eform : byteAt m.bytes 0 = 1 := byteAt_toBytes_one 1
  have eseq : fieldAt m.bytes 1 3 = m.id.seq := (fieldAt_toBytes 3 _).trans (Nat.mod_eq_of_lt (by omega))
  have erep : byteAt m.bytes 4 = m.id.reprint := (byteAt_toBytes_one _).trans (Nat.mod_eq_of_lt (by omega))
  have eindex : byteAt m.bytes 5 = m.index := (byteAt_toBytes_one _).trans (Nat.mod_eq_of_lt (by omega))
  have eprinted : byteAt m.bytes 6 = m.printed := (byteAt_toBytes_one _).trans (Nat.mod_eq_of_lt (by omega))
  simp only [sheetReportOf, eform, eseq, erep, eindex, eprinted, Mark.bytes_length]
  exact if_pos (by simp only [true_and]; omega)

theorem sheetReportOf_bytes {sh : SheetReport} (h : ∀ m, sh = .mark m → m.inRange = true) :
    sheetReportOf sh.bytes = some sh := by
  cases sh with
  | noRead => rfl
  | mark m => exact sheetReportOf_mark (h m rfl)

theorem SheetReport.bytes_allowed (sh : SheetReport) : RequestKind.sheet.lengthAllowed sh.bytes.length = true := by
  cases sh with
  | noRead => rfl
  | mark m => simp [RequestKind.lengthAllowed, SheetReport.bytes]

/-- A payload that spells a sheet is the payload of that sheet, and a mark in it is in range (R30, R207). -/
theorem sheetReportOf_eq_some {pl : List Byte} {sh : SheetReport} (h : sheetReportOf pl = some sh) :
    pl = [0] ∨ ∃ m : Mark, m.inRange = true ∧ pl = m.bytes := by
  unfold sheetReportOf at h
  split at h
  · next hform =>
    left
    split_ifs at h with hlen
    obtain ⟨b, rfl⟩ := List.length_eq_one_iff.1 hlen
    have hb : b.toNat = 0 := hform
    exact congrArg (fun b => [b]) (BitVec.eq_of_toNat_eq hb)
  · next hform =>
    right
    dsimp only at h
    split_ifs at h with hm
    obtain ⟨hlen, hm⟩ := hm
    refine ⟨⟨⟨fieldAt pl 1 3, byteAt pl 4⟩, byteAt pl 5, byteAt pl 6⟩, ?_, ?_⟩
    · have hseq : fieldAt pl 1 3 < 256 ^ 3 := lt_of_lt_of_le (beNat_lt _)
        (Nat.pow_le_pow_right (by decide) (by simp))
      refine (Mark.inRange_iff _).2 ⟨hm.1, Nat.le_of_lt_succ hseq, hm.2.1, hm.2.2.1, hm.2.2.2.1, hm.2.2.2.2⟩
    · match pl, hlen, hform with
      | [f, a, b, c, d, e, g], _, hform =>
        have hf : f = 1 := BitVec.eq_of_toNat_eq (show f.toNat = 1 from hform)
        have hseq : toBytes 3 (fieldAt [f, a, b, c, d, e, g] 1 3) = [a, b, c] := toBytes_beNat [a, b, c]
        have hone (x : Byte) : toBytes 1 x.toNat = [x] := by simpa [beNat] using toBytes_beNat [x]
        have h4 : toBytes 1 (byteAt [f, a, b, c, d, e, g] 4) = [d] := hone d
        have h5 : toBytes 1 (byteAt [f, a, b, c, d, e, g] 5) = [e] := hone e
        have h6 : toBytes 1 (byteAt [f, a, b, c, d, e, g] 6) = [g] := hone g
        simp only [Mark.bytes, hseq, h4, h5, h6]
        rw [hf]
        rfl
  · exact absurd h (by simp)

/-! ### The refusals of SHEET (R30, R41, R42) -/

section
variable {sh : SheetReport} {c : Collation} {s : State}

theorem Checker.openForming_some {k : Checker} (h : k.forming = some c) (hopen : c.ended = false) :
    k.openForming = some c := by simp [Checker.openForming, h, hopen]

theorem Checker.openForming_none {k : Checker} (h : ∀ c, k.forming = some c → c.ended = true) :
    k.openForming = none := by
  cases hf : k.forming with
  | none => simp [Checker.openForming, hf]
  | some c => simp [Checker.openForming, hf, h c hf]

theorem Checker.waiting_some {k : Checker} (h : k.forming = some c) : k.waiting = c.ended := by
  simp [Checker.waiting, h]

theorem Checker.waiting_none {k : Checker} (h : k.forming = none) : k.waiting = false := by
  simp [Checker.waiting, h]

/-- A sheet starts a collation when it joins no open one (R29). -/
theorem State.wouldStart_iff : s.wouldStart sh = true ↔
    ∀ c, s.checker.forming = some c → c.ended = false → sh.joins c = false := by
  unfold State.wouldStart
  cases hf : s.checker.forming with
  | none => simp [Checker.openForming_none, hf]
  | some c =>
    cases he : c.ended with
    | false => simp [Checker.openForming_some hf he, he]
    | true =>
      have hnone : s.checker.openForming = none := Checker.openForming_none fun c' h => by simp_all
      simp [hnone, he]

theorem State.wouldEnd_iff : s.wouldEnd sh = true ↔
    ∃ c, s.checker.forming = some c ∧ c.ended = false ∧ sh.joins c = false := by
  unfold State.wouldEnd
  cases hf : s.checker.forming with
  | none => simp [Checker.openForming_none, hf]
  | some c =>
    cases he : c.ended with
    | false => simp [Checker.openForming_some hf he, he]
    | true =>
      have hnone : s.checker.openForming = none := Checker.openForming_none fun c' h => by simp_all
      simp [hnone, he]

theorem State.sheetRefusal_closed (h : s.run.runState = .closed) : s.sheetRefusal sh = some .wrongState := by
  simp [State.sheetRefusal, h]

theorem State.sheetRefusal_syncLost (h : s.run.runState ≠ .closed) (hi : s.checker.intake = .syncLost) :
    s.sheetRefusal sh = some .syncLost := by simp [State.sheetRefusal, h, hi]

theorem State.sheetRefusal_draining (h : s.run.runState = .draining) (hi : s.checker.intake = .inSync)
    (hs : s.wouldStart sh = true) : s.sheetRefusal sh = some .wrongState := by simp [State.sheetRefusal, h, hi, hs]

/-- The last refusal: a start sheet finds a collation waiting, or one would end while the ready record is occupied
(R41, R42). -/
theorem State.sheetRefusal_hold (h : s.run.runState = .opened) (hi : s.checker.intake = .inSync)
    (hs : s.wouldStart sh = true) (hf : s.checker.forming = some c) (hc : c.ended = true ∨ s.checker.ready.isSome) :
    s.sheetRefusal sh = some .holdSheet := by
  have hlast : (s.wouldStart sh && s.checker.waiting) || (s.wouldEnd sh && s.checker.ready.isSome) := by
    cases he : c.ended with
    | true => simp [hs, Checker.waiting_some hf, he]
    | false =>
      have hend : s.wouldEnd sh = true := State.wouldEnd_iff.2 ⟨c, hf, he, State.wouldStart_iff.1 hs c hf he⟩
      have hready : s.checker.ready.isSome = true := by simpa [he] using hc
      simp [hend, hready]
  simp [State.sheetRefusal, h, hi, hlast]

/-- A sheet that joins the open collation is taken in every run state but CLOSED (R30). -/
theorem State.sheetRefusal_joins (h : s.run.runState ≠ .closed) (hi : s.checker.intake = .inSync)
    (hf : s.checker.forming = some c) (hopen : c.ended = false) (hj : sh.joins c = true) : s.sheetRefusal sh = none := by
  have hof := Checker.openForming_some hf hopen
  simp [State.sheetRefusal, State.wouldStart, State.wouldEnd, h, hi, hof, hj]

/-- A start sheet is taken in an OPEN run when nothing waits and nothing ready is in its way (R30, R42). -/
theorem State.sheetRefusal_starts (h : s.run.runState = .opened) (hi : s.checker.intake = .inSync)
    (hw : s.checker.waiting = false) (hr : s.checker.forming = none ∨ s.checker.ready = none) :
    s.sheetRefusal sh = none := by
  have hend : (s.wouldEnd sh && s.checker.ready.isSome) = false := by
    rcases hr with hf | hr
    · simp [State.wouldEnd, Checker.openForming, hf]
    · simp [hr]
  simp [State.sheetRefusal, h, hi, hw, hend]

end

/-! ### A sheet that is taken -/

section
variable {sh : SheetReport} {s : State} {x : State × SheetDone}

theorem sheetBody_taken (hpl : sheetReportOf sh.bytes = some sh) (hr : s.sheetRefusal sh = none)
    (hj : s.judgeSheet sh = x) : sheetBody sh.bytes s = (x.1.afterEvent s, done x.2.values) := by
  simp only [sheetBody, hpl, hr, hj]

/-- A sheet whose judgement leaves every bin as it was. -/
theorem sheet_taken {track plan : List Notice} {fl : FlagSet} {bs : List Block}
    (hdue : Due .sheet .track sh.bytes s) (hsh : ∀ m, sh = .mark m → m.inRange = true)
    (hr : (s.dropFrame .track).sheetRefusal sh = none) (hj : (s.dropFrame .track).judgeSheet sh = x)
    (he : Effects track plan fl bs (s.dropFrame .track) x.1)
    (hbs : .intake .track ∉ bs ∧ .responses .track ∉ bs ∧ .bins ∉ bs) :
    ∃ t, exec (.sheet .track) s = .next t ∧ t.checker = x.1.checker ∧ t.run = x.1.run
      ∧ Answered .track .sheet .done x.2.values s t ∧ Happened track plan fl (requestBlocks .track ++ bs) s t := by
  obtain ⟨hintake, hresponses, hbins⟩ := hbs
  have hb : RequestKind.sheet.body .track sh.bytes (s.dropFrame .track) = (x.1, done x.2.values) := by
    have htable : x.1.bins.table = (s.dropFrame .track).bins.table := he.frame .bins (by simpa using hbins)
    have := sheetBody_taken (sheetReportOf_bytes hsh) hr hj
    rwa [State.afterEvent_of_same_bins htable] at this
  obtain ⟨hexec, hans, hhap⟩ := exec_due_effects (k := .sheet) hdue rfl sh.bytes_allowed hb he ⟨hintake, hresponses⟩
  exact ⟨_, hexec, rfl, rfl, hans, hhap⟩

/-- A sheet whose judgement may change trays and census as well. -/
theorem sheet_taken_changes {bs : List Block} (hdue : Due .sheet .track sh.bytes s)
    (hsh : ∀ m, sh = .mark m → m.inRange = true) (hr : (s.dropFrame .track).sheetRefusal sh = none)
    (hj : (s.dropFrame .track).judgeSheet sh = x) (hc : ChangesOnly (bs ++ gateBlocks) (s.dropFrame .track) x.1)
    (hbs : .intake .track ∉ bs ∧ .responses .track ∉ bs) :
    ∃ t, exec (.sheet .track) s = .next t ∧ t.checker = x.1.checker ∧ t.run = x.1.run
      ∧ Answered .track .sheet .done x.2.values s t
      ∧ ChangesOnly (requestBlocks .track ++ (bs ++ gateBlocks) ++ [.pins]) s t := by
  have hb : RequestKind.sheet.body .track sh.bytes (s.dropFrame .track)
      = (x.1.afterEvent (s.dropFrame .track), done x.2.values) := sheetBody_taken (sheetReportOf_bytes hsh) hr hj
  obtain ⟨hexec, hans, hch⟩ := exec_due_changes (k := .sheet) (bs := bs ++ gateBlocks) hdue rfl sh.bytes_allowed hb
    (by simpa [gateBlocks] using hbs)
    (hc.trans ((State.afterEvent_changes _ _).mono fun b hb => List.mem_append_right _ hb))
  exact ⟨_, hexec, by simp, by simp, hans, hch⟩

end

/-! ### The judgement of a readable sheet (R31) -/

/-- The fault of a readable sheet of a piece with so many sheets, the first case of R31 that applies; none when it is
accepted. -/
def Mark.fault (m : Mark) (sheets highest : Nat) : Option Cause :=
  if m.printed ≠ sheets ∨ sheets < m.index then some .markMismatch
  else if m.index = highest + 1 then none
  else if highest + 1 < m.index then some .missingSheet
  else some .duplicateSheet

/-- The outcome that a fault, or none, stands for. -/
def SheetOutcome.ofFault (f : Option Cause) : SheetOutcome := f.elim .accepted .fault

@[simp] theorem SheetOutcome.ofFault_fault? (f : Option Cause) : (SheetOutcome.ofFault f).fault? = f := by
  cases f <;> rfl

theorem SheetOutcome.ofFault_value (f : Option Cause) :
    (SheetOutcome.ofFault f).value = f.elim (.code .sheetOutcome 0) fun f => byteV f.number := by cases f <;> rfl

theorem judgeMark_eq (sheets highest : Nat) (m : Mark) :
    judgeMark sheets highest m = .ofFault (m.fault sheets highest) := by
  unfold judgeMark Mark.fault
  split_ifs <;> simp_all [SheetOutcome.ofFault]

/-- The collation a judged sheet has joined (R26, R31, R32). -/
def Collation.judged (sheets : Nat) (m : Mark) (c : Collation) : Collation :=
  { c with
    accepted := if m.fault sheets c.highest = none then c.accepted ++ [m.index] else c.accepted
    highest := max c.highest m.index
    joined := min (c.joined + 1) 255
    faults := (m.fault sheets c.highest).elim c.faults fun f => if f ∈ c.faults then c.faults else c.faults ++ [f]
    ended := decide (m.index = sheets) }

theorem Collation.joinMark_eq (sheets : Nat) (m : Mark) (c : Collation) : c.joinMark sheets m = c.judged sheets m := by
  unfold Collation.joinMark Collation.judged
  rw [judgeMark_eq]
  cases m.fault sheets c.highest with
  | none => simp [SheetOutcome.ofFault, Collation.join, Bool.beq_eq_decide_eq]
  | some f =>
    by_cases hf : f ∈ c.faults <;>
      simp [SheetOutcome.ofFault, Collation.join, Collation.addFault, hf, Bool.beq_eq_decide_eq]

/-- An ended collation goes to an empty ready record, and waits before an occupied one (R41). -/
theorem Checker.settleForming_some {k : Checker} {c : Collation} (h : k.forming = some c) :
    k.settleForming = { k with
      forming := if c.ended && k.ready.isNone then none else some c
      ready := if c.ended && k.ready.isNone then some c else k.ready } := by
  unfold Checker.settleForming
  rw [Checker.waiting_some h]
  split <;> simp_all
  cases k; simp_all

/-- Where a collation of the forming record goes: by whether it has ended, and whether the ready record takes it. -/
def EndPlace.of (ended moves : Bool) : EndPlace := if ended then if moves then .toReady else .waits else .notEnded

theorem Checker.endPlace_some {k : Checker} {c : Collation} (h : k.forming = some c) :
    k.endPlace = .of c.ended (c.ended && k.ready.isNone) := by
  unfold Checker.endPlace
  rw [Checker.waiting_some h]
  cases c.ended <;> cases k.ready.isNone <;> rfl

theorem EndPlace.of_code (p : Prop) [Decidable p] (moves : Bool) :
    (EndPlace.of (decide p) moves).code = if p then if moves then 1 else 2 else 0 := by
  by_cases h : p <;> cases moves <;> simp [EndPlace.of, EndPlace.code, h]

/-- The answer to a readable sheet of a piece collation (R30). -/
theorem SheetDone.values_piece (id : PieceId) (f : Option Cause) (k : Nat) (e : EndPlace) :
    (SheetDone.mk (.piece id) (.ofFault f) k e false).values
      = [.code .owner 2, triV id.seq, byteV id.reprint, f.elim (.code .sheetOutcome 0) fun f => byteV f.number,
          .code .count k, .code .endPlace e.code, flagV false] := by
  rw [← SheetOutcome.ofFault_value]
  rfl

section
variable {s : State} {id : PieceId} {c : Collation} {m : Mark}

theorem State.addOutcome_run (f : Option Cause) : (s.addOutcome id (.ofFault f)).run = { s.run with
    pieces := s.run.pieces.map fun x => if x.id = id then f.elim x fun f => x.addCause f else x } := by
  cases f with
  | none => simp [State.addOutcome]
  | some f => simpa [State.addOutcome, State.addCause] using State.onPiece_pieces (Piece.addCause f)

theorem State.addOutcome_changes (out : SheetOutcome) : ChangesOnly [.pieces] s (s.addOutcome id out) := by
  unfold State.addOutcome
  split
  · exact State.onPiece_changes _ _ _
  · exact ChangesOnly.refl _ _

theorem State.setForming_effects (c : Collation) (s : State) : Effects [] [] 0 [.forming] s (s.setForming c) :=
  Effects.of_changesOnly (fun b hb => by cases b <;> first | rfl | simp at hb) (by simp) (by simp)

/-- What a readable sheet does that joins the open collation of its piece: the collation judged and, when it has ended,
moved; and the fault in the piece (R31, R32, R41). -/
theorem State.joinPiece_values {n : Nat} (hn : (s.piece? id).elim 0 Piece.sheets = n) (k : Nat) :
    let x := s.joinPiece id c m k
    let moves := decide (m.index = n) && s.checker.ready.isNone
    x.1.checker = { s.checker with
        forming := if moves then none else some (c.judged n m)
        ready := if moves then some (c.judged n m) else s.checker.ready }
      ∧ x.1.run = { s.run with pieces := s.run.pieces.map fun x =>
          if x.id = id then (m.fault n c.highest).elim x fun f => x.addCause f else x }
      ∧ x.2 = ⟨.piece id, .ofFault (m.fault n c.highest), k, .of (decide (m.index = n)) moves, false⟩
      ∧ ChangesOnly [.ready, .forming, .pieces] s x.1 := by
  intro x moves
  have hx : x = ((((s.addOutcome id (.ofFault (m.fault n c.highest))).setForming (c.judged n m)).onChecker
      Checker.settleForming), ⟨.piece id, .ofFault (m.fault n c.highest), k,
        Checker.endPlace { s.checker with forming := some (c.judged n m) }, false⟩) := by
    simp only [x, State.joinPiece, hn, judgeMark_eq, Collation.joinMark_eq]
    simp [State.setForming]
  have hended : (c.judged n m).ended = decide (m.index = n) := rfl
  rw [hx]
  refine ⟨?_, ?_, ?_, ?_⟩
  · simp only [State.onChecker_checker, State.setForming, State.addOutcome_frame]
    rw [Checker.settleForming_some rfl, hended]
  · simp only [State.onChecker_run, State.setForming, State.addOutcome_run]
  · rw [Checker.endPlace_some (c := c.judged n m) rfl, hended]
  · exact ((State.addOutcome_changes _).mono (by decide)).trans
      (((State.setForming_changes _ _).mono (by decide)).trans ((State.settleForming_changes _).mono (by decide)))

end

end Sys2Proof.Machine

open Sys2Proof Sys2Proof.Machine

/-- Settles O30: each refusal stops the judgement before it changes anything. -/
theorem refusedSheetsChangeNothing : Obligations.RefusedSheetsChangeNothing := by
  refine ⟨fun sh s hrange hdue => ?_, fun pl s hdue hpl => ?_⟩
  · intro start refused
    have hstart : start ↔ (s.dropFrame .track).wouldStart sh = true := State.wouldStart_iff.symm
    have refuses {r : Result} (h : (s.dropFrame .track).sheetRefusal sh = some r) : refused r :=
      exec_due_unchanged (k := .sheet) (r := refuse r) hdue rfl sh.bytes_allowed
        (by simp [RequestKind.body, sheetBody, sheetReportOf_bytes hrange, h])
    exact ⟨fun h => refuses (State.sheetRefusal_closed h), fun h hi => refuses (State.sheetRefusal_syncLost h hi),
      fun h hi hs => refuses (State.sheetRefusal_draining h hi (hstart.1 hs)),
      fun h hi hs ⟨c, hf, hc⟩ => refuses (State.sheetRefusal_hold h hi (hstart.1 hs) hf hc)⟩
  · cases hlen : RequestKind.sheet.lengthAllowed pl.length with
    | false => exact exec_due_wrongLength (k := .sheet) hdue rfl hlen
    | true =>
      have hnone : sheetReportOf pl = none := by
        cases h : sheetReportOf pl with
        | none => rfl
        | some sh =>
          rcases sheetReportOf_eq_some h with h0 | ⟨m, hm, hb⟩
          · exact absurd h0 hpl.1
          · exact absurd hb (hpl.2 m hm)
      exact exec_due_unchanged (k := .sheet) (r := refuse .badArg) hdue rfl hlen
        (by simp [RequestKind.body, sheetBody, hnone])

/-- Settles O26: a joining sheet changes the forming record, which may end and move, and the faults of its piece. -/
theorem sheetsJoinTheOpenCollation : Obligations.SheetsJoinTheOpenCollation := by
  refine ⟨fun m c r s hrange hdue hrun hintake hforming hopen howner hr => ?_,
    fun c s hrun hintake hforming hopen => ⟨fun id howner hdue => ?_, fun howner hdue => ?_,
      fun m howner hrange hindex hident hdue => ?_⟩⟩
  · intro fault c' moves
    have hjoins : (SheetReport.mark m).joins c = true := by simp [SheetReport.joins, howner]
    have hjudge : (s.dropFrame .track).judgeSheet (.mark m) = (s.dropFrame .track).joinPiece m.id c m 0 := by
      simp [State.judgeSheet, State.joinSheet, Checker.openForming_some hforming hopen, hjoins, howner]
    obtain ⟨hchecker, hpieces, hvalues, hchanges⟩ :=
      State.joinPiece_values (s := s.dropFrame .track) (c := c) (m := m) (id := m.id) (n := r.sheets)
        (congrArg (Option.elim · 0 Piece.sheets) hr) 0
    obtain ⟨t, hexec, htc, htr, hans, hhap⟩ := sheet_taken (sh := .mark m) hdue (by rintro _ ⟨⟩; exact hrange)
      (State.sheetRefusal_joins (s := s.dropFrame .track) hrun hintake hforming hopen hjoins) hjudge
      (Effects.of_changesOnly hchanges (by simp) (by simp)) (by decide)
    rw [hvalues, SheetDone.values_piece, EndPlace.of_code] at hans
    refine ⟨t, hexec, hans, ?_, ?_, ?_, hhap.mono (by decide)⟩
    · rw [htc, hchecker]; rfl
    · rw [htc, hchecker]; rfl
    · rw [htr, hpieces]; rfl
  · have hjoins : SheetReport.noRead.joins c = true := rfl
    have hjudge : (s.dropFrame .track).judgeSheet .noRead
        = ((((s.dropFrame .track).addCause id .unreadable).setForming (c.join.addFault .unreadable)),
          ⟨.piece id, .fault .unreadable, 0, .notEnded, false⟩) := by
      simp [State.judgeSheet, State.joinSheet, Checker.openForming_some hforming hopen, hjoins, howner]
    have heff : Effects [] [] 0 [.forming, .pieces] (s.dropFrame .track)
        (((s.dropFrame .track).addCause id .unreadable).setForming (c.join.addFault .unreadable)) := by
      exact ((State.addCause_effects .unreadable).mono (by decide)).before
        ((State.setForming_effects _ _).mono (by decide))
    obtain ⟨t, hexec, htc, htr, hans, hhap⟩ := sheet_taken (sh := .noRead) hdue (by simp)
      (State.sheetRefusal_joins (s := s.dropFrame .track) hrun hintake hforming hopen hjoins) hjudge heff (by decide)
    refine ⟨t, hexec, hans, ?_, ?_, hhap.mono (by decide)⟩
    · rw [htc]
      by_cases hf : Cause.unreadable ∈ c.faults <;>
        simp [State.setForming, Collation.addFault, Collation.join, hf]
    · rw [htr]
      exact congrArg RunTable.pieces (State.onPiece_pieces (s := s) (id := id) (Piece.addCause .unreadable))
  · have hjoins : SheetReport.noRead.joins c = true := rfl
    have hjudge : (s.dropFrame .track).judgeSheet .noRead
        = ((s.dropFrame .track).setForming c.join, ⟨.orphan, .joined, 0, .notEnded, false⟩) := by
      simp [State.judgeSheet, State.joinSheet, Checker.openForming_some hforming hopen, hjoins, howner]
    have heff : Effects [] [] 0 [.forming] (s.dropFrame .track) ((s.dropFrame .track).setForming c.join) :=
      State.setForming_effects _ _
    obtain ⟨t, hexec, htc, htr, hans, hhap⟩ := sheet_taken (sh := .noRead) hdue (by simp)
      (State.sheetRefusal_joins (s := s.dropFrame .track) hrun hintake hforming hopen hjoins) hjudge heff (by decide)
    exact ⟨t, hexec, hans, by rw [htc]; rfl, hhap⟩
  · have hjoins : (SheetReport.mark m).joins c = true := by simp [SheetReport.joins, howner, hindex, hident]
    have hjudge : (s.dropFrame .track).judgeSheet (.mark m)
        = ((s.dropFrame .track).setForming { c.join with highest := max c.highest m.index },
          ⟨.orphan, .joined, 0, .notEnded, false⟩) := by
      simp [State.judgeSheet, State.joinSheet, Checker.openForming_some hforming hopen, hjoins, howner]
    have heff : Effects [] [] 0 [.forming] (s.dropFrame .track)
        ((s.dropFrame .track).setForming { c.join with highest := max c.highest m.index }) :=
      State.setForming_effects _ _
    obtain ⟨t, hexec, htc, htr, hans, hhap⟩ := sheet_taken (sh := .mark m) hdue (by rintro _ ⟨⟩; exact hrange)
      (State.sheetRefusal_joins (s := s.dropFrame .track) hrun hintake hforming hopen hjoins) hjudge heff (by decide)
    exact ⟨t, hexec, hans, by rw [htc]; rfl, hhap⟩
end

section
/-! Start sheets (R35 to R40): the records skipped before the one a sheet belongs to, the orphan a sheet opens, and the
collation a sheet ends before it starts the next (R34, R38). -/

namespace Sys2Proof.Machine

/-! ### The LOADED record within reach (R35, R36) -/

section
variable {s : State} {pre post : List Piece} {r : Piece} {m : Mark}

theorem State.loadedAhead_sublist (s : State) : s.loadedAhead.Sublist s.run.pieces :=
  List.filter_sublist.trans (List.drop_sublist _ _)

/-- The LOADED records at or after the cursor are distinct, and each is found under its number. -/
theorem State.loadedAhead_split (hd : PiecesDistinct s) (h : s.loadedAhead = pre ++ r :: post) :
    (pre.map Piece.id).Nodup ∧ r.id ∉ pre.map Piece.id
      ∧ ∀ x ∈ pre ++ [r], x ∈ s.run.pieces ∧ x.state = .loaded ∧ s.piece? x.id = some x := by
  have hnodup : (s.loadedAhead.map Piece.id).Nodup := hd.sublist (s.loadedAhead_sublist.map _)
  rw [h, List.map_append, List.map_cons, List.nodup_append] at hnodup
  obtain ⟨hpre, -, hdisjoint⟩ := hnodup
  refine ⟨hpre, fun hr => hdisjoint _ hr _ List.mem_cons_self rfl, fun x hx => ?_⟩
  have hmem : x ∈ s.loadedAhead := by rw [h]; simp only [List.mem_append, List.mem_cons] at hx ⊢; tauto
  have hx : x ∈ s.run.pieces := s.loadedAhead_sublist.subset hmem
  exact ⟨hx, by simpa using (List.mem_filter.1 hmem).2, State.piece?_of_mem hd hx⟩

theorem State.skippedBefore_found (hd : PiecesDistinct s) (h : s.loadedAhead = pre ++ r :: post)
    (hle : pre.length ≤ s.profile.limits.resyncReach) : s.skippedBefore r.id = some (pre.map Piece.id) := by
  obtain ⟨-, hr, -⟩ := State.loadedAhead_split hd h
  have hidx : (s.loadedAhead.map Piece.id).idxOf r.id = pre.length := by
    rw [h, List.map_append, List.map_cons, List.idxOf_append_of_notMem hr, List.idxOf_cons_self, List.length_map,
      Nat.add_zero]
  have htake : (s.loadedAhead.map Piece.id).take pre.length = pre.map Piece.id := by
    rw [h, List.map_append, ← List.length_map (f := Piece.id) (as := pre), List.take_left]
  simp only [State.skippedBefore, hidx, htake]
  exact if_pos ⟨by simp [h], hle⟩

theorem State.skippedBefore_none {id : PieceId} (h : ∀ pre r post, s.loadedAhead = pre ++ r :: post → r.id = id →
    s.profile.limits.resyncReach < pre.length) : s.skippedBefore id = none := by
  unfold State.skippedBefore
  refine if_neg fun ⟨hlt, hle⟩ => ?_
  have hlen : (s.loadedAhead.map Piece.id).idxOf id < s.loadedAhead.length := by simpa using hlt
  have hfar := h _ _ _ ((List.take_append_drop _ _).symm.trans (congrArg _ (List.drop_eq_getElem_cons hlen)))
    (by rw [← List.getElem_map Piece.id (h := hlt)]; exact List.getElem_idxOf hlt)
  rw [List.length_take, Nat.min_eq_left hlen.le] at hfar
  omega

theorem State.position_congr {s t : State} (h : t.run.roll = s.run.roll) (id : PieceId) :
    t.position id = s.position id := by
  have hids : t.run.pieces.map Piece.id = s.run.pieces.map Piece.id := congrArg (fun x => x.2.2) h
  have hpos (u : State) : u.position id = (u.run.pieces.map Piece.id).findIdx (· == id) := by
    simp [State.position, List.findIdx_map, Function.comp_def]
  rw [hpos, hpos, hids]

/-- A record found under its number after a change of every record that keeps its number. -/
theorem State.piece?_of_map {s t : State} {id : PieceId} {g : Piece → Piece} (hg : ∀ x, (g x).id = x.id)
    (h : t.run.pieces = s.run.pieces.map g) : t.piece? id = (s.piece? id).map g := by
  have hp : (fun x : Piece => x.id == id) ∘ g = fun x => x.id == id := by funext x; simp [hg]
  simp only [State.piece?, RunTable.piece?, h, List.find?_map, hp]

theorem Piece.addCause_eq {x : Piece} {f : Cause} (h : x.state ≠ .finished) :
    x.addCause f = { x with faults := if f ∈ x.faults then x.faults else x.faults ++ [f] } := by
  by_cases hf : f ∈ x.faults <;> simp [Piece.addCause, h, hf]

/-! ### The start sheet of a LOADED record (R35, R36) -/

/-- The record of the piece whose collation a start sheet opens, with the fault of the sheet (R28, R35). -/
def Piece.opened (f : Option Cause) (x : Piece) : Piece :=
  { x with
    state := .collating
    faults := f.elim x.faults fun c => if c ∈ x.faults then x.faults else x.faults ++ [c] }

/-- A LOADED record that a later start sheet skips (R19, R36). -/
def Piece.skippedAhead (x : Piece) : Piece := (x.addCause .skippedAhead).finish .notFed

theorem Piece.skippedAhead_eq {x : Piece} (h : x.state ≠ .finished) : x.skippedAhead =
    { x with
      state := .finished
      faults := if Cause.skippedAhead ∈ x.faults then x.faults else x.faults ++ [.skippedAhead]
      disposition := some (if x.cancelPending then .cancelled else .notFed)
      tag := none } := by
  rw [Piece.skippedAhead, Piece.addCause_eq h]
  simp [Piece.finish]

/-- A record that is skipped was LOADED. -/
theorem State.loaded_of_skipped (hd : PiecesDistinct s) (h : s.loadedAhead = pre ++ r :: post) {x : Piece}
    (hx : x ∈ s.run.pieces) (hid : x.id ∈ pre.map Piece.id) : x.state = .loaded := by
  obtain ⟨-, -, hall⟩ := State.loadedAhead_split hd h
  obtain ⟨y, hy, hyx⟩ := List.mem_map.1 hid
  obtain ⟨hmem, hstate, -⟩ := hall y (List.mem_append_left _ hy)
  exact List.inj_on_of_nodup_map hd hmem hx hyx ▸ hstate

/-- The collation that a start sheet opens and joins (R31, R32, R35). -/
def Mark.opens (m : Mark) (sheets : Nat) : Collation := (Collation.openPiece m.id).judged sheets m

theorem Mark.fault_first (hm : 1 ≤ m.index) (sheets : Nat) : m.fault sheets 0 =
    if m.printed ≠ sheets ∨ sheets < m.index then some .markMismatch
    else if m.index = 1 then none
    else some .missingSheet := by
  have hlt : ¬ m.index = 1 → 0 + 1 < m.index := by omega
  unfold Mark.fault
  split_ifs with h1 h2 h3 <;> first | rfl | exact absurd (hlt h2) h3

theorem Mark.opens_eq (sheets : Nat) : m.opens sheets =
    ⟨.piece m.id, none, if m.fault sheets 0 = none then [1] else [], m.index, 1, (m.fault sheets 0).toList,
      decide (m.index = sheets)⟩ := by
  have hnone : m.fault sheets 0 = none → m.index = 1 := by
    unfold Mark.fault
    split_ifs <;> simp_all
  unfold Mark.opens Collation.judged Collation.openPiece
  cases hf : m.fault sheets 0 with
  | none => simp [hnone hf]
  | some f => simp

theorem State.openFor_changes (id : PieceId) (s : State) :
    ChangesOnly [.forming, .cursor, .orphanRun, .pieces] s (s.openFor id) := by
  intro b hb
  cases b <;> first | rfl | simp at hb

/-- The records after those before a start sheet's piece have finished and its collation has opened (R35, R36). -/
theorem State.openFor_values {ids : List PieceId} {id : PieceId} (hid : id ∉ ids) (hn : ids.Nodup)
    (hfound : ∀ id ∈ ids, ∃ y, s.piece? id = some y ∧ y.state ≠ .finished) :
    let u := (s.finishAll ids .skippedAhead .notFed).openFor id
    u.checker = { s.checker with forming := some (Collation.openPiece id), cursor := s.position id + 1, orphanRun := 0 }
      ∧ u.run = { s.run with
          pieces := s.run.pieces.map fun y =>
            if y.id ∈ ids then y.skippedAhead else if y.id = id then y.opened none else y
          outcomes := s.run.outcomes ++ ids }
      ∧ (u.piece? id).elim 0 Piece.sheets = (s.piece? id).elim 0 Piece.sheets
      ∧ ChangesOnly ([.forming, .cursor, .orphanRun, .pieces, .outcomes] ++ gateBlocks) s u := by
  have hfinish : (s.finishAll ids .skippedAhead .notFed).run = { s.run with
      pieces := s.run.pieces.map fun y => if y.id ∈ ids then y.skippedAhead else y
      outcomes := s.run.outcomes ++ ids } := State.finishAll_run .skippedAhead .notFed hn hfound
  have hpos : (s.finishAll ids .skippedAhead .notFed).position id = s.position id :=
    State.position_congr (by simp) _
  intro u
  have hrun : u.run = { s.run with
      pieces := s.run.pieces.map fun y =>
        if y.id ∈ ids then y.skippedAhead else if y.id = id then y.opened none else y
      outcomes := s.run.outcomes ++ ids } := by
    simp only [u, State.openFor, State.onChecker_run, State.onPiece_pieces, hfinish, List.map_map, RunTable.mk.injEq,
      true_and, and_true]
    refine List.map_congr_left fun y _ => ?_
    by_cases hy : y.id ∈ ids
    · have hne : y.id ≠ id := fun he => hid (he ▸ hy)
      simp [hy, hne, Piece.skippedAhead]
    · simp [hy, Piece.opened]
  refine ⟨by simp [u, State.openFor, hpos], hrun, ?_, ?_⟩
  · rw [State.piece?_of_map (s := s) (fun y => ?_) (congrArg RunTable.pieces hrun)]
    · cases hp : s.piece? id with
      | none => rfl
      | some y =>
        have hy : y.id = id := (State.piece?_eq_some hp).1
        simp [hy, hid, Piece.opened]
    · split_ifs <;> simp [Piece.skippedAhead, Piece.opened]
  · exact ((State.finishAll_changes _ _ _).mono (by decide)).trans ((State.openFor_changes _ _).mono (by decide))

/-- What a start sheet of a LOADED record within reach does: the records before it finish, its collation opens and the
sheet is judged in it (R35, R36). -/
theorem State.startSheet_found (hd : PiecesDistinct s) (h : s.loadedAhead = pre ++ r :: post) (hr : r.id = m.id)
    (hle : pre.length ≤ s.profile.limits.resyncReach) :
    let x := s.startSheet (.mark m)
    let moves := decide (m.index = r.sheets) && s.checker.ready.isNone
    x.1.checker = { s.checker with
        forming := if moves then none else some (m.opens r.sheets)
        ready := if moves then some (m.opens r.sheets) else s.checker.ready
        cursor := s.position m.id + 1
        orphanRun := 0 }
      ∧ x.1.run = { s.run with
          pieces := s.run.pieces.map fun y =>
            if y.id ∈ pre.map Piece.id then y.skippedAhead
            else if y.id = m.id then y.opened (m.fault r.sheets 0) else y
          outcomes := s.run.outcomes ++ pre.map Piece.id }
      ∧ x.2 = ⟨.piece m.id, .ofFault (m.fault r.sheets 0), pre.length, .of (decide (m.index = r.sheets)) moves, false⟩
      ∧ ChangesOnly ([.forming, .ready, .cursor, .orphanRun, .pieces, .outcomes] ++ gateBlocks) s x.1
      ∧ (pre = [] → ChangesOnly [.forming, .ready, .cursor, .orphanRun, .pieces] s x.1) := by
  obtain ⟨hnodup, hnotin, hall⟩ := State.loadedAhead_split hd h
  have hskip : s.skippedBefore m.id = some (pre.map Piece.id) := hr ▸ State.skippedBefore_found hd h hle
  rw [hr] at hnotin
  have hfound : ∀ id ∈ pre.map Piece.id, ∃ y, s.piece? id = some y ∧ y.state ≠ .finished := by
    intro id hid
    obtain ⟨y, hy, rfl⟩ := List.mem_map.1 hid
    obtain ⟨-, hstate, hp⟩ := hall y (List.mem_append_left _ hy)
    exact ⟨y, hp, by simp [hstate]⟩
  have hpiece : s.piece? m.id = some r := hr ▸ (hall r (by simp)).2.2
  obtain ⟨hopenChecker, hopenRun, hopenSheets, hopenChanges⟩ := State.openFor_values hnotin hnodup hfound
  rw [hpiece, Option.elim_some] at hopenSheets
  obtain ⟨hchecker, hrun, hdone, hchanges⟩ :=
    State.joinPiece_values (c := Collation.openPiece m.id) (m := m) hopenSheets pre.length
  intro x moves
  have hx : x = ((s.finishAll (pre.map Piece.id) .skippedAhead .notFed).openFor m.id).joinPiece m.id
      (Collation.openPiece m.id) m pre.length := by
    simp only [x, State.startSheet, hskip, List.length_map]
  rw [hx]
  refine ⟨?_, ?_, ?_, (hopenChanges.mono (by decide)).trans (hchanges.mono (by decide)), fun hpre => ?_⟩
  · rw [hchecker, hopenChecker]
    rfl
  · rw [hrun, hopenRun]
    simp only [List.map_map, RunTable.mk.injEq, true_and, and_true]
    refine List.map_congr_left fun y _ => ?_
    by_cases hy : y.id ∈ pre.map Piece.id
    · have hne : y.id ≠ m.id := fun he => hnotin (he ▸ hy)
      simp only [Function.comp_apply, if_pos hy]
      exact if_neg (by simpa [Piece.skippedAhead] using hne)
    · by_cases hm : y.id = m.id
      · have hfault (f : Option Cause) :
            (f.elim (y.opened none) fun c => (y.opened none).addCause c) = y.opened f := by
          cases f with
          | none => rfl
          | some c => exact Piece.addCause_eq (by simp [Piece.opened])
        simp only [Function.comp_apply, if_neg hy, if_pos hm]
        rw [if_pos (show (y.opened none).id = m.id from hm)]
        exact hfault _
      · simp only [Function.comp_apply, if_neg hy, if_neg hm]
  · rw [hdone, hopenChecker]
    rfl
  · subst hpre
    exact ((State.openFor_changes m.id s).mono (by decide)).trans (hchanges.mono (by decide))

end

/-! ### The start sheet that opens an orphan (R37, R39, R40) -/

/-- The orphan that a start sheet opens (R37). -/
def SheetReport.orphan : SheetReport → Collation
  | .noRead => ⟨.orphan, none, [], 0, 1, [], false⟩
  | .mark m => ⟨.orphan, some m.id, [], m.index, 1, [], false⟩

/-- Whether one more orphan in a row loses sync (R39). -/
def State.losesSync (s : State) : Bool := decide (s.profile.limits.orphanLimit ≤ s.checker.orphanRun + 1)

theorem State.enterSyncLost_effects (s : State) :
    Effects [.syncLost] [.syncLost] StickyFlag.syncLost.bit [.intakeState] s s.enterSyncLost := by
  have hstate : Effects [] [] 0 [.intakeState] s (s.onChecker fun k => { k with intake := .syncLost }) :=
    Effects.of_changesOnly (fun b hb => by cases b <;> first | rfl | simp at hb) (by simp) (by simp)
  exact ((hstate.trans ((State.raise_effects .syncLost _).mono (by simp))).trans
    ((State.notifyBoth_effects .syncLost _).mono (by simp))).congr rfl rfl (by simp)

theorem State.startOrphan_values (sh : SheetReport) (s : State) :
    let x := s.startOrphan sh
    let notices : List Notice := if s.losesSync then [.syncLost] else []
    x.1.checker = { s.checker with
        forming := some sh.orphan
        orphanRun := s.checker.orphanRun + 1
        intake := if s.losesSync then .syncLost else s.checker.intake }
      ∧ x.2 = ⟨.orphan, .joined, 0, .notEnded, s.losesSync⟩
      ∧ Effects notices notices (if s.losesSync then StickyFlag.syncLost.bit else 0)
          [.forming, .orphanRun, .intakeState] s x.1 := by
  have heq : s.startOrphan sh =
      (let s1 := s.onChecker fun k => { k with forming := some sh.orphan, orphanRun := k.orphanRun + 1 }
      if s.losesSync then (s1.enterSyncLost, ⟨.orphan, .joined, 0, .notEnded, true⟩)
      else (s1, ⟨.orphan, .joined, 0, .notEnded, false⟩)) := by
    simp only [State.losesSync, decide_eq_true_eq]
    cases sh <;> rfl
  have hopen : Effects [] [] 0 [.forming, .orphanRun, .intakeState] s
      (s.onChecker fun k => { k with forming := some sh.orphan, orphanRun := k.orphanRun + 1 }) :=
    Effects.of_changesOnly (fun b hb => by cases b <;> first | rfl | simp at hb) (by simp) (by simp)
  intro x notices
  simp only [x, notices, heq]
  cases hl : s.losesSync with
  | true =>
    refine ⟨?_, rfl, ?_⟩
    · simp [State.enterSyncLost]
    · exact hopen.after ((State.enterSyncLost_effects _).mono (by simp))
  | false => exact ⟨rfl, rfl, hopen⟩

theorem State.startSheet_orphan {sh : SheetReport} {s : State}
    (h : ∀ m, sh = .mark m → s.skippedBefore m.id = none) : s.startSheet sh = s.startOrphan sh := by
  cases sh with
  | noRead => rfl
  | mark m => simp only [State.startSheet, h m rfl]

/-! ### The sheet that ends the open collation (R34, R38) -/

/-- A collation as it ends on a sheet of another piece (R34, R38). -/
def Collation.endedByOther (c : Collation) : Collation :=
  { c with
    ended := true
    faults := if c.owner ≠ .orphan ∧ c.faults = [] then [.missingSheet] else c.faults }

/-- A record when collation `c` ends on a sheet of another piece (R28, R34). -/
def Collation.gains (c : Collation) (x : Piece) : Piece :=
  if c.owner = .piece x.id ∧ c.faults = [] then x.addCause .missingSheet else x

section
variable {c : Collation} {s : State}

theorem Collation.gains_keeps (x : Piece) : (c.gains x).id = x.id ∧ (c.gains x).state = x.state
    ∧ (c.gains x).sheets = x.sheets ∧ (c.gains x).disposition = x.disposition
    ∧ (c.gains x).cancelPending = x.cancelPending := by
  have hdisp : (x.addCause .missingSheet).disposition = x.disposition := by unfold Piece.addCause; split <;> rfl
  unfold Collation.gains
  split <;> simp [hdisp]

theorem State.endForming_values (hready : s.checker.ready = none) :
    (s.endForming c).checker = { s.checker with forming := none, ready := some c.endedByOther }
      ∧ (s.endForming c).run = { s.run with pieces := s.run.pieces.map c.gains }
      ∧ ChangesOnly [.forming, .ready, .pieces] s (s.endForming c) := by
  have hsettle (c' : Collation) (u : State) (hu : u.checker = s.checker) :
      ((u.setForming { c' with ended := true }).onChecker Checker.settleForming).checker
        = { s.checker with forming := none, ready := some { c' with ended := true } } := by
    simp only [State.setForming, State.onChecker_checker, hu]
    rw [Checker.settleForming_some rfl]
    simp [hready]
  have hchanges (c' : Collation) {u : State} (hu : ChangesOnly [.pieces] s u) :
      ChangesOnly [.forming, .ready, .pieces] s ((u.setForming c').onChecker Checker.settleForming) :=
    (hu.mono (by simp)).trans (((State.setForming_changes _ _).mono (by simp)).trans
      ((State.settleForming_changes _).mono (by simp)))
  have hkept (h : ∀ x : Piece, ¬ (c.owner = .piece x.id ∧ c.faults = [])) :
      { s.run with pieces := s.run.pieces.map c.gains } = s.run := by
    have : s.run.pieces.map c.gains = s.run.pieces := by
      rw [List.map_congr_left (g := id) fun x _ => by simp [Collation.gains, h x], List.map_id]
    rw [this]
  unfold State.endForming
  cases ho : c.owner with
  | orphan =>
    have hc : c.endedByOther = { c with ended := true } := by simp [Collation.endedByOther, ho]
    refine ⟨?_, ?_, hchanges _ (ChangesOnly.refl _ _)⟩
    · rw [hc]
      simpa only [ho] using hsettle c s rfl
    · rw [hkept (by simp [ho])]
      rfl
  | piece id =>
    by_cases hf : c.faults = []
    · have hc : c.endedByOther = { c.addFault .missingSheet with ended := true } := by
        simp [Collation.endedByOther, Collation.addFault, ho, hf]
      simp only [hf, List.isEmpty_nil, if_true]
      refine ⟨?_, ?_, hchanges _ (State.onPiece_changes _ _ _)⟩
      · rw [hc]
        exact hsettle _ _ rfl
      · have hgains : c.gains = fun x => if x.id = id then x.addCause .missingSheet else x := by
          funext x
          simp [Collation.gains, ho, hf, eq_comm]
        rw [hgains]
        exact State.onPiece_pieces (Piece.addCause .missingSheet)
    · have hc : c.endedByOther = { c with ended := true } := by simp [Collation.endedByOther, hf]
      simp only [List.isEmpty_iff, hf, if_false]
      refine ⟨?_, ?_, hchanges _ (ChangesOnly.refl _ _)⟩
      · rw [hc]
        simpa only [ho] using hsettle c s rfl
      · rw [hkept (by simp [hf])]
        rfl

/-- The LOADED records ahead are the same ones when a collation has ended. -/
theorem State.loadedAhead_endForming (hready : s.checker.ready = none) :
    (s.endForming c).loadedAhead = s.loadedAhead.map c.gains := by
  obtain ⟨hchecker, hrun, -⟩ := State.endForming_values (c := c) hready
  simp only [State.loadedAhead, hchecker, hrun, ← List.map_drop, List.filter_map]
  congr 2
  funext x
  simp [(Collation.gains_keeps x).2.1]

theorem State.judgeSheet_ends {sh : SheetReport} (hf : s.checker.forming = some c) (hopen : c.ended = false)
    (hj : sh.joins c = false) : s.judgeSheet sh =
      (((s.endForming c).startSheet sh).1, { ((s.endForming c).startSheet sh).2 with endPlace := .toReady }) := by
  simp [State.judgeSheet, Checker.openForming_some hf hopen, hj]

theorem State.judgeSheet_starts {sh : SheetReport} (hf : s.checker.forming = none) :
    s.judgeSheet sh = s.startSheet sh := by
  simp [State.judgeSheet, Checker.openForming, hf]

end

end Sys2Proof.Machine

open Sys2Proof Sys2Proof.Machine

/-- Settles O28: the start sheet belongs to no LOADED record within reach, and the orphan it opens is counted. -/
theorem startSheetOpensAnOrphan : Obligations.StartSheetOpensAnOrphan := by
  intro sh s hsh hdue hrun hintake hforming c lost notices
  have hrange : ∀ m, sh = .mark m → m.inRange = true := by
    rintro m rfl
    obtain h | ⟨m', h, hm, -⟩ := hsh
    · cases h
    · cases h
      exact hm
  have hskip : ∀ m, sh = .mark m → (s.dropFrame .track).skippedBefore m.id = none := by
    rintro m rfl
    obtain h | ⟨m', h, -, hfar⟩ := hsh
    · cases h
    · cases h
      exact State.skippedBefore_none hfar
  obtain ⟨hchecker, hdone, heff⟩ := (s.dropFrame .track).startOrphan_values sh
  obtain ⟨t, hexec, htc, -, hans, hhap⟩ := sheet_taken hdue hrange
    (State.sheetRefusal_starts (s := s.dropFrame .track) hrun hintake (Checker.waiting_none hforming) (.inl hforming))
    ((State.judgeSheet_starts (s := s.dropFrame .track) hforming).trans
      (State.startSheet_orphan (s := s.dropFrame .track) hskip)) heff (by decide)
  have hlost : (s.dropFrame .track).losesSync = lost := rfl
  rw [hdone] at hans
  rw [hchecker, hlost] at htc
  have hintake' : t.checker.intake = if lost then .syncLost else .inSync := by
    rw [htc]
    exact congrArg (fun x => if lost then IntakeState.syncLost else x) hintake
  refine ⟨t, hexec, hans, by rw [htc]; cases sh <;> rfl, by rw [htc]; rfl, hintake', fun hl => ?_, hhap⟩
  rw [hhap.outputs]
  simp [State.outputs, State.holdOutput, State.syncCondition, hintake', hl]

/-- Settles O27: the records before the expected one finish in load order, and its collation opens and is judged. -/
theorem startSheetOpensThePiece : Obligations.StartSheetOpensThePiece := by
  intro m pre post r s hrange hdue hrun hintake hforming hd hahead hid hle fault c moves add
  have hindex : 1 ≤ m.index := ((m.inRange_iff).1 hrange).2.2.2.1
  have hfault : m.fault r.sheets 0 = fault := Mark.fault_first hindex _
  have hopens : m.opens r.sheets = c := by rw [Mark.opens_eq, hfault]
  have hrange' : ∀ m', SheetReport.mark m = .mark m' → m'.inRange = true := by
    rintro _ ⟨⟩
    exact hrange
  obtain ⟨hchecker, hpieces, hdone, hchanges, hquiet⟩ :=
    State.startSheet_found (s := s.dropFrame .track) hd hahead hid hle
  have hrefusal := State.sheetRefusal_starts (sh := .mark m) (s := s.dropFrame .track) hrun hintake
    (Checker.waiting_none hforming) (.inl hforming)
  have hjudge := State.judgeSheet_starts (s := s.dropFrame .track) (sh := .mark m) hforming
  obtain ⟨t, hexec, htc, htr, hans, hch⟩ := sheet_taken_changes hdue hrange' hrefusal hjudge hchanges (by decide)
  rw [hdone, SheetDone.values_piece, EndPlace.of_code, hfault] at hans
  rw [hchecker, hopens] at htc
  rw [hpieces, hfault] at htr
  refine ⟨t, hexec, hans, by rw [htc]; rfl, by rw [htc]; rfl, by rw [htc]; rfl, by rw [htc], by rw [htr]; rfl, ?_,
    fun hpre => ⟨?_, ?_⟩, hch.mono (by decide)⟩
  · simp only [htr, List.map_map]
    refine List.map_congr_left fun x hx => ?_
    by_cases hskip : x.id ∈ pre.map Piece.id
    · have hloaded := State.loaded_of_skipped hd hahead hx hskip
      simp only [Function.comp_apply, if_pos hskip]
      rw [Piece.skippedAhead_eq (by simp [hloaded])]
      rfl
    · simp only [Function.comp_apply, if_neg hskip]
      split <;> rfl
  · rw [htr]
    exact List.map_congr_left fun x _ => by simp [hpre]; rfl
  · obtain ⟨t', hexec', -, -, -, hhap⟩ := sheet_taken hdue hrange' hrefusal hjudge
      (Effects.of_changesOnly (hquiet hpre) (by simp) (by simp)) (by decide)
    rw [hexec] at hexec'
    cases hexec'
    exact hhap

/-- Settles O29: the open collation ends and moves to the ready record, and from there the sheet starts a collation as
any start sheet does. -/
theorem sheetOfAnotherPieceEndsTheCollation : Obligations.SheetOfAnotherPieceEndsTheCollation := by
  intro m c s hrange hdue hrun hintake hforming hopen hready howner horphan ended gains add
  have hrange' : ∀ m', SheetReport.mark m = .mark m' → m'.inRange = true := by
    rintro _ ⟨⟩
    exact hrange
  have hindex : 1 ≤ m.index := ((m.inRange_iff).1 hrange).2.2.2.1
  have hjoins : (SheetReport.mark m).joins c = false := by
    cases ho : c.owner with
    | piece id => simp [SheetReport.joins, ho, howner id ho]
    | orphan => simpa [SheetReport.joins, ho, ← not_or, or_iff_not_imp_left] using horphan ho
  have hwaiting : s.checker.waiting = false := (Checker.waiting_some hforming).trans hopen
  have hrefusal := State.sheetRefusal_starts (sh := .mark m) (s := s.dropFrame .track) hrun hintake hwaiting
    (.inr hready)
  have hjudge := State.judgeSheet_ends (s := s.dropFrame .track) (sh := .mark m) hforming hopen hjoins
  obtain ⟨hendChecker, hendRun, hendChanges⟩ := State.endForming_values (s := s.dropFrame .track) (c := c) hready
  have hendAhead := State.loadedAhead_endForming (s := s.dropFrame .track) (c := c) hready
  have hgains : gains = c.gains := rfl
  have hended : ended = c.endedByOther := rfl
  set u := (s.dropFrame .track).endForming c with hu
  have hprofile : u.profile = s.profile := by simp [hu]
  have hids : u.run.pieces.map Piece.id = s.run.pieces.map Piece.id := by
    rw [hendRun, List.map_map]
    exact List.map_congr_left fun x _ => (Collation.gains_keeps x).1
  refine ⟨fun pre post r hd hahead hid hle => ?_, ?_⟩
  · intro fault
    have hfault : m.fault r.sheets 0 = fault := Mark.fault_first hindex _
    have hud : PiecesDistinct u := by rwa [PiecesDistinct, hids]
    have huahead : u.loadedAhead = pre.map c.gains ++ c.gains r :: post.map c.gains := by
      rw [hendAhead]
      exact (congrArg (List.map c.gains) hahead).trans (by simp)
    have hpreids : (pre.map c.gains).map Piece.id = pre.map Piece.id := by
      rw [List.map_map]
      exact List.map_congr_left fun x _ => (Collation.gains_keeps x).1
    obtain ⟨hchecker, hpieces, hdone, hchanges, hquiet⟩ := State.startSheet_found (m := m) hud huahead
      ((Collation.gains_keeps r).1.trans hid) (by rw [List.length_map, hprofile]; exact hle)
    rw [(Collation.gains_keeps r).2.2.1, hfault] at hdone
    rw [(Collation.gains_keeps r).2.2.1, Mark.opens_eq, hfault, hendChecker] at hchecker
    rw [(Collation.gains_keeps r).2.2.1, hfault, hpreids, hendRun] at hpieces
    obtain ⟨t, hexec, htc, htr, hans, hch⟩ := sheet_taken_changes hdue hrange' hrefusal hjudge
      ((hendChanges.mono (by decide)).trans hchanges) (by decide)
    rw [hdone, List.length_map, SheetDone.values_piece] at hans
    rw [hchecker] at htc
    rw [hpieces] at htr
    have hpos : u.position m.id = s.position m.id := State.position_congr (by
      simp only [RunTable.roll, hids]
      simp [hendRun]) _
    have hown (x : Piece) (hx : x.id = m.id) : c.gains x = x := by
      refine if_neg fun h => howner _ h.1 hx.symm
    refine ⟨t, hexec, hans, by rw [htc]; simp [hended], by rw [htc]; simp, by rw [htc]; exact congrArg (· + 1) hpos,
      by rw [htc], by rw [htr]; rfl, ?_, fun hpre => ⟨?_, ?_⟩, hch.mono (by decide)⟩
    · simp only [htr, List.map_map]
      refine List.map_congr_left fun x hx => ?_
      obtain ⟨hgid, hgstate, -, hgdisp, hgcancel⟩ := Collation.gains_keeps (c := c) x
      by_cases hskip : x.id ∈ pre.map Piece.id
      · have hloaded : x.state = .loaded := State.loaded_of_skipped (s := s) hd hahead hx hskip
        simp only [Function.comp_apply, hgid, if_pos hskip]
        rw [Piece.skippedAhead_eq (by simp [hgstate, hloaded])]
        simp only [hgid, hgcancel]
        rfl
      · by_cases hm : x.id = m.id
        · simp only [Function.comp_apply, if_neg hskip, if_pos hm, hown x hm]
          rfl
        · simp only [Function.comp_apply, hgid, if_neg hskip, if_neg hm, hgstate, hgdisp]
          rfl
    · rw [htr]
      simp only [List.map_map]
      refine List.map_congr_left fun x _ => ?_
      by_cases hm : x.id = m.id
      · simp only [Function.comp_apply, hown x hm, if_pos hm, hpre, List.map_nil, List.not_mem_nil, if_false]
        rfl
      · simp only [Function.comp_apply, (Collation.gains_keeps x).1, hpre, hm, List.map_nil, List.not_mem_nil, if_false]
        rfl
    · obtain ⟨t', hexec', -, -, -, hhap⟩ := sheet_taken hdue hrange' hrefusal hjudge
        (Effects.of_changesOnly ((hendChanges.mono (by decide)).trans (hquiet (by simp [hpre]))) (by simp) (by simp))
        (by decide)
      rw [hexec] at hexec'
      cases hexec'
      exact hhap
  · intro hfar lost notices
    have hskip : ∀ m', SheetReport.mark m = .mark m' → u.skippedBefore m'.id = none := by
      rintro _ ⟨⟩
      refine State.skippedBefore_none fun pre r post hsplit hr => ?_
      rw [hendAhead, List.map_eq_append_iff] at hsplit
      obtain ⟨pre', l, hl, rfl, hcons⟩ := hsplit
      obtain ⟨r', post', rfl, rfl, rfl⟩ := List.map_eq_cons_iff.1 hcons
      rw [hprofile, List.length_map]
      exact hfar pre' r' post' hl ((Collation.gains_keeps r').1.symm.trans hr)
    obtain ⟨hchecker, hdone, heff⟩ := u.startOrphan_values (.mark m)
    have hlost : u.losesSync = lost := by simp [State.losesSync, hendChecker, hprofile, lost]
    rw [hlost] at hchecker hdone heff
    rw [State.startSheet_orphan hskip] at hjudge
    obtain ⟨t, hexec, htc, htr, hans, hhap⟩ := sheet_taken hdue hrange' hrefusal hjudge
      (((Effects.of_changesOnly hendChanges (by simp) (by simp)).mono (by decide)).after
        (heff.mono (cs := [.forming, .ready, .orphanRun, .intakeState, .pieces]) (by decide))) (by decide)
    rw [hdone] at hans
    rw [hchecker, hendChecker] at htc
    refine ⟨t, hexec, hans, by rw [htc]; simp [hended], by rw [htc]; rfl, by rw [htc]; rfl, ?_, ?_, hhap⟩
    · rw [htc]
      exact congrArg (fun x => if lost then IntakeState.syncLost else x) hintake
    · rw [htr, (u.startOrphan_frame (.mark m)).1 , hendRun]
      rfl
end

section
/-! STATUS and its reports (R51, R112, R160, R188). -/

namespace Sys2Proof.Machine

section
variable {p : Port} {s : State}

/-- A report is the same before and after the frame that asks for it leaves the intake. -/
theorem State.report_dropFrame (p : Port) (r : Report) (s : State) : (s.dropFrame p).report p r = s.report p r := by
  cases p <;> cases r <;> rfl

theorem reportOf_code (r : Report) : reportOf (byteAt (toBytes 1 r.code) 0) = some r := by cases r <;> rfl

theorem reportOf_high {n : Nat} (h : 4 ≤ n) : reportOf n = none := by
  obtain ⟨k, rfl⟩ := Nat.exists_eq_add_of_le' h
  rfl

/-- The number of records in a state, as the length of the list of them. -/
theorem State.countPieces_eq (s : State) (st : PieceState) :
    s.countPieces st = (s.run.pieces.filter fun x => x.state == st).length :=
  List.countP_eq_length_filter

/-- The expected piece is the first LOADED record at or after the cursor (R27). -/
theorem State.expectedPiece_eq (s : State) :
    s.expectedPiece = (s.run.pieces.drop s.checker.cursor).find? fun x => x.state == .loaded := by
  simp [State.expectedPiece, State.loadedAhead]

/-- A STATUS that names a report is answered with it, and changes nothing (R188). -/
theorem status_reports {pl : List Byte} {r : Report} (hdue : Due .status p pl s) (hlen : pl.length ≤ 1)
    (hr : (s.dropFrame p).reportAsked p pl = some r) :
    ∃ t, exec (.status p) s = .next t ∧ Answered p .status .done (s.report p r) s t
      ∧ Happened [] [] 0 (requestBlocks p) s t := by
  refine exec_due_unchanged (k := .status) (r := done (s.report p r)) hdue rfl
    (by simpa [RequestKind.lengthAllowed] using hlen) ?_
  simp only [RequestKind.body, statusBody, hr, State.report_dropFrame]

end

end Sys2Proof.Machine

open Sys2Proof Sys2Proof.Machine

/-- Settles O16: the payload names a report, and each report is laid out as its rule has it. -/
theorem statusReturnsAReport : Obligations.StatusReturnsAReport := by
  refine ⟨fun p s => ⟨fun hdue => status_reports hdue (by simp) rfl,
    fun r hdue => status_reports hdue (by simp) (reportOf_code r), fun b hb hdue => ?_⟩, fun p s => ?_⟩
  · have hnone : (s.dropFrame p).reportAsked p [b] = none := reportOf_high hb
    refine exec_due_unchanged (k := .status) (r := refuse .badArg) hdue rfl rfl ?_
    simp only [RequestKind.body, statusBody, hnone]
  · intro number owner record
    have howner (o : Option Owner) : ownerV o = owner o := by
      rcases o with _ | _ | _ <;> rfl
    have hrecord (n : Nat) (c : Option Collation) : collationV n c = record n c := by
      cases c with
      | none => rfl
      | some c => simp only [collationV, howner, record]
    refine ⟨?_, rfl, ?_, ?_⟩
    · simp only [State.report, State.runReport, State.countPieces_eq]
      rfl
    · have hparts : s.report p .track =
          record (if s.checker.waiting then 2 else 1) s.checker.forming ++ record 3 s.checker.ready
            ++ owner (s.expectedPiece.map fun x => .piece x.id)
            ++ ([.code .orphanRun s.checker.orphanRun, byteV s.profile.limits.orphanLimit,
                  .code .intakeState (if s.checker.intake == .syncLost then 1 else 0),
                  .code .releaseHold s.checker.releaseHold.rank]
              ++ [.code .count s.track.entries.length, .code .allocator s.track.allocator])
            ++ s.track.entries.flatMap s.trackEntryV := by
        simp only [State.report, State.trackReport, State.checkerReport, hrecord, howner, List.append_assoc]
      rw [hparts, State.expectedPiece_eq]
      refine congrArg₂ (· ++ ·) (congrArg₂ (· ++ ·) rfl ?_) ?_
      · cases s.checker.intake <;> cases s.checker.releaseHold <;> rfl
      · refine congrArg (s.track.entries.flatMap ·) (funext fun e => ?_)
        obtain ⟨tag, piece, stage, stalled, decision⟩ := e
        rcases decision with _ | _ | _ <;> rfl
    · simp only [State.report, State.binsReport]
      cases s.bins.stall <;> rfl
end

section
/-! RELEASE for a clean collation: FOLD, the two HOLD verdicts, and NOTHING_READY (R43 to R48, R65, R87, R101). -/

namespace Sys2Proof.Machine

section
variable {c : Collation} {r : Piece} {s : State}

/-- A clean collation of a piece without cancel-pending is judged by the feeders and the track (R45, R46). -/
theorem State.releaseVerdict_clean (h : c.owner = .piece r.id) (hr : s.piece? r.id = some r) (hended : c.ended = true)
    (hfaults : c.faults = []) (hall : ∀ i, 1 ≤ i → i ≤ r.sheets → i ∈ c.accepted) (hcancel : r.cancelPending = false) :
    s.releaseVerdict c = s.releaseClean r c.joined := by
  have hc : c.clean r.sheets = true := (Collation.clean_iff h).2 ⟨hended, hfaults, hall⟩
  simp only [State.releaseVerdict, h, hr]
  exact if_neg (by simp [hc, hcancel])

theorem State.releaseClean_hold (joined : Nat) (hu : s.unavailable r ≠ []) (hp : s.profile.limits.feederPolicy = .hold) :
    s.releaseClean r joined = (s.setHold .feeder, .hold .feeder (s.unavailable r)) := by
  rw [State.releaseClean, if_pos (by simpa using hu)]
  simp only [hp]

theorem State.releaseClean_full (joined : Nat) (hu : s.unavailable r = []) (ht : 32 ≤ s.track.entries.length) :
    s.releaseClean r joined = (s.setHold .trackFull, .hold .trackFull []) := by
  rw [State.releaseClean, if_neg (by simp [hu]), if_pos ht]

theorem State.releaseClean_fold (joined : Nat) (hu : s.unavailable r = []) (ht : s.track.entries.length < 32) :
    s.releaseClean r joined
      = (s.foldPiece r, .fold s.track.nextTag r.planned.panels ((s.pullSet r).map Prod.fst)) := by
  rw [State.releaseClean, if_neg (by simp [hu]), if_neg (by omega)]

/-- The pull list of a FOLD verdict (R87). -/
def State.foldPulls (s : State) (r : Piece) : List PullEntry :=
  (s.pullSet r).map fun x => ⟨x.1, x.2, .pending, .release⟩

/-- Every entry of a new pull list is PENDING, and is counted once (R61, R65). -/
theorem State.pulledValues_foldPulls (s : State) (r : Piece) (f : Profile) :
    f.pulledValues (s.foldPulls r) = (s.pullSet r).map fun x => f.insertValues x.1 := by
  unfold State.foldPulls Profile.pulledValues
  induction s.pullSet r with
  | nil => rfl
  | cons x xs ih => simpa using ih

/-- The record of a piece given FOLD (R46). -/
def State.folded (s : State) (r x : Piece) : Piece :=
  { x with
    pulls := s.foldPulls r
    skipped := s.skippedCodes r
    expected := some
      (makeUpMass r.sheets (nth s.sheetMass r.stock) ((s.pullSet r).map fun x => s.profile.insertValues x.1)
          s.profile.envelope,
        makeUpThickness r.sheets (nth s.profile.stocks r.stock).caliper r.planned.panels
          ((s.pullSet r).map fun x => s.profile.insertValues x.1) s.profile.envelope)
    state := .onTrack
    tag := some s.track.nextTag }

/-- A FOLD verdict before the ready record empties. -/
def State.foldEntry (r : Piece) (s : State) : State :=
  (s.onTrack fun q => { q with
    entries := q.entries ++ [⟨s.track.nextTag, r.id, .released, false, none⟩]
    allocator := if s.track.nextTag = 63 then 0 else s.track.nextTag + 1 }).onPiece r.id (s.folded r)

theorem State.foldPiece_eq (s : State) (r : Piece) : s.foldPiece r = (s.foldEntry r).emptyReady := by
  have hexpected : s.expectedOver { r with pulls := s.foldPulls r, skipped := s.skippedCodes r }
      = (makeUpMass r.sheets (nth s.sheetMass r.stock) ((s.pullSet r).map fun x => s.profile.insertValues x.1)
          s.profile.envelope,
        makeUpThickness r.sheets (nth s.profile.stocks r.stock).caliper r.planned.panels
          ((s.pullSet r).map fun x => s.profile.insertValues x.1) s.profile.envelope) := by
    simp only [State.expectedOver, State.makeUpOver, State.pulledValues_foldPulls, State.stockOfPiece]
  have hpiece : s.folded r = fun x => { x with
      pulls := s.foldPulls r
      skipped := s.skippedCodes r
      expected := some (s.expectedOver { r with pulls := s.foldPulls r, skipped := s.skippedCodes r })
      state := .onTrack
      tag := some s.track.nextTag } := by
    funext x
    rw [hexpected]
    rfl
  unfold State.foldPiece State.foldEntry
  rw [hpiece]
  simp only [beq_iff_eq]
  rfl

/-- The entry on the track keeps a draining run from closing: the ready record empties, and that is all (R4, R47). -/
theorem State.foldPiece_unready (s : State) (r : Piece) : s.foldPiece r = (s.foldEntry r).unready := by
  have hline : ¬ ((s.foldEntry r).unready.run.runState = .draining ∧ (s.foldEntry r).unready.lineEmpty = true) := by
    rw [State.lineEmpty_iff]
    rintro ⟨-, -, -, h⟩
    exact absurd h (by simp [State.unready, State.foldEntry, State.onPiece])
  rw [State.foldPiece_eq, State.emptyReady_eq, State.drainTest_stays hline]

theorem State.foldPiece_effects (s : State) (r : Piece) :
    Effects [] [] 0 [.entries, .allocator, .pieces, .ready, .forming, .releaseHold] s (s.foldPiece r) := by
  rw [State.foldPiece_unready]
  refine Effects.of_changesOnly ?_ (by simp) (by simp)
  refine ChangesOnly.trans (fun b hb => ?_) ((State.unready_changes (s.foldEntry r)).mono (by decide))
  cases b <;> first | rfl | simp at hb

theorem State.setHold_effects (h : ReleaseHold) (s : State) : Effects [] [] 0 [.releaseHold] s (s.setHold h) :=
  Effects.of_changesOnly (fun b hb => by cases b <;> first | rfl | simp at hb) (by simp) (by simp)

/-- A RELEASE of the ready record whose verdict leaves every bin as it was. -/
theorem release_verdict {flush : Bool} {bs : List Block} {x : State × Verdict}
    (hdue : Due .release .track (toBytes 1 (yesNo flush)) s) (hready : s.checker.ready = some c)
    (hv : (s.dropFrame .track).releaseVerdict c = x) (he : Effects [] [] 0 bs (s.dropFrame .track) x.1)
    (hbs : .intake .track ∉ bs ∧ .responses .track ∉ bs ∧ .bins ∉ bs) :
    ∃ t, exec (.release .track) s = .next t ∧ t.checker = x.1.checker ∧ t.run = x.1.run ∧ t.track = x.1.track
      ∧ Answered .track .release .done x.2.values s t ∧ Happened [] [] 0 (requestBlocks .track ++ bs) s t := by
  obtain ⟨hintake, hresponses, hbins⟩ := hbs
  have hb : RequestKind.release.body .track (toBytes 1 (yesNo flush)) (s.dropFrame .track) = (x.1, done x.2.values) := by
    have htable : x.1.bins.table = (s.dropFrame .track).bins.table := he.frame .bins (by simpa using hbins)
    have hready' : (s.dropFrame .track).checker.ready = some c := hready
    have := releaseBody_ready (flush := flush) hready'
    rwa [hv, State.afterEvent_of_same_bins htable] at this
  obtain ⟨hexec, hans, hhap⟩ := exec_due_effects (k := .release) hdue rfl rfl hb he ⟨hintake, hresponses⟩
  exact ⟨_, hexec, rfl, rfl, rfl, hans, hhap⟩

/-- With an empty ready record, and no flush or nothing open to flush, nothing is ready (R43). -/
theorem releaseBody_nothingReady {flush : Bool} (hready : s.checker.ready = none)
    (h : flush = false ∨ ∀ c, s.checker.forming = some c → c.ended = true) :
    releaseBody (toBytes 1 (yesNo flush)) s = (s, refuse .nothingReady) := by
  simp only [releaseBody, yesNoAt_toBytes, hready]
  rcases h with rfl | h
  · cases s.checker.openForming <;> rfl
  · rw [Checker.openForming_none h]

end

end Sys2Proof.Machine

open Sys2Proof Sys2Proof.Machine

/-- Settles O34: a HOLD verdict sets the release hold alone, and NOTHING_READY changes nothing. -/
theorem releaseHoldsOrFindsNothingReady : Obligations.ReleaseHoldsOrFindsNothingReady := by
  intro flush s hdue
  refine ⟨fun c r hready howner hr hended hfaults hall hcancel => ?_, fun hready h =>
    exec_due_unchanged (k := .release) (r := refuse .nothingReady) hdue rfl rfl
      (releaseBody_nothingReady (s := s.dropFrame .track) hready h)⟩
  have hclean := State.releaseVerdict_clean (s := s.dropFrame .track) howner hr hended hfaults hall hcancel
  have held (h : ReleaseHold) (codes : List Nat) (hh : h ≠ .free)
      (hv : (s.dropFrame .track).releaseClean r c.joined = ((s.dropFrame .track).setHold h, .hold h codes)) :
      ∃ t, exec (.release .track) s = .next t
        ∧ Answered .track .release .done (Verdict.hold h codes).values s t
        ∧ t.checker.releaseHold = h ∧ t.pins.hold = true
        ∧ Happened [] [] 0 (requestBlocks .track ++ [.releaseHold]) s t := by
    obtain ⟨t, hexec, htc, -, -, hans, hhap⟩ := release_verdict hdue hready (hclean.trans hv)
      (State.setHold_effects _ _) (by decide)
    have hhold : t.checker.releaseHold = h := by rw [htc]; rfl
    refine ⟨t, hexec, hans, hhold, ?_, hhap⟩
    rw [hhap.outputs]
    simp [State.outputs, State.holdOutput, State.releaseCondition, hhold, hh]
  exact ⟨fun hu hp => held .feeder _ (by decide) (State.releaseClean_hold _ hu hp),
    fun hu ht => held .trackFull _ (by decide) (State.releaseClean_full _ hu ht)⟩

/-- Settles O31: the entry joins the track, which keeps a draining run open, and the ready record empties. -/
theorem releaseFoldsACleanCollation : Obligations.ReleaseFoldsACleanCollation := by
  intro flush c r s hdue hready howner hr hended hfaults hall hcancel hu ht tag waits pulls
  have hverdict := (State.releaseVerdict_clean (s := s.dropFrame .track) howner hr hended hfaults hall hcancel).trans
    (State.releaseClean_fold c.joined hu ht)
  obtain ⟨t, hexec, htc, htr, htt, hans, hhap⟩ := release_verdict hdue hready hverdict
    (State.foldPiece_effects _ _) (by decide)
  rw [State.foldPiece_unready] at htc htr htt
  have hanswer : (Verdict.fold tag r.planned.panels ((s.pullSet r).map Prod.fst)).values
      = [.code .releaseVerdict 0, byteV tag, byteV r.planned.panels, .code .listLength (s.pullSet r).length]
        ++ (s.pullSet r).map fun x => byteV x.1 := by
    simp [Verdict.values, byteListV]
  refine ⟨t, hexec, hanswer ▸ hans, by rw [htt]; rfl, by rw [htt]; rfl, ?_, by rw [htc]; rfl, by rw [htc]; rfl,
    by rw [htc]; rfl, hhap⟩
  rw [htr]
  exact congrArg RunTable.pieces (State.onPiece_pieces (s := s) (id := r.id) (s.folded r))
end

section
/-! A feeder's state derived again while a FEEDER hold may be outstanding (R48, R81), and PULL_RESULT (R88 to R93). -/

namespace Sys2Proof.Machine

/-! ### The test of a FEEDER hold (R48) -/

/-- Whether the condition of a FEEDER hold has cleared (R48). -/
def State.holdClears (s : State) : Bool :=
  s.readyPiece.elim false fun r => (s.unavailable r).isEmpty || s.profile.limits.feederPolicy == .divert

theorem feederHoldLifts_eq (s t : State) :
    feederHoldLifts s t = (s.checker.releaseHold == .feeder && t.holdClears) := by
  unfold feederHoldLifts State.holdClears
  cases t.readyPiece <;> rfl

theorem State.testFeederHold_eq (s : State) :
    s.testFeederHold = if feederHoldLifts s s then s.clearHold else s := by
  rw [feederHoldLifts_eq]
  unfold State.testFeederHold State.holdClears
  cases s.readyPiece <;> cases hh : s.checker.releaseHold == .feeder <;> simp

section
variable {s t u : State}

theorem State.findFeeder_congr (hf : ∀ k, t.feeder k = u.feeder k) (hp : ∀ k, t.profile.feeder k = u.profile.feeder k)
    (after code : Nat) (ok : Nat → Bool) : t.findFeeder after code ok = u.findFeeder after code ok := by
  simp only [State.findFeeder, State.usable, Profile.carries, hf, hp]

/-- The codes without a usable feeder depend on the insert list, the feeders and their settings (R45). -/
theorem State.unavailable_congr {r r' : Piece} (hf : ∀ k, t.feeder k = u.feeder k)
    (hp : ∀ k, t.profile.feeder k = u.profile.feeder k) (hi : r.inserts = r'.inserts) :
    t.unavailable r = u.unavailable r' := by
  simp only [State.unavailable, hi, State.findFeeder_congr hf hp]

/-- The condition of a FEEDER hold reads the insert list of the held piece, the feeders and the settings. -/
theorem State.holdClears_congr (hr : t.readyPiece.map Piece.inserts = u.readyPiece.map Piece.inserts)
    (hf : t.feeders = u.feeders) (hp : t.profile = u.profile) : t.holdClears = u.holdClears := by
  have hf' (k : Nat) : t.feeder k = u.feeder k := by simp [State.feeder, hf]
  unfold State.holdClears
  cases ht : t.readyPiece with
  | none =>
    have hu : u.readyPiece = none := by simpa [ht, eq_comm] using hr
    rw [hu]
    rfl
  | some r =>
    obtain ⟨r', hu, hi⟩ := Option.map_eq_some_iff.1 (hr.symm.trans (congrArg _ ht))
    rw [hu, Option.elim_some, Option.elim_some, State.unavailable_congr hf' (fun k => by rw [hp]) hi.symm, hp]

/-- The record of the held piece after changes of records that keep numbers and insert lists. -/
theorem State.readyPiece_inserts {g : Piece → Piece} (hg : ∀ x, (g x).id = x.id) (hi : ∀ x, (g x).inserts = x.inserts)
    (hready : t.checker.ready = u.checker.ready) (hrun : t.run.pieces = u.run.pieces.map g) :
    t.readyPiece.map Piece.inserts = u.readyPiece.map Piece.inserts := by
  unfold State.readyPiece
  rw [hready]
  cases u.checker.ready with
  | none => rfl
  | some c =>
    cases hc : c.owner with
    | orphan => simp only [hc]
    | piece id =>
      simp only [hc, State.piece?_of_map hg hrun, Option.map_map]
      cases u.piece? id <;> simp [hi]

theorem State.readyPiece_congr (hready : t.checker.ready = u.checker.ready) (hrun : t.run = u.run) :
    t.readyPiece = u.readyPiece := by
  simp only [State.readyPiece, State.piece?, hready, hrun]

/-! ### A feeder's state derived again (R81) -/

/-- The notices of a derivation depend on the feeder before and after it. -/
theorem feederNotices_of {k : Nat} {v : State} (hs : (s.feeder k).state = (u.feeder k).state)
    (ht : t.feeder k = v.feeder k) : feederNotices k s t = feederNotices k u v := by
  simp only [feederNotices, hs, ht]

/-- Whether a derivation lifts a hold depends on the feeder before and after it, the hold and its condition. -/
theorem feederLifts_of {k : Nat} {v : State} (hs : (s.feeder k).state = (u.feeder k).state)
    (ht : t.feeder k = v.feeder k) (hh : s.checker.releaseHold = u.checker.releaseHold)
    (hc : t.holdClears = v.holdClears) : feederLifts k s t = feederLifts k u v := by
  simp only [feederLifts, feederHoldLifts_eq, hs, ht, hh, hc]

theorem feederNotices_of_same {k : Nat} (h : (t.feeder k).state = (s.feeder k).state) : feederNotices k s t = [] := by
  simp [feederNotices, h]

theorem feederLifts_of_same {k : Nat} (h : (t.feeder k).state = (s.feeder k).state) : feederLifts k s t = false := by
  simp [feederLifts, h]

theorem State.onFeeder_changes (k : Nat) (f : Feeder → Feeder) (s : State) :
    ChangesOnly [.feeders] s (s.onFeeder k f) := by
  intro b hb
  cases b <;> first | rfl | simp at hb

/-- Deriving the state of one feeder again: the state, FEEDER_STATE to both ports on a change, and the hold it lifts. -/
theorem State.derive_values {k : Nat} (hk : k ∈ feederNumbers) (s : State) :
    let t := s.derive k
    t.feeder k = { s.feeder k with state := s.derivedFeederState k }
      ∧ (∀ j ∈ feederNumbers, j ≠ k → t.feeder j = s.feeder j)
      ∧ t.checker = { s.checker with releaseHold := holdAfter (feederLifts k s t) s }
      ∧ Effects (feederNotices k s t ++ holdNotices (feederLifts k s t)) (feederNotices k s t) 0
          [.feeders, .releaseHold] s t := by
  intro t
  by_cases hst : (s.feeder k).state = s.derivedFeederState k
  · have ht : t = s := by simp [t, State.derive, hst]
    have hlifts : feederLifts k s t = false := feederLifts_of_same (by rw [ht])
    have hnotices : feederNotices k s t = [] := feederNotices_of_same (by rw [ht])
    rw [hlifts, hnotices, ht]
    refine ⟨?_, fun _ _ _ => rfl, rfl, Effects.refl _ _⟩
    rw [← hst]
  · set st := s.derivedFeederState k
    let u := s.onFeeder k fun f => { f with state := st }
    let v := u.notifyBoth (.feederState k st (s.feeder k).missRun)
    have ht : t = v.testFeederHold := by simp [t, u, v, State.derive, hst, st]
    have hfeeders : t.feeders = v.feeders := by simp [ht]
    have hvk : v.feeder k = { s.feeder k with state := st } :=
      (State.feeder_congr u (by simp [v])).trans (s.onFeeder_feeder _)
    have htk : t.feeder k = { s.feeder k with state := st } := (State.feeder_congr v hfeeders).trans hvk
    have hvc : v.checker = s.checker := by simp [u, v]
    have hsame : t.holdClears = v.holdClears := by
      refine State.holdClears_congr (congrArg _ (State.readyPiece_congr ?_ (by simp [ht]))) hfeeders (by simp [ht])
      rw [ht, State.testFeederHold_eq]
      split
      · simp [State.clearHold]
      · rfl
    have hlifts : feederLifts k s t = feederHoldLifts v v := by
      have hne : st ≠ (s.feeder k).state := fun h => hst h.symm
      simp [feederLifts, feederHoldLifts_eq, hsame, htk, hvc, hne]
    have hnotices : feederNotices k s t = [.feederState k st (s.feeder k).missRun] := by
      have hne : st ≠ (s.feeder k).state := fun h => hst h.symm
      simp [feederNotices, htk, hne]
    have hv : Effects [.feederState k st (s.feeder k).missRun] [.feederState k st (s.feeder k).missRun] 0
        [.feeders, .releaseHold] s v :=
      Effects.after (Effects.of_changesOnly ((State.onFeeder_changes _ _ _).mono (by simp)) (by simp) (by simp))
        ((State.notifyBoth_effects _ _).mono (by simp))
    refine ⟨htk, fun j hj hne => ?_, ?_, ?_⟩
    · rw [State.feeder_congr v hfeeders]
      exact (State.feeder_congr u (by simp [v])).trans (s.onFeeder_feeder_ne _ hk hj hne)
    · rw [hlifts, ht, State.testFeederHold_eq]
      cases feederHoldLifts v v <;> simp [holdAfter, State.clearHold, hvc]
    · rw [hlifts, hnotices, ht, State.testFeederHold_eq]
      cases feederHoldLifts v v with
      | false => simpa [holdNotices] using hv
      | true => exact (hv.trans (State.clearHold_effects.mono (by simp))).congr rfl (by simp) (by simp)

end

/-! ### The result of a pull (R88 to R91) -/

section
variable {k : Nat} {res : PullResult} {e : TrackEntry} {pull : PullEntry} {r : Piece} {s : State}

/-- A PULL_RESULT that names an entry at FOLDED and a PENDING pull of its piece is taken (R88). -/
theorem pullResultBody_taken {n : Nat} (hk : 1 ≤ k ∧ k ≤ 8) (ht : e.tag ≤ 63) (hn : n ≤ 255)
    (hres : pullResultOf n = some res) (he : s.entry? e.tag = some e) (hstage : e.stage = .folded)
    (hr : s.piece? e.piece = some r) (hp : r.pendingPull k = some pull) :
    pullResultBody (toBytes 1 e.tag ++ toBytes 1 k ++ toBytes 1 n) s
      = ((s.pullReport e.piece pull res).1,
          done (State.pullAnswer s (s.pullReport e.piece pull res).1 e.piece k res
            (s.pullReport e.piece pull res).2)) := by
  have htag : byteAt (toBytes 1 e.tag ++ toBytes 1 k ++ toBytes 1 n) 0 = e.tag :=
    (byteAt_toBytes_one _).trans (Nat.mod_eq_of_lt (by omega))
  have hfeeder : byteAt (toBytes 1 e.tag ++ toBytes 1 k ++ toBytes 1 n) 1 = k :=
    (byteAt_toBytes_one _).trans (Nat.mod_eq_of_lt (by omega))
  have hresult : byteAt (toBytes 1 e.tag ++ toBytes 1 k ++ toBytes 1 n) 2 = n :=
    (byteAt_toBytes_one _).trans (Nat.mod_eq_of_lt (by omega))
  have hrange : ¬ (63 < e.tag ∨ k = 0 ∨ 8 < k) := by omega
  simp only [pullResultBody, htag, hfeeder, hresult, hres, if_neg hrange, he, hr, Option.bind_some, hp,
    Option.filter_some, hstage, beq_self_eq_true, if_true]

theorem Piece.setPull_eq (k : Nat) (res : PullResult) : Piece.setPull k res = fun y => { y with
    pulls := y.pulls.map fun p => if p.feeder = k ∧ p.result = .pending then { p with result := res } else p } := by
  funext y
  simp [Piece.setPull]

@[simp] theorem Piece.setPull_keeps (k : Nat) (res : PullResult) (x : Piece) :
    (x.setPull k res).inserts = x.inserts ∧ (x.setPull k res).state = x.state
      ∧ (x.setPull k res).faults = x.faults := ⟨rfl, rfl, rfl⟩

@[simp] theorem Piece.addCause_inserts (c : Cause) (x : Piece) : (x.addCause c).inserts = x.inserts := by
  unfold Piece.addCause; split <;> rfl

@[simp] theorem Piece.addSkipped_inserts (c : Nat) (x : Piece) : (x.addSkipped c).inserts = x.inserts := by
  unfold Piece.addSkipped; split <;> rfl

/-- No cause is new in a record whose fault set is as it was. -/
theorem newCauses_same {x : Piece} (h : x.faults = r.faults) : newCauses (some r) (some x) = [] := by
  simp [newCauses, h]

/-- A cause added is new when the record did not hold it (R8). -/
theorem newCauses_addCause {x : Piece} (c : Cause) (h : x.faults = r.faults) (hx : x.state ≠ .finished) :
    newCauses (some r) (some (x.addCause c)) = if c ∈ r.faults then [] else [c] := by
  rw [Piece.addCause_eq hx, newCauses, h]
  by_cases hc : c ∈ r.faults
  · simp [hc]
  · simp only [Option.elim_some, hc, if_false, List.filter_append]
    simp [hc, List.filter_eq_nil_iff]

end

/-- A derivation between changes that send nothing and leave the feeder's state and the hold alone. -/
theorem derive_between {k : Nat} {s u t : State} {bs : List Block} (hk : k ∈ feederNumbers)
    (hbs : ∀ b ∈ [Block.feeders, .releaseHold], b ∈ bs)
    (hsu : Effects [] [] 0 bs s u) (hstate : (s.feeder k).state = (u.feeder k).state)
    (hhold : s.checker.releaseHold = u.checker.releaseHold)
    (hut : Effects [] [] 0 bs (u.derive k) t) (hfeeders : t.feeders = (u.derive k).feeders)
    (hchecker : t.checker = (u.derive k).checker) (hclears : t.holdClears = (u.derive k).holdClears) :
    t.checker.releaseHold = holdAfter (feederLifts k s t) s
      ∧ Effects (feederNotices k s t ++ holdNotices (feederLifts k s t)) (feederNotices k s t) 0 bs s t := by
  have hfeeder : t.feeder k = (u.derive k).feeder k := State.feeder_congr _ hfeeders
  have hnotices : feederNotices k s t = feederNotices k u (u.derive k) := feederNotices_of hstate hfeeder
  have hlifts : feederLifts k s t = feederLifts k u (u.derive k) := feederLifts_of hstate hfeeder hhold hclears
  obtain ⟨-, -, hderived, heff⟩ := State.derive_values hk u
  rw [hnotices, hlifts]
  refine ⟨?_, (hsu.after (heff.mono hbs)).before hut⟩
  rw [hchecker, hderived]
  simp only [holdAfter, hhold]

/-! ### TAKEN and DOUBLE (R89) -/

/-- The record of a piece after a delivered pull (R89). -/
def Piece.withDelivered (k : Nat) (res : PullResult) (y : Piece) : Piece :=
  if res = .double then (y.setPull k res).addCause .doubleInsert else y.setPull k res

theorem Piece.withDelivered_keeps (k : Nat) (res : PullResult) (y : Piece) :
    (y.withDelivered k res).id = y.id ∧ (y.withDelivered k res).inserts = y.inserts := by
  unfold Piece.withDelivered
  split <;> simp

/-- The feeder after a delivered pull, its state not derived again yet (R84, R89). -/
def Feeder.counted (res : PullResult) (f : Feeder) : Feeder :=
  { f with takenCount := min (f.takenCount + if res = .double then 2 else 1) takenCeiling, missRun := 0 }

/-- DOUBLE adds DOUBLE_INSERT (R89). -/
def State.gainDouble (id : PieceId) (res : PullResult) (s : State) : State :=
  if res = .double then s.addCause id .doubleInsert else s

section
variable {k : Nat} {res : PullResult} {id : PieceId} {s : State}

theorem State.pullDelivered_eq : s.pullDelivered id k res =
    (if (s.feeder k).missRun = 0 then (s.onPiece id (Piece.setPull k res)).onFeeder k (Feeder.counted res)
      else ((s.onPiece id (Piece.setPull k res)).onFeeder k (Feeder.counted res)).derive k).gainDouble id res := by
  simp only [State.pullDelivered, State.gainDouble, beq_iff_eq]
  rfl

theorem State.gainDouble_values (s : State) :
    let t := s.gainDouble id res
    t.run.pieces = s.run.pieces.map (fun y => if y.id = id ∧ res = .double then y.addCause .doubleInsert else y)
      ∧ t.feeders = s.feeders ∧ t.checker = s.checker ∧ t.profile = s.profile ∧ t.heads = s.heads
      ∧ Effects [] [] 0 [.pieces] s t := by
  unfold State.gainDouble
  by_cases hd : res = .double
  · simp only [hd, if_true, and_true]
    exact ⟨congrArg RunTable.pieces (State.onPiece_pieces (Piece.addCause .doubleInsert)), rfl, rfl, rfl, rfl,
      State.addCause_effects _⟩
  · simp only [hd, if_false, and_false, List.map_id']
    exact ⟨trivial, trivial, trivial, trivial, trivial, Effects.refl _ _⟩

/-- A delivered pull: the record, the feeder, and what its derivation sends and lifts (R89). -/
theorem State.pullDelivered_values (hk : k ∈ feederNumbers) :
    let t := s.pullDelivered id k res
    t.run.pieces = s.run.pieces.map (fun y => if y.id = id then y.withDelivered k res else y)
      ∧ t.feeder k = { (s.feeder k).counted res with
          state := if (s.feeder k).missRun = 0 then (s.feeder k).state else t.derivedFeederState k }
      ∧ (∀ j ∈ feederNumbers, j ≠ k → t.feeder j = s.feeder j)
      ∧ ((s.feeder k).missRun = 0 → Effects [] [] 0 [.feeders, .pieces] s t)
      ∧ t.checker.releaseHold = holdAfter (feederLifts k s t) s
      ∧ Effects (feederNotices k s t ++ holdNotices (feederLifts k s t)) (feederNotices k s t) 0
          [.feeders, .pieces, .releaseHold] s t := by
  intro t
  set u := (s.onPiece id (Piece.setPull k res)).onFeeder k (Feeder.counted res) with hu
  have huk : u.feeder k = (s.feeder k).counted res := State.onFeeder_feeder _ _
  have huj (j : Nat) (hj : j ∈ feederNumbers) (hne : j ≠ k) : u.feeder j = s.feeder j :=
    State.onFeeder_feeder_ne _ _ hk hj hne
  have hsu : Effects [] [] 0 [.feeders, .pieces] s u := Effects.of_changesOnly
    (((State.onPiece_changes _ _ _).mono (by simp)).trans ((State.onFeeder_changes _ _ _).mono (by simp))) (by simp)
    (by simp)
  have hpieces (v : State) (hv : v.run = u.run) : (v.gainDouble id res).run.pieces
      = s.run.pieces.map fun y => if y.id = id then y.withDelivered k res else y := by
    obtain ⟨hrun, -⟩ := State.gainDouble_values (id := id) (res := res) v
    rw [hrun, hv, hu, (State.onFeeder_frame _ _ _).1, State.onPiece_pieces]
    simp only [List.map_map]
    refine List.map_congr_left fun y _ => ?_
    by_cases hy : y.id = id <;> by_cases hd : res = .double <;> simp [Piece.withDelivered, hy, hd]
  by_cases hmiss : (s.feeder k).missRun = 0
  · have ht : t = u.gainDouble id res := by simp only [t, State.pullDelivered_eq, hmiss, if_true, hu]
    obtain ⟨-, hfeeders, hchecker, -, -, heff⟩ := State.gainDouble_values (id := id) (res := res) u
    rw [← ht] at hfeeders hchecker heff
    have htk (j : Nat) : t.feeder j = u.feeder j := State.feeder_congr _ hfeeders
    have hstate : (t.feeder k).state = (s.feeder k).state := by rw [htk, huk]; rfl
    have hall : Effects [] [] 0 [.feeders, .pieces] s t := hsu.before (heff.mono (by simp))
    rw [feederLifts_of_same hstate, feederNotices_of_same hstate]
    refine ⟨by rw [ht]; exact hpieces u rfl, ?_, fun j hj hne => (htk j).trans (huj j hj hne), fun _ => hall, ?_,
      hall.mono (by simp)⟩
    · rw [htk, huk, if_pos hmiss]
      rfl
    · rw [hchecker]
      simp [holdAfter, hu]
  · have ht : t = (u.derive k).gainDouble id res := by simp only [t, State.pullDelivered_eq, hmiss, if_false, hu]
    obtain ⟨hrun, hfeeders, hchecker, hprofile, hheads, heff⟩ :=
      State.gainDouble_values (id := id) (res := res) (u.derive k)
    rw [← ht] at hrun hfeeders hchecker hprofile hheads heff
    have htk (j : Nat) : t.feeder j = (u.derive k).feeder j := State.feeder_congr _ hfeeders
    have hclears : t.holdClears = (u.derive k).holdClears := State.holdClears_congr
      (State.readyPiece_inserts (fun y => by split <;> simp) (fun y => by split <;> simp) (by rw [hchecker]) hrun)
      hfeeders hprofile
    obtain ⟨hdk, hdj, -, -⟩ := State.derive_values hk u
    have hhold := derive_between (bs := [.feeders, .pieces, .releaseHold]) hk (by simp) (hsu.mono (by simp))
      (by rw [huk]; rfl) (by simp [hu]) (heff.mono (by simp)) hfeeders hchecker hclears
    refine ⟨by rw [ht]; exact hpieces _ (by simp), ?_, fun j hj hne => ?_, fun h => absurd h hmiss, hhold⟩
    · have hderived : t.derivedFeederState k = u.derivedFeederState k :=
        State.derivedFeederState_congr (by simp [hprofile]) (by simp [hheads]) (by rw [htk, hdk])
      rw [htk, hdk, huk, if_neg hmiss, hderived]
    · rw [htk, hdj j hj hne, huj j hj hne]

end

end Sys2Proof.Machine

open Sys2Proof Sys2Proof.Machine

/-- Settles O37: the record and the feeder take the delivery, and a miss run that was not 0 has the state derived. -/
theorem pullResultTakenCountsTheInsert : Obligations.PullResultTakenCountsTheInsert := by
  intro double k e x r s hk1 hk8 htag hdue he hstage hr hstate hx hxk hxp
  have hk : k ∈ feederNumbers := mem_feederNumbers.2 ⟨hk1, hk8⟩
  let res : PullResult := if double then .double else .taken
  have hcode : res.code = if double then 2 else 1 := by cases double <;> rfl
  have hdouble : res = .double ↔ double = true := by cases double <;> simp [res]
  obtain ⟨pull, hpull⟩ : ∃ pull, r.pendingPull k = some pull :=
    Option.isSome_iff_exists.1 (List.find?_isSome.2 ⟨x, hx, by simp [hxk, hxp]⟩)
  have hfeeder : pull.feeder = k := by
    have := List.find?_some hpull
    simp only [Bool.and_eq_true, beq_iff_eq] at this
    exact this.1
  have hreport : (s.dropFrame .track).pullReport e.piece pull res
      = ((s.dropFrame .track).pullDelivered e.piece k res, .none) := by
    rw [← hfeeder]
    cases double <;> rfl
  have hb := pullResultBody_taken (s := s.dropFrame .track) (res := res) (n := if double then 2 else 1) ⟨hk1, hk8⟩ htag
    (by cases double <;> decide) (by cases double <;> rfl) he hstage hr hpull
  rw [hreport] at hb
  obtain ⟨hpieces, hfk, hfj, hquiet, hhold, heff⟩ :=
    State.pullDelivered_values (s := s.dropFrame .track) (id := e.piece) (res := res) hk
  obtain ⟨hexec, hans, hhap⟩ := exec_due_effects (k := .pullResult) hdue rfl rfl hb heff (by decide)
  set v := (s.dropFrame .track).pullDelivered e.piece k res
  have hafter : v.piece? e.piece = some (r.withDelivered k res) := by
    rw [State.piece?_of_pieces (s := s) (fun y => (Piece.withDelivered_keeps k res y).1) hpieces, hr, Option.map_some]
  have hnew : newCauses (some r) (some (r.withDelivered k res))
      = if double ∧ Cause.doubleInsert ∉ r.faults then [.doubleInsert] else [] := by
    unfold Piece.withDelivered
    cases double with
    | true =>
      rw [if_pos (hdouble.2 rfl), newCauses_addCause _ (by rfl) (by simp [hstate])]
      by_cases hd : Cause.doubleInsert ∈ r.faults <;> simp [hd]
    | false =>
      rw [if_neg (by simp [hdouble]), newCauses_same (by rfl)]
      simp
  have hvalues : State.pullAnswer (s.dropFrame .track) v e.piece k res .none
      = [byteV k, byteV (if double then 2 else 1), byteV 0, byteV (v.feeder k).state.code, .code .pullAction 0,
          faultsV (if double ∧ Cause.doubleInsert ∉ r.faults then [.doubleInsert] else [])] := by
    have hmiss : (v.feeder k).missRun = 0 := by rw [hfk]; rfl
    have hbefore : (s.dropFrame .track).piece? e.piece = some r := hr
    rw [← hnew, State.pullAnswer, hbefore, hafter, hmiss, hcode]
    rfl
  refine ⟨_, hexec, hvalues ▸ hans, ?_, hfj, ?_, fun hmiss => ?_, hhold, hhap⟩
  · have : v.feeder k = _ := hfk
    simp only [State.answerFrame_feeder, State.answerFrame_derivedFeederState, this]
    simp only [Feeder.counted, hdouble, State.dropFrame_feeder]
    rfl
  · have hrun : v.run.pieces = _ := hpieces
    simp only [State.answerFrame_fields, hrun]
    refine List.map_congr_left fun y _ => ?_
    simp only [Piece.withDelivered, Piece.setPull_eq, hdouble, res]
  · exact (exec_due_effects (k := .pullResult) hdue rfl rfl hb (hquiet hmiss) (by decide)).2.2
end

section
/-! PULL_RESULT for a pull that did not deliver, and the substitution search (R90 to R93). -/

namespace Sys2Proof.Machine

/-! ### The substitution search (R92) -/

theorem find_feederNumbers {p : Nat → Bool} {j : Nat} (hj : j ∈ feederNumbers) (hp : p j = true)
    (hmin : ∀ i ∈ feederNumbers, i < j → p i = false) : feederNumbers.find? p = some j := by
  obtain ⟨i, hi⟩ := Option.isSome_iff_exists.1 (List.find?_isSome.2 ⟨j, hj, hp⟩)
  have hmem := List.mem_of_find?_eq_some hi
  obtain ⟨hpi, before, after, hsplit, hbefore⟩ := List.find?_eq_some_iff_append.1 hi
  have hsorted : feederNumbers.Pairwise (· < ·) := by decide
  rw [hsplit, List.pairwise_append, List.pairwise_cons] at hsorted
  obtain ⟨-, ⟨hafter, -⟩, -⟩ := hsorted
  rw [hsplit, List.mem_append, List.mem_cons] at hj
  rcases hj with hj | rfl | hj
  · have := hbefore j hj
    simp [hp] at this
  · exact hi
  · have := hmin i hmem (hafter j hj)
    simp [hpi] at this

/-- A feeder that can substitute in a record: usable, beyond the failed one, with the code, and in no entry (R92). -/
def State.substitutes (s : State) (r : Piece) (k code j : Nat) : Bool :=
  k < j && s.usable j && s.profile.carries j code && !r.pulls.any fun e => e.feeder == j

theorem State.substitutes_iff {s : State} {r : Piece} {k code j : Nat} (hcode : code ≠ 0) :
    s.substitutes r k code j = true ↔ k < j ∧ (s.feeder j).state ∈ [FeederState.ready, .low]
      ∧ (s.profile.feeder j).code = code ∧ ∀ p ∈ r.pulls, p.feeder ≠ j := by
  simp only [State.substitutes, State.usable, Profile.carries, Bool.and_eq_true, Bool.or_eq_true, beq_iff_eq, bne_iff_ne,
    decide_eq_true_eq, Bool.not_eq_true', List.any_eq_false, List.mem_cons, List.not_mem_nil, or_false]
  constructor
  · rintro ⟨⟨⟨hk, hst, -⟩, hc, -⟩, hp⟩
    exact ⟨hk, hst, hc, hp⟩
  · rintro ⟨hk, hst, hc, hp⟩
    exact ⟨⟨⟨hk, hst, hc ▸ hcode⟩, hc, hcode⟩, hp⟩

section
variable {id : PieceId} {r : Piece} {k code : Nat} {s : State}

theorem State.substitute_found {j : Nat} (hr : s.piece? id = some r) (hj : j ∈ feederNumbers)
    (hp : s.substitutes r k code j = true) (hmin : ∀ i ∈ feederNumbers, i < j → s.substitutes r k code i = false) :
    s.substitute id k code
      = (s.onPiece id fun r => { r with pulls := r.pulls ++ [⟨j, code, .pending, .substitute⟩] }, .pull j) := by
  have hfind : s.findFeeder k code (fun j => !r.pulls.any fun e => e.feeder == j) = some j :=
    find_feederNumbers hj hp hmin
  simp only [State.substitute, hr, hfind]

theorem State.substitute_none (hr : s.piece? id = some r) (hp : ∀ i ∈ feederNumbers, s.substitutes r k code i = false) :
    s.substitute id k code = if r.requires code then (s.addCause id .missingInsert, .missing code)
      else (s.onPiece id (Piece.addSkipped code), .skipped code) := by
  have hfind : s.findFeeder k code (fun j => !r.pulls.any fun e => e.feeder == j) = none :=
    List.find?_eq_none.2 fun i hi => by
      have := hp i hi
      simp only [State.substitutes] at this
      simp [this]
  simp only [State.substitute, hr, hfind]

/-- The search changes records alone, and neither their numbers nor their insert lists. -/
theorem State.substitute_map (s : State) (id : PieceId) (k code : Nat) :
    ∃ g : Piece → Piece, (∀ x, (g x).id = x.id) ∧ (∀ x, (g x).inserts = x.inserts)
      ∧ (s.substitute id k code).1.run.pieces = s.run.pieces.map g
      ∧ Effects [] [] 0 [.pieces] s (s.substitute id k code).1 := by
  have hone (f : Piece → Piece) (hid : ∀ x, (f x).id = x.id) (hins : ∀ x, (f x).inserts = x.inserts) :
      ∃ g : Piece → Piece, (∀ x, (g x).id = x.id) ∧ (∀ x, (g x).inserts = x.inserts)
        ∧ (s.onPiece id f).run.pieces = s.run.pieces.map g ∧ Effects [] [] 0 [.pieces] s (s.onPiece id f) :=
    ⟨fun x => if x.id = id then f x else x, fun x => by dsimp only; split <;> simp [hid],
      fun x => by dsimp only; split <;> simp [hins],
      congrArg RunTable.pieces (State.onPiece_pieces f),
      Effects.of_changesOnly (State.onPiece_changes _ _ _) (by simp) (by simp)⟩
  unfold State.substitute
  split
  · exact ⟨fun x => x, fun _ => rfl, fun _ => rfl, by simp, Effects.refl _ _⟩
  · split
    · exact hone _ (fun _ => rfl) (fun _ => rfl)
    · split
      · exact hone _ (by simp) (by simp)
      · exact hone _ (by simp) (by simp)

end

/-! ### MISS and PASSED (R90, R91) -/

/-- The feeder after a miss, its state not derived again yet (R90). -/
def Feeder.missed (f : Feeder) : Feeder := { f with missRun := min (f.missRun + 1) 3 }

/-- A pull that did not deliver, before the search for a substitute (R90, R91). -/
def State.pullFailed (id : PieceId) (k : Nat) (miss : Bool) (s : State) : State :=
  if miss then ((s.onPiece id (Piece.setPull k .miss)).onFeeder k Feeder.missed).derive k
  else s.onPiece id (Piece.setPull k .passed)

section
variable {id : PieceId} {k : Nat} {s : State}

theorem State.pullReport_failed (pull : PullEntry) (miss : Bool) :
    s.pullReport id pull (if miss then .miss else .passed)
      = (s.pullFailed id pull.feeder miss).substitute id pull.feeder pull.code := by
  cases miss <;> rfl

theorem State.pullFailed_frame (miss : Bool) :
    (s.pullFailed id k miss).run.pieces
        = s.run.pieces.map (fun y => if y.id = id then y.setPull k (if miss then .miss else .passed) else y)
      ∧ (s.pullFailed id k miss).profile = s.profile ∧ (s.pullFailed id k miss).heads = s.heads := by
  unfold State.pullFailed
  cases miss with
  | false => exact ⟨congrArg RunTable.pieces (State.onPiece_pieces _), rfl, rfl⟩
  | true =>
    simp only [if_true, State.derive_frame, State.onFeeder_frame]
    exact ⟨congrArg RunTable.pieces (State.onPiece_pieces _), rfl, rfl⟩

/-- A failed pull and the search after it: the feeder, and what its derivation sends and lifts (R90 to R92). -/
theorem State.pullFailed_values (hk : k ∈ feederNumbers) (miss : Bool) (code : Nat) :
    let t := ((s.pullFailed id k miss).substitute id k code).1
    t.feeder k = (if miss then { (s.feeder k).missed with state := t.derivedFeederState k } else s.feeder k)
      ∧ (∀ j ∈ feederNumbers, j ≠ k → t.feeder j = s.feeder j)
      ∧ t.checker.releaseHold = holdAfter (feederLifts k s t) s
      ∧ Effects (feederNotices k s t ++ holdNotices (feederLifts k s t)) (feederNotices k s t) 0
          [.feeders, .pieces, .releaseHold] s t := by
  intro t
  obtain ⟨g, hid, hins, hrun, heff⟩ := State.substitute_map (s.pullFailed id k miss) id k code
  have hfeeders : t.feeders = (s.pullFailed id k miss).feeders := by simp [t]
  have hchecker : t.checker = (s.pullFailed id k miss).checker := by simp [t]
  have htk (j : Nat) : t.feeder j = (s.pullFailed id k miss).feeder j := State.feeder_congr _ hfeeders
  cases miss with
  | false =>
    have hsame (j : Nat) : t.feeder j = s.feeder j := htk j
    have hall : Effects [] [] 0 [.feeders, .pieces, .releaseHold] s t :=
      Effects.before (Effects.of_changesOnly ((State.onPiece_changes _ _ _).mono (by simp)) (by simp) (by simp))
        (heff.mono (by simp))
    have hstate : (t.feeder k).state = (s.feeder k).state := by rw [hsame]
    rw [feederLifts_of_same hstate, feederNotices_of_same hstate]
    refine ⟨by simp [hsame], fun j _ _ => hsame j, ?_, hall⟩
    rw [hchecker]
    rfl
  | true =>
    set u := (s.onPiece id (Piece.setPull k .miss)).onFeeder k Feeder.missed with hu
    have hpf : s.pullFailed id k true = u.derive k := rfl
    rw [hpf] at hfeeders hchecker hrun heff
    have huk : u.feeder k = (s.feeder k).missed := State.onFeeder_feeder _ _
    have hsu : Effects [] [] 0 [.feeders, .pieces, .releaseHold] s u := Effects.of_changesOnly
      (((State.onPiece_changes _ _ _).mono (by simp)).trans ((State.onFeeder_changes _ _ _).mono (by simp))) (by simp)
      (by simp)
    have hclears : t.holdClears = (u.derive k).holdClears := State.holdClears_congr
      (State.readyPiece_inserts hid hins (by rw [hchecker]) hrun) hfeeders (by simp [t, hpf])
    obtain ⟨hdk, hdj, -, -⟩ := State.derive_values hk u
    have hderived : t.derivedFeederState k = u.derivedFeederState k :=
      State.derivedFeederState_congr (by simp [t, hpf]) (by simp [t, hpf]) (by rw [htk, hpf, hdk])
    refine ⟨?_, fun j hj hne => ?_, derive_between hk (by simp) hsu (by rw [huk]; rfl) (by simp [hu])
      (heff.mono (by simp)) hfeeders hchecker hclears⟩
    · rw [htk, hpf, hdk, huk, hderived]
      rfl
    · rw [htk, hpf, hdj j hj hne]
      exact State.onFeeder_feeder_ne _ _ hk hj hne

end

end Sys2Proof.Machine

open Sys2Proof Sys2Proof.Machine

/-- Settles O38: the pull takes its result, and the first feeder that can substitute, if there is one, decides what
follows. -/
theorem pullResultMissedSearchesASubstitute : Obligations.PullResultMissedSearchesASubstitute := by
  intro miss k e x r s hk1 hk8 htag hdue he hstage hr hstate hd hfilter hpending hcode set
  have hk : k ∈ feederNumbers := mem_feederNumbers.2 ⟨hk1, hk8⟩
  have hxk : x.feeder = k := by
    have : x ∈ r.pulls.filter fun p => p.feeder == k := by simp [hfilter]
    simpa using (List.mem_filter.1 this).2
  have honly (p : PullEntry) (hp : p ∈ r.pulls) (hpk : p.feeder = k) : p = x := by
    have : p ∈ r.pulls.filter fun p => p.feeder == k := List.mem_filter.2 ⟨hp, by simp [hpk]⟩
    simpa [hfilter] using this
  have hpull : r.pendingPull k = some x := by
    rw [Piece.pendingPull, ← List.head?_filter]
    have : (r.pulls.filter fun p => p.feeder == k && p.result == .pending)
        = (r.pulls.filter fun p => p.feeder == k).filter fun p => p.result == .pending := by
      rw [List.filter_filter]
      exact List.filter_congr fun p _ => Bool.and_comm _ _
    rw [this, hfilter]
    simp [hpending]
  let res : PullResult := if miss then .miss else .passed
  have hset : r.setPull k res = { r with pulls := set } := by
    rw [Piece.setPull_eq]
    refine congrArg (fun l => { r with pulls := l }) (List.map_congr_left fun p hp => ?_)
    by_cases hpk : p.feeder = k
    · have hp : p.result = .pending := honly p hp hpk ▸ hpending
      simp only [hpk, hp, and_self, if_true, res]
    · simp [hpk]
  have hb := pullResultBody_taken (s := s.dropFrame .track) (res := res) (n := if miss then 3 else 4) ⟨hk1, hk8⟩ htag
    (by cases miss <;> decide) (by cases miss <;> rfl) he hstage hr hpull
  rw [State.pullReport_failed, hxk] at hb
  obtain ⟨hfk, hfj, hhold, heff⟩ := State.pullFailed_values (s := s.dropFrame .track) (id := e.piece) hk miss x.code
  obtain ⟨hpieces, hprofile, -⟩ := State.pullFailed_frame (s := s.dropFrame .track) (id := e.piece) (k := k) miss
  obtain ⟨hexec, hans, hhap⟩ := exec_due_effects (k := .pullResult) hdue rfl rfl hb heff (by decide)
  set v := (s.dropFrame .track).pullFailed e.piece k miss
  have hpieces : v.run.pieces = s.run.pieces.map fun y => if y.id = e.piece then y.setPull k res else y := hpieces
  have hvr : v.piece? e.piece = some { r with pulls := set } := by
    rw [State.piece?_of_pieces (s := s) (g := Piece.setPull k res) (fun _ => rfl) hpieces, hr, Option.map_some,
      ← hset]
  have hfeeders : (v.substitute e.piece k x.code).1.feeders = v.feeders := by simp
  refine ⟨_, hexec, hfk, hfj, ?_, hhold, hhap⟩
  intro able rest
  have hable (j : Nat) (hj : j ∈ feederNumbers) :
      v.substitutes { r with pulls := set } k x.code j = true ↔ able j := by
    have hfeeder : (v.substitute e.piece k x.code).1.feeder j = v.feeder j := State.feeder_congr _ hfeeders
    have hnames : (∀ p ∈ set, p.feeder ≠ j) ↔ ∀ p ∈ r.pulls, p.feeder ≠ j := by
      simp only [set, List.forall_mem_map]
      refine forall₂_congr fun p _ => ?_
      split <;> rfl
    rw [State.substitutes_iff hcode, hprofile]
    simp only [able, State.answerFrame_feeder, hfeeder, hnames, hj, true_and]
    rfl
  have hnot (j : Nat) (hj : j ∈ feederNumbers) (h : ¬ able j) :
      v.substitutes { r with pulls := set } k x.code j = false := by
    rw [Bool.eq_false_iff, Ne, hable j hj]
    exact h
  have hresult (f : Piece → Piece) (hf : ∀ y, (f y).id = y.id) (action : PullAction)
      (hsub : v.substitute e.piece k x.code = (v.onPiece e.piece f, action)) :
      (v.substitute e.piece k x.code).1.run.pieces
          = s.run.pieces.map (fun y => if y.id = e.piece then f { r with pulls := set } else y)
        ∧ (State.pullAnswer (s.dropFrame .track) (v.substitute e.piece k x.code).1 e.piece k res
            (v.substitute e.piece k x.code).2)
          = [byteV k, byteV (if miss then 3 else 4), byteV ((v.substitute e.piece k x.code).1.feeder k).missRun,
              byteV ((v.substitute e.piece k x.code).1.feeder k).state.code]
            ++ action.values ++ [faultsV (newCauses (some r) (some (f { r with pulls := set })))] := by
    have hbefore : (s.dropFrame .track).piece? e.piece = some r := hr
    have hrcode : res.code = if miss then 3 else 4 := by cases miss <;> rfl
    rw [hsub]
    refine ⟨?_, ?_⟩
    · rw [State.onPiece_pieces, hpieces]
      simp only [List.map_map]
      refine List.map_congr_left fun y hy => ?_
      by_cases hye : y.id = e.piece
      · have hyr : y = r := by
          have := State.piece?_of_mem hd hy
          rw [hye, hr] at this
          exact (Option.some.inj this).symm
        have hone : (if y.id = e.piece then y.setPull k res else y) = { r with pulls := set } := by
          rw [if_pos hye, hyr, hset]
        simp only [Function.comp_apply, hone]
        rw [if_pos hye, if_pos (show r.id = e.piece from hyr ▸ hye)]
      · simp only [Function.comp_apply, hye, if_false]
    · rw [State.pullAnswer, hbefore, State.piece?_onPiece hf, hvr, Option.map_some, hrcode]
  refine ⟨fun j hj hmin => ?_, fun hnone hrequired => ?_, fun hnone hoptional => ?_⟩
  · have hjmem : j ∈ feederNumbers := hj.1
    have hsub := State.substitute_found hvr hjmem ((hable j hjmem).2 hj) fun i hi hij => hnot i hi (hmin i hij)
    obtain ⟨hrun, hanswer⟩ := hresult
      (fun r => { r with pulls := r.pulls ++ [⟨j, x.code, .pending, .substitute⟩] }) (fun _ => rfl) _ hsub
    rw [newCauses_same (by rfl)] at hanswer
    exact ⟨hrun, hanswer ▸ hans⟩
  · have hrequires : Piece.requires { r with pulls := set } x.code = true := by
      simpa [Piece.requires] using hrequired
    have hsub := State.substitute_none hvr fun i hi => hnot i hi (hnone i)
    rw [if_pos hrequires] at hsub
    obtain ⟨hrun, hanswer⟩ := hresult (Piece.addCause .missingInsert) (by simp) _ hsub
    rw [newCauses_addCause _ (by rfl) (by simp [hstate])] at hanswer
    rw [Piece.addCause_eq (by simp [hstate])] at hrun
    exact ⟨hrun, hanswer ▸ hans⟩
  · have hrequires : Piece.requires { r with pulls := set } x.code = false := by
      simpa [Piece.requires] using hoptional
    have hsub := State.substitute_none hvr fun i hi => hnot i hi (hnone i)
    rw [if_neg (by simp [hrequires])] at hsub
    obtain ⟨hrun, hanswer⟩ := hresult (Piece.addSkipped x.code) (by simp) _ hsub
    have hskip : Piece.addSkipped x.code { r with pulls := set }
        = { r with pulls := set, skipped := if x.code ∈ r.skipped then r.skipped else r.skipped ++ [x.code] } := by
      by_cases hm : x.code ∈ r.skipped <;> simp [Piece.addSkipped, hm]
    rw [newCauses_same (by rw [hskip])] at hanswer
    rw [hskip] at hrun
    exact ⟨hrun, hanswer ▸ hans⟩
end

section
/-! SET_LIMITS and SET_FEEDER (R48, R57, R58, R77, R78, R81). -/

namespace Sys2Proof.Machine

/-! ### The limits record in its payload (R57, R203) -/

theorem toBytes_toNat (b : Byte) : toBytes 1 b.toNat = [b] := by simpa [beNat] using toBytes_beNat [b]

theorem yesNoAt_eq_some {pl : List Byte} {i : Nat} {b : Bool} (h : yesNoAt pl i = some b) : byteAt pl i = yesNo b := by
  unfold yesNoAt at h
  split at h
  · next he => cases h; exact he
  · next he => cases h; exact he
  · cases h

theorem feederPolicyOf_yesNo (p : FeederPolicy) : feederPolicyOf (yesNo (p == .divert)) = some p := by cases p <;> rfl

theorem feederPolicyOf_eq_some {n : Nat} {p : FeederPolicy} (h : feederPolicyOf n = some p) :
    n = yesNo (p == .divert) := by
  unfold feederPolicyOf at h
  split at h <;> cases h <;> rfl

theorem Limits.inRange_iff (l : Limits) : l.inRange = true ↔
    1 ≤ l.foldLimit ∧ l.foldLimit ≤ 4 ∧ 1 ≤ l.massCeiling ∧ l.massCeiling ≤ 1000000 ∧ l.toleranceFloor ≤ 50000
      ∧ l.tolerancePermille ≤ 200 ∧ 1 ≤ l.accumulatorLimit ∧ l.accumulatorLimit ≤ 24 ∧ l.resyncReach ≤ 8
      ∧ 1 ≤ l.orphanLimit ∧ l.orphanLimit ≤ 8 := by
  simp [Limits.inRange, and_assoc]

@[simp] theorem Limits.bytes_length (l : Limits) : l.bytes.length = 13 := by simp [Limits.bytes]

/-- A limits record in range is read back from its bytes (R57). -/
theorem limitsOf_bytes {l : Limits} (h : l.inRange = true) : limitsOf l.bytes = some l := by
  have hr := l.inRange_iff.1 h
  have efold : byteAt l.bytes 0 = l.foldLimit := (byteAt_toBytes_one _).trans (Nat.mod_eq_of_lt (by omega))
  have emass : fieldAt l.bytes 1 3 = l.massCeiling := (fieldAt_toBytes 3 _).trans (Nat.mod_eq_of_lt (by omega))
  have efloor : fieldAt l.bytes 4 2 = l.toleranceFloor := (fieldAt_toBytes 2 _).trans (Nat.mod_eq_of_lt (by omega))
  have eper : byteAt l.bytes 6 = l.tolerancePermille := (byteAt_toBytes_one _).trans (Nat.mod_eq_of_lt (by omega))
  have escale : yesNoAt l.bytes 7 = some l.scaleInLine := yesNoAt_toBytes l.scaleInLine
  have eweigh : yesNoAt l.bytes 8 = some l.weighRequired := yesNoAt_toBytes l.weighRequired
  have eacc : byteAt l.bytes 9 = l.accumulatorLimit := (byteAt_toBytes_one _).trans (Nat.mod_eq_of_lt (by omega))
  have ereach : byteAt l.bytes 10 = l.resyncReach := (byteAt_toBytes_one _).trans (Nat.mod_eq_of_lt (by omega))
  have eorphan : byteAt l.bytes 11 = l.orphanLimit := (byteAt_toBytes_one _).trans (Nat.mod_eq_of_lt (by omega))
  have epolicy : byteAt l.bytes 12 = yesNo (l.feederPolicy == .divert) :=
    (byteAt_toBytes_one _).trans (by cases l.feederPolicy <;> rfl)
  simp only [limitsOf, escale, eweigh, epolicy, feederPolicyOf_yesNo, efold, emass, efloor, eper, eacc, ereach, eorphan]
  exact if_pos hr

/-- A payload that spells a limits record in range is the payload of that record (R57). -/
theorem limitsOf_eq_some {pl : List Byte} {l : Limits} (hlen : pl.length = 13) (h : limitsOf pl = some l) :
    l.inRange = true ∧ pl = l.bytes := by
  unfold limitsOf at h
  split at h
  · next scale weigh policy hscale hweigh hpolicy =>
    dsimp only at h
    split_ifs at h with hr
    cases h
    refine ⟨(Limits.inRange_iff _).2 hr, ?_⟩
    have hscale := yesNoAt_eq_some hscale
    have hweigh := yesNoAt_eq_some hweigh
    have hpolicy := feederPolicyOf_eq_some hpolicy
    simp only [Limits.bytes, ← hscale, ← hweigh, ← hpolicy]
    match pl, hlen with
    | [b0, b1, b2, b3, b4, b5, b6, b7, b8, b9, b10, b11, b12], _ =>
      have hmass := toBytes_beNat [b1, b2, b3]
      have hfloor := toBytes_beNat [b4, b5]
      simp only [byteAt, fieldAt, List.getD_cons_zero, List.getD_cons_succ, List.drop_succ_cons, List.drop_zero,
        List.take_succ_cons, List.take_zero, toBytes_toNat]
      simp only [List.length_cons, List.length_nil, Nat.zero_add, Nat.reduceAdd] at hmass hfloor
      rw [hmass, hfloor]
      rfl
  · cases h

/-! ### A feeder's setting in its payload (R75, R203) -/

theorem FeederSetting.inRange_iff (x : FeederSetting) :
    x.inRange = true ↔ x.code ≤ 255 ∧ x.mass ≤ 200000 ∧ x.caliper ≤ 10000 := by
  simp [FeederSetting.inRange, and_assoc]

@[simp] theorem FeederSetting.bytes_length (x : FeederSetting) (k : Nat) : (x.bytes k).length = 8 := by
  simp [FeederSetting.bytes]

theorem feederSettingOf_bytes {x : FeederSetting} {k : Nat} (hk : 1 ≤ k ∧ k ≤ 8) (h : x.inRange = true) :
    feederSettingOf (x.bytes k) = some (k, x) := by
  obtain ⟨hcode, hmass, hcaliper⟩ := x.inRange_iff.1 h
  have ek : byteAt (x.bytes k) 0 = k := (byteAt_toBytes_one _).trans (Nat.mod_eq_of_lt (by omega))
  have ecode : byteAt (x.bytes k) 1 = x.code := (byteAt_toBytes_one _).trans (Nat.mod_eq_of_lt (by omega))
  have emass : fieldAt (x.bytes k) 2 3 = x.mass := (fieldAt_toBytes 3 _).trans (Nat.mod_eq_of_lt (by omega))
  have ecaliper : fieldAt (x.bytes k) 5 2 = x.caliper := (fieldAt_toBytes 2 _).trans (Nat.mod_eq_of_lt (by omega))
  have eenabled : yesNoAt (x.bytes k) 7 = some x.enabled := yesNoAt_toBytes x.enabled
  simp only [feederSettingOf, eenabled, ek, ecode, emass, ecaliper]
  exact if_pos ⟨hk.1, hk.2, hmass, hcaliper⟩

theorem feederSettingOf_eq_some {pl : List Byte} {k : Nat} {x : FeederSetting} (hlen : pl.length = 8)
    (h : feederSettingOf pl = some (k, x)) : 1 ≤ k ∧ k ≤ 8 ∧ x.inRange = true ∧ pl = x.bytes k := by
  unfold feederSettingOf at h
  split at h
  · cases h
  · next enabled henabled =>
    dsimp only at h
    split_ifs at h with hr
    cases h
    obtain ⟨hk1, hk8, hmass, hcaliper⟩ := hr
    refine ⟨hk1, hk8, (FeederSetting.inRange_iff _).2 ⟨byteAt_le _ _, hmass, hcaliper⟩, ?_⟩
    have henabled := yesNoAt_eq_some henabled
    simp only [FeederSetting.bytes, ← henabled]
    match pl, hlen with
    | [b0, b1, b2, b3, b4, b5, b6, b7], _ =>
      have hmass := toBytes_beNat [b2, b3, b4]
      have hcaliper := toBytes_beNat [b5, b6]
      simp only [byteAt, fieldAt, List.getD_cons_zero, List.getD_cons_succ, List.drop_succ_cons, List.drop_zero,
        List.take_succ_cons, List.take_zero, toBytes_toNat]
      simp only [List.length_cons, List.length_nil, Nat.zero_add, Nat.reduceAdd] at hmass hcaliper
      rw [hmass, hcaliper]
      rfl

/-! ### The refusals (R57, R77) -/

section
variable {l : Limits} {k : Nat} {x : FeederSetting} {s : State}

/-- Outside CLOSED, a limits record may differ only where R57 allows it. -/
def State.limitsLocked (s : State) (l : Limits) : Prop :=
  s.run.runState ≠ .closed ∧ ¬ (l.foldLimit = s.profile.limits.foldLimit
    ∧ l.massCeiling = s.profile.limits.massCeiling ∧ l.scaleInLine = s.profile.limits.scaleInLine
    ∧ l.accumulatorLimit = s.profile.limits.accumulatorLimit)

theorem State.limitsLocked_iff :
    (s.run.runState != .closed && l.differsClosed s.profile.limits) = true ↔ s.limitsLocked l := by
  simp only [State.limitsLocked, Limits.differsClosed, Bool.and_eq_true, Bool.or_eq_true, bne_iff_ne]
  tauto

theorem State.ceilingInUse_iff {ceiling : Nat} : s.ceilingInUse ceiling = true ↔
    ∃ r ∈ s.run.pieces, ceiling < r.planned.mass ∨ (r.disposition = some .binned ∧ ceiling < r.finalMass) := by
  simp [State.ceilingInUse]

/-- Outside CLOSED, a feeder's code, mass and caliper stay (R77). -/
def State.feederLocked (s : State) (k : Nat) (x : FeederSetting) : Prop :=
  s.run.runState ≠ .closed ∧ ¬ (x.code = (s.profile.feeder k).code ∧ x.mass = (s.profile.feeder k).mass
    ∧ x.caliper = (s.profile.feeder k).caliper)

theorem State.feederLocked_iff : (s.run.runState != .closed && (x.code != (s.profile.feeder k).code
      || x.mass != (s.profile.feeder k).mass || x.caliper != (s.profile.feeder k).caliper)) = true
    ↔ s.feederLocked k x := by
  simp only [State.feederLocked, Bool.and_eq_true, Bool.or_eq_true, bne_iff_ne]
  tauto

theorem Profile.feederClash_iff {f : Profile} : f.feederClash k x = true ↔
    x.code ≠ 0 ∧ ∃ j ∈ feederNumbers, j ≠ k ∧ (f.feeder j).code = x.code
      ∧ ((f.feeder j).mass ≠ x.mass ∨ (f.feeder j).caliper ≠ x.caliper) := by
  simp only [Profile.feederClash, Profile.carries, List.any_eq_true, Bool.and_eq_true, Bool.or_eq_true, bne_iff_ne,
    beq_iff_eq]
  constructor
  · rintro ⟨j, hj, ⟨hne, hcode, h0⟩, hx⟩
    exact ⟨h0, j, hj, hne, hcode, hx⟩
  · rintro ⟨h0, j, hj, hne, hcode, hx⟩
    exact ⟨j, hj, ⟨hne, hcode, h0⟩, hx⟩

theorem State.feederPulled_iff :
    (x.code != (s.profile.feeder k).code && s.feederPulled k) = true ↔
      x.code ≠ (s.profile.feeder k).code ∧ ∃ r ∈ s.run.pieces, ∃ p ∈ r.pulls, p.feeder = k := by
  simp [State.feederPulled]

/-- What a derivation sends and lifts is the same when seen from the request. -/
theorem feederNotices_answered (k : Nat) (p : Port) (f : List Byte) (r : Reply) (s u : State) :
    feederNotices k s (u.answerFrame p f r) = feederNotices k (s.dropFrame p) u := rfl

theorem feederLifts_answered (k : Nat) (p : Port) (f : List Byte) (r : Reply) (s u : State) :
    feederLifts k s (u.answerFrame p f r) = feederLifts k (s.dropFrame p) u := rfl

/-! ### What the records replace (R57, R58, R78) -/

theorem State.onActive_changes (f : Profile → Profile) (s : State) : ChangesOnly [.active] s (s.onActive f) := by
  intro b hb
  cases b <;> first | rfl | simp at hb

/-- A limits record taken: a changed feeder policy has an outstanding FEEDER hold tested (R58). -/
theorem State.withLimits_values (l : Limits) (s : State) :
    let t := s.withLimits l
    let lifts := decide (l.feederPolicy ≠ s.profile.limits.feederPolicy) && feederHoldLifts s t
    t.profile = { s.profile with limits := l } ∧ t.checker.releaseHold = holdAfter lifts s
      ∧ Effects (holdNotices lifts) [] 0 [.active, .releaseHold] s t := by
  intro t lifts
  let u := s.onActive fun f => { f with limits := l }
  have hu : Effects [] [] 0 [.active, .releaseHold] s u :=
    Effects.of_changesOnly ((State.onActive_changes _ _).mono (by simp)) (by simp) (by simp)
  by_cases hp : l.feederPolicy = s.profile.limits.feederPolicy
  · have ht : t = u := by simp [t, u, State.withLimits, hp]
    have hl : lifts = false := by simp [lifts, hp]
    rw [hl, ht]
    exact ⟨rfl, rfl, hu⟩
  · have ht : t = if feederHoldLifts u u then u.clearHold else u := by
      rw [← State.testFeederHold_eq]
      simp [t, u, State.withLimits, hp]
    have hclears : t.holdClears = u.holdClears := by
      rw [ht]
      split
      · exact State.holdClears_congr (congrArg _ (State.readyPiece_congr (by simp [State.clearHold]) (by simp)))
          (by simp) (by simp)
      · rfl
    have hl : lifts = feederHoldLifts u u := by
      simp [lifts, hp, feederHoldLifts_eq, hclears, u]
    rw [hl, ht]
    cases feederHoldLifts u u with
    | false => exact ⟨rfl, rfl, hu⟩
    | true => exact ⟨by simp [u], by simp [State.clearHold, holdAfter], hu.after (State.clearHold_effects.mono (by simp))⟩

/-- A feeder's setting taken: its state is derived again (R78, R81). -/
theorem State.withFeeder_values (hk : k ∈ feederNumbers) (x : FeederSetting) (s : State) :
    let t := s.withFeeder k x
    t.profile = { s.profile with feeders := setNth s.profile.feeders (k - 1) x }
      ∧ t.feeder k = { s.feeder k with state := t.derivedFeederState k }
      ∧ (∀ j ∈ feederNumbers, j ≠ k → t.feeder j = s.feeder j)
      ∧ t.checker.releaseHold = holdAfter (feederLifts k s t) s
      ∧ Effects (feederNotices k s t ++ holdNotices (feederLifts k s t)) (feederNotices k s t) 0
          [.active, .feeders, .releaseHold] s t := by
  intro t
  let u := s.onActive fun f => { f with feeders := setNth f.feeders (k - 1) x }
  have ht : t = u.derive k := rfl
  obtain ⟨hdk, hdj, -, -⟩ := State.derive_values hk u
  have hderived : t.derivedFeederState k = u.derivedFeederState k :=
    State.derivedFeederState_congr (by simp [ht]) (by simp [ht]) (by rw [ht, hdk])
  refine ⟨by simp [ht, u], by rw [hderived]; exact hdk, hdj, ?_⟩
  exact derive_between hk (by simp)
    (Effects.of_changesOnly ((State.onActive_changes _ _).mono (by simp)) (by simp) (by simp)) rfl rfl
    (Effects.refl _ _) rfl rfl rfl

end

end Sys2Proof.Machine

open Sys2Proof Sys2Proof.Machine

/-- Settles O56: the refusals stand in their order, and a record taken may change a feeder's state and lift a hold. -/
theorem limitsAndFeedersAreReplaced : Obligations.LimitsAndFeedersAreReplaced := by
  intro s refused
  refine ⟨fun l hl hdue => ?_, fun k x hk1 hk8 hx hdue => ?_, fun pl => ⟨fun hpl hdue => ?_, fun hpl hdue => ?_⟩⟩
  · intro old locked used
    have hlocked : ((s.dropFrame .plan).run.runState != .closed
        && l.differsClosed (s.dropFrame .plan).profile.limits) = true ↔ locked := State.limitsLocked_iff
    have hused : (s.dropFrame .plan).ceilingInUse l.massCeiling = true ↔ used := State.ceilingInUse_iff
    have hlen : RequestKind.setLimits.lengthAllowed l.bytes.length = true := by rw [Limits.bytes_length]; rfl
    have refuses {r : Result} (h : (s.dropFrame .plan).limitsRefusal l = some r) : refused .setLimits r :=
      exec_due_unchanged (k := .setLimits) (r := refuse r) hdue rfl hlen
        (by simp only [RequestKind.body, setLimitsBody, limitsOf_bytes hl, h])
    refine ⟨fun hlow => refuses (if_pos hlow), fun hhigh h => refuses ?_, fun hhigh hnot h => refuses ?_,
      fun hhigh hnot hfree => ?_⟩
    · exact (if_neg (Nat.not_lt.2 hhigh)).trans (if_pos (hlocked.2 h))
    · exact (if_neg (Nat.not_lt.2 hhigh)).trans ((if_neg (mt hlocked.1 hnot)).trans (if_pos (hused.2 h)))
    · have hnone : (s.dropFrame .plan).limitsRefusal l = none :=
        (if_neg (Nat.not_lt.2 hhigh)).trans ((if_neg (mt hlocked.1 hnot)).trans (if_neg (mt hused.1 hfree)))
      have hb : RequestKind.setLimits.body .plan l.bytes (s.dropFrame .plan)
          = ((s.dropFrame .plan).withLimits l, done) := by
        simp only [RequestKind.body, setLimitsBody, limitsOf_bytes hl, hnone]
      obtain ⟨hprofile, hhold, heff⟩ := (s.dropFrame .plan).withLimits_values l
      obtain ⟨hexec, hans, hhap⟩ := exec_due_effects (k := .setLimits) hdue rfl hlen hb heff (by decide)
      exact ⟨_, hexec, hans, hprofile, hhold, hhap⟩
  · intro old locked clash pulled
    have hk : k ∈ feederNumbers := mem_feederNumbers.2 ⟨hk1, hk8⟩
    have hof := feederSettingOf_bytes ⟨hk1, hk8⟩ hx
    have hlocked := State.feederLocked_iff (s := s.dropFrame .plan) (k := k) (x := x)
    have hclash : (s.dropFrame .plan).profile.feederClash k x = true ↔ clash := Profile.feederClash_iff
    have hpulled := State.feederPulled_iff (s := s.dropFrame .plan) (k := k) (x := x)
    have hlen : RequestKind.setFeeder.lengthAllowed (x.bytes k).length = true := by
      rw [FeederSetting.bytes_length]
      rfl
    have refuses {r : Result} (h : (s.dropFrame .plan).feederRefusal k x = some r) : refused .setFeeder r :=
      exec_due_unchanged (k := .setFeeder) (r := refuse r) hdue rfl hlen
        (by simp only [RequestKind.body, setFeederBody, hof, h])
    refine ⟨fun h => refuses (if_pos (hlocked.2 h)), fun hnot h => refuses ?_, fun hnot hno h => refuses ?_,
      fun hnot hno hfree => ?_⟩
    · exact (if_neg (mt hlocked.1 hnot)).trans (if_pos (hclash.2 h))
    · exact (if_neg (mt hlocked.1 hnot)).trans ((if_neg (mt hclash.1 hno)).trans (if_pos (hpulled.2 h)))
    · have hnone : (s.dropFrame .plan).feederRefusal k x = none :=
        (if_neg (mt hlocked.1 hnot)).trans ((if_neg (mt hclash.1 hno)).trans (if_neg (mt hpulled.1 hfree)))
      have hb : RequestKind.setFeeder.body .plan (x.bytes k) (s.dropFrame .plan)
          = ((s.dropFrame .plan).withFeeder k x,
              done [byteV (((s.dropFrame .plan).withFeeder k x).feeder k).state.code]) := by
        simp only [RequestKind.body, setFeederBody, hof, hnone]
      obtain ⟨hprofile, hfk, hfj, hhold, heff⟩ := (s.dropFrame .plan).withFeeder_values hk x
      obtain ⟨hexec, hans, hhap⟩ := exec_due_effects (k := .setFeeder) hdue rfl hlen hb heff (by decide)
      refine ⟨_, hexec, hans, hprofile, hfk, hfj, ?_, ?_⟩
      · rw [feederLifts_answered]
        exact hhold
      · rw [feederLifts_answered, feederNotices_answered]
        exact hhap
  · cases hlen : RequestKind.setLimits.lengthAllowed pl.length with
    | false => exact exec_due_wrongLength (k := .setLimits) hdue rfl hlen
    | true =>
      have hnone : limitsOf pl = none := by
        cases h : limitsOf pl with
        | none => rfl
        | some l =>
          obtain ⟨hl, hb⟩ := limitsOf_eq_some (by simpa [RequestKind.lengthAllowed] using hlen) h
          exact absurd hb (hpl l hl)
      exact exec_due_unchanged (k := .setLimits) (r := refuse .badArg) hdue rfl hlen
        (by simp only [RequestKind.body, setLimitsBody, hnone])
  · cases hlen : RequestKind.setFeeder.lengthAllowed pl.length with
    | false => exact exec_due_wrongLength (k := .setFeeder) hdue rfl hlen
    | true =>
      have hnone : feederSettingOf pl = none := by
        cases h : feederSettingOf pl with
        | none => rfl
        | some y =>
          obtain ⟨k, x⟩ := y
          obtain ⟨hk1, hk8, hx, hb⟩ :=
            feederSettingOf_eq_some (by simpa [RequestKind.lengthAllowed] using hlen) h
          exact absurd hb (hpl k x hk1 hk8 hx)
      exact exec_due_unchanged (k := .setFeeder) (r := refuse .badArg) hdue rfl hlen
        (by simp only [RequestKind.body, setFeederBody, hnone])
end

section
/-! RESYNC (R49): what stands at the plan port stays there through the rest of the event, and the records before the
named one finish. -/

namespace Sys2Proof.Machine

/-! ### Notices at the plan port stay (R192) -/

/-- Nothing that stood in the plan port's notice queue has left it or moved. -/
def PlanGrows (s t : State) : Prop := (s.port .plan).notices <+: (t.port .plan).notices

namespace PlanGrows

theorem refl (s : State) : PlanGrows s s := List.prefix_rfl

theorem trans {s t u : State} (h : PlanGrows s t) (h' : PlanGrows t u) : PlanGrows s u := List.IsPrefix.trans h h'

theorem of_port {s t : State} (h : t.port .plan = s.port .plan) : PlanGrows s t := by simp [PlanGrows, h]

theorem after {s t u : State} (h' : PlanGrows t u) (h : t.port .plan = s.port .plan) : PlanGrows s u :=
  (of_port h).trans h'

end PlanGrows

section
variable (s : State)

theorem State.notify_planGrows (p : Port) (n : Notice) : PlanGrows s (s.notify p n) := by
  unfold PlanGrows
  cases p with
  | track => simp
  | plan =>
    rw [State.notify_notices, pushNotice]
    split
    · exact List.prefix_append _ _
    · exact List.prefix_rfl

theorem State.notifyBoth_planGrows (n : Notice) : PlanGrows s (s.notifyBoth n) :=
  (s.notify_planGrows .track n).trans (State.notify_planGrows _ .plan n)

theorem State.setBinState_planGrows (b : Nat) (st : BinState) : PlanGrows s (s.setBinState b st) :=
  State.notifyBoth_planGrows (s.onBin b fun x => { x with state := st }) _

theorem State.releaseTest_planGrows (b : Nat) : PlanGrows s (s.releaseTest b) := by
  unfold State.releaseTest
  split
  · exact .refl s
  · split
    · exact s.setBinState_planGrows b _
    · exact .refl s

theorem State.deliverTray_planGrows (b : Nat) (t : Tray) : PlanGrows s (s.deliverTray b t) :=
  PlanGrows.trans (t := ((s.onBins fun m => { m with closedTrays := m.closedTrays ++ [t] }).onBin b
      fun x => { x with tray := none }).notify .plan (.trayClosed t.id t.run t.bin t.reason))
    (.after (State.notify_planGrows _ .plan _) rfl) (State.releaseTest_planGrows _ b)

theorem State.deliverOldest_planGrows : PlanGrows s s.deliverOldest := by
  unfold State.deliverOldest
  split
  · exact .refl s
  · dsimp only
    split
    · exact .after (State.deliverTray_planGrows _ _ _) rfl
    · exact .of_port rfl

theorem State.deliverWaiting_planGrows (n : Nat) : PlanGrows s (s.deliverWaiting n) := by
  induction n generalizing s with
  | zero => exact .refl s
  | succ n ih =>
    unfold State.deliverWaiting
    split
    · exact s.deliverOldest_planGrows.trans (ih _)
    · exact .refl s

theorem State.joinDelivery_planGrows (b : Nat) : PlanGrows s (s.joinDelivery b) := by
  unfold State.joinDelivery
  dsimp only
  split
  · exact State.deliverWaiting_planGrows (s.onBins fun m => { m with delivery := m.delivery ++ [b] }) _
  · exact .of_port (by simp)

theorem State.removeAreaIfDone_port (a : List Nat) (p : Port) : (s.removeAreaIfDone a).port p = s.port p := by
  unfold State.removeAreaIfDone
  split <;> rfl

theorem State.removeFineIfDone_port (d : List Nat) (p : Port) : (s.removeFineIfDone d).port p = s.port p := by
  unfold State.removeFineIfDone
  split
  · exact State.removeAreaIfDone_port _ _ _
  · rfl

theorem State.trayClosedReport_planGrows (g : TrayGroup) : PlanGrows s (s.trayClosedReport g) := by
  cases g with
  | fine d => exact .of_port (s.removeFineIfDone_port d _)
  | area a => exact .of_port (s.removeAreaIfDone_port a _)
  | mixed => exact .refl s
  | rule k => exact .refl s

theorem State.closeIfEmptied_planGrows (b : Nat) : PlanGrows s (s.closeIfEmptied b) := by
  unfold State.closeIfEmptied
  split
  · split
    · exact (State.trayClosedReport_planGrows (s.onTray b _) _).trans (State.joinDelivery_planGrows _ b)
    · exact .refl s
  · exact .refl s

theorem State.beginClosing_planGrows (b : Nat) (r : CloseReason) : PlanGrows s (s.beginClosing b r) := by
  unfold State.beginClosing
  split
  · split
    · dsimp only
      split
      · exact State.closeIfEmptied_planGrows (s.onTray b _) b
      · exact (State.setBinState_planGrows (s.onTray b _) b _).trans (State.closeIfEmptied_planGrows _ b)
    · exact .refl s
  · exact .refl s

theorem State.openTray_planGrows (b : Nat) (g : TrayGroup) : PlanGrows s (s.openTray b g) :=
  State.setBinState_planGrows ((s.onBins _).onBin b _) b _

theorem State.reserve_planGrows (b tag m : Nat) : PlanGrows s (s.reserve b tag m) := by
  unfold State.reserve
  dsimp only
  split
  · exact State.beginClosing_planGrows ((s.onTray b _).onBins _) b _
  · exact .of_port rfl

theorem State.openOrStall_planGrows (g : TrayGroup) (tag m : Nat) : PlanGrows s (s.openOrStall g tag m).1 := by
  unfold State.openOrStall
  split
  · exact (s.openTray_planGrows _ g).trans (State.reserve_planGrows _ _ tag m)
  · exact .refl s

theorem State.placeInTray_planGrows (g : TrayGroup) (tag m : Nat) : PlanGrows s (s.placeInTray g tag m).1 := by
  unfold State.placeInTray
  split
  · exact s.openOrStall_planGrows g tag m
  · split
    · exact s.openOrStall_planGrows g tag m
    · split
      · split
        · exact s.reserve_planGrows _ tag m
        · exact (s.beginClosing_planGrows _ _).trans (State.openOrStall_planGrows _ g tag m)
      · exact (s.beginClosing_planGrows _ _).trans (State.openOrStall_planGrows _ g tag m)

theorem State.levelAnswer_planGrows (r : Piece) : PlanGrows s (s.levelAnswer r).1 := by
  refine .of_port ?_
  unfold State.levelAnswer State.areaAnswer
  dsimp only
  (repeat' split) <;> simp

theorem State.decideEntry_planGrows (e : TrackEntry) : PlanGrows s (s.decideEntry e).1 := by
  unfold State.decideEntry
  split
  · unfold State.gateDecision
    split
    · exact .refl s
    · exact (s.levelAnswer_planGrows _).trans (State.placeInTray_planGrows _ _ _ _)
  · exact .refl s

theorem State.recordStall_planGrows (tag : Nat) (g : TrayGroup) : PlanGrows s (s.recordStall tag g) :=
  State.notifyBoth_planGrows ((s.onEntry tag _).onBins _) _

theorem State.handOn_planGrows (tags : List Nat) : PlanGrows s (s.handOn tags) := by
  induction tags generalizing s with
  | nil => exact .refl s
  | cons tag tags ih =>
    unfold State.handOn
    split
    · exact .refl s
    · next e _ =>
      split
      · dsimp only
        split
        · next d _ =>
          exact ((s.decideEntry_planGrows e).trans
            (State.notify_planGrows ((s.decideEntry e).1.setGated tag d) .track _)).trans (ih _)
        · exact (s.decideEntry_planGrows _).trans (State.recordStall_planGrows _ tag _)
      · exact .refl s

theorem State.levelAsked_planGrows (e : TrackEntry) : PlanGrows s (s.levelAsked e) := by
  unfold State.levelAsked
  split
  · exact s.levelAnswer_planGrows _
  · exact .refl s

/-- The re-evaluation of a stalled entry adds to the plan port's notices only. -/
theorem State.reevaluate_planGrows (a : Bool) : PlanGrows s (s.reevaluate a).1 := by
  unfold State.reevaluate
  split
  · exact .refl s
  · split
    · exact .refl s
    · next x _ _ e _ =>
      dsimp only
      split
      · exact s.levelAsked_planGrows e
      · next d _ =>
        refine PlanGrows.trans ?_ (State.handOn_planGrows _ _)
        have hset : PlanGrows s (((s.decideEntry e).1.onBins fun m => { m with stall := none }).setGated x.tag d) :=
          s.decideEntry_planGrows e
        split
        · exact hset.trans (State.notify_planGrows _ .track _)
        · exact hset

theorem State.afterEvent_planGrows (before : State) : PlanGrows s (s.afterEvent before) := by
  unfold State.afterEvent
  split
  · exact s.reevaluate_planGrows true
  · exact .refl s

end

/-- A notice sent last stands in every later queue that is not full. -/
theorem PlanGrows.mem_of_last {s t : State} {ns : List Notice} {n : Notice} (h : PlanGrows s t)
    (hs : (s.port .plan).notices = pushNotice ns n) (hroom : (t.port .plan).notices.length < 16) :
    n ∈ (t.port .plan).notices := by
  have hlast : (s.port .plan).notices.getLast? = some n := by
    rw [hs]
    exact getLast?_pushNotice (hs ▸ lt_of_le_of_lt h.length_le hroom)
  exact h.subset (List.mem_of_getLast? hlast)

/-! ### The records before the named one (R49) -/

section
variable {s : State} {pre post : List Piece} {r : Piece}

/-- The place of a record in a table of distinct records. -/
theorem State.position_split (hsplit : s.run.pieces = pre ++ r :: post) (hd : PiecesDistinct s) :
    s.position r.id = pre.length := by
  have hpre : ∀ x ∈ pre, x.id ≠ r.id := by
    have h : ((pre ++ r :: post).map Piece.id).Nodup := hsplit ▸ hd
    simp only [List.map_append, List.map_cons, List.nodup_append, List.mem_map, List.mem_cons] at h
    exact fun x hx => h.2.2 _ ⟨x, hx, rfl⟩ _ (Or.inl rfl)
  have hnone : pre.findIdx (fun x => x.id == r.id) = pre.length := by simpa using hpre
  rw [State.position, hsplit, List.findIdx_append, hnone]
  simp [List.findIdx_cons]

/-- The LOADED records before the named one: distinct, and none of them the named one. -/
theorem State.loadedBefore_found (hsplit : s.run.pieces = pre ++ r :: post) (hd : PiecesDistinct s) :
    let ids := (pre.filter fun x => x.state == .loaded).map Piece.id
    ids.Nodup ∧ r.id ∉ ids ∧ (∀ id ∈ ids, ∃ x, s.piece? id = some x ∧ x.state ≠ .finished)
      ∧ ∀ x ∈ s.run.pieces, x.id ∈ ids → x.state = .loaded := by
  intro ids
  have hsub : ids.Sublist (pre.map Piece.id) := List.filter_sublist.map _
  have hall : (pre.map Piece.id ++ r.id :: post.map Piece.id).Nodup := by
    have h : (s.run.pieces.map Piece.id).Nodup := hd
    simpa [hsplit] using h
  have hmem {id : PieceId} (h : id ∈ ids) : ∃ x ∈ s.run.pieces, x.state = .loaded ∧ x.id = id := by
    obtain ⟨x, hx, rfl⟩ := List.mem_map.1 h
    obtain ⟨hx, hstate⟩ := List.mem_filter.1 hx
    exact ⟨x, by simp [hsplit, hx], by simpa using hstate, rfl⟩
  refine ⟨hsub.nodup (List.Nodup.of_append_left hall), fun h => ?_, fun id h => ?_, fun x hx h => ?_⟩
  · exact (List.nodup_append.1 hall).2.2 _ (hsub.subset h) _ List.mem_cons_self rfl
  · obtain ⟨x, hx, hstate, rfl⟩ := hmem h
    exact ⟨x, State.piece?_of_mem hd hx, by simp [hstate]⟩
  · obtain ⟨y, hy, hstate, hid⟩ := hmem h
    exact List.inj_on_of_nodup_map hd hy hx hid ▸ hstate

/-- A LOADED record that RESYNC skips (R19, R49). -/
def Piece.skippedByResync (x : Piece) : Piece := (x.addCause .skippedByResync).finish .notFed

theorem Piece.skippedByResync_eq {x : Piece} (h : x.state ≠ .finished) : x.skippedByResync =
    { x with
      state := .finished
      faults := if Cause.skippedByResync ∈ x.faults then x.faults else x.faults ++ [.skippedByResync]
      disposition := some (if x.cancelPending then .cancelled else .notFed)
      tag := none } := by
  rw [Piece.skippedByResync, Piece.addCause_eq h]
  simp [Piece.finish]

theorem State.finishAll_promises (ids : List PieceId) (c : Cause) (d : Disposition) :
    (s.finishAll ids c d).bins.promises = s.bins.promises :=
  foldl_keeps _ (fun s => s.bins.promises) (fun u id => State.finish_promises (s := u.addCause id c)) ids s

/-- What a taken RESYNC does to the run table and to the Collation Checker (R49). -/
theorem State.resyncTo_values (hsplit : s.run.pieces = pre ++ r :: post) (hd : PiecesDistinct s)
    (hloaded : r.state = .loaded) :
    let ids := (pre.filter fun x => x.state == .loaded).map Piece.id
    let t := s.resyncTo r.id
    t.run = { s.run with
        pieces := s.run.pieces.map fun x => if x.id ∈ ids then x.skippedByResync else x
        outcomes := s.run.outcomes ++ ids }
      ∧ t.checker = { s.checker with
          forming := none, ready := none, cursor := pre.length, orphanRun := 0, intake := .inSync }
      ∧ t.expectedPiece = some r
      ∧ t.bins.stall = s.bins.stall
      ∧ (∃ ns, (t.port .plan).notices = pushNotice ns (.resyncDone r.id.seq ids.length))
      ∧ ChangesOnly ([.forming, .ready, .cursor, .orphanRun, .intakeState, .pieces, .outcomes] ++ gateBlocks) s t := by
  intro ids t
  have hpos := State.position_split hsplit hd
  have hids : s.loadedBefore pre.length = ids := by rw [State.loadedBefore, hsplit, List.take_left]
  obtain ⟨hnodup, hnotin, hfound, -⟩ := State.loadedBefore_found hsplit hd
  let cleared := s.onChecker fun k => { k with forming := none, ready := none }
  let finished := cleared.finishAll ids .skippedByResync .notFed
  have ht : t = (finished.onChecker fun k =>
      { k with cursor := pre.length, orphanRun := 0, intake := .inSync }).notify .plan
        (.resyncDone r.id.seq ids.length) := by
    simp only [t, State.resyncTo, hpos, hids, finished, cleared]
  have hfinished : finished.run = { s.run with
      pieces := s.run.pieces.map fun x => if x.id ∈ ids then x.skippedByResync else x
      outcomes := s.run.outcomes ++ ids } := State.finishAll_run (s := cleared) .skippedByResync .notFed hnodup hfound
  have hrun : t.run = finished.run := by simp [ht]
  have hchecker : t.checker = { s.checker with
      forming := none, ready := none, cursor := pre.length, orphanRun := 0, intake := .inSync } := by
    simp [ht, finished, cleared]
  have hcleared : ChangesOnly [.forming, .ready] s cleared := by
    intro b hb
    cases b <;> first | rfl | simp at hb
  have hset : ChangesOnly [.cursor, .orphanRun, .intakeState] finished (finished.onChecker fun k =>
      { k with cursor := pre.length, orphanRun := 0, intake := .inSync }) := by
    intro b hb
    cases b <;> first | rfl | simp at hb
  refine ⟨hrun.trans hfinished, hchecker, ?_, ?_, ?_, ?_⟩
  · have hr : (fun x : Piece => if x.id ∈ ids then x.skippedByResync else x) r = r := if_neg hnotin
    simp only [State.expectedPiece, State.loadedAhead, hrun, hfinished, hchecker, hsplit, List.map_append,
      List.map_cons, hr, ← List.length_map (as := pre) fun x : Piece => if x.id ∈ ids then x.skippedByResync else x,
      List.drop_left, List.filter_cons, hloaded, beq_self_eq_true, if_true, List.head?_cons]
  · simpa [ht, cleared] using BinManager.stall_eq_of_promises
      (State.finishAll_promises (s := cleared) ids .skippedByResync .notFed)
  · exact ⟨_, by rw [ht, State.notify_notices]⟩
  · rw [ht]
    exact (((hcleared.mono (by decide)).trans ((State.finishAll_changes _ _ _).mono (by decide))).trans
      (hset.mono (by decide))).trans ((State.notify_plan_effects _ _).frame.mono (by decide))

/-- RESYNC with no LOADED record to skip (R49). -/
theorem State.resyncTo_effects (hsplit : s.run.pieces = pre ++ r :: post) (hd : PiecesDistinct s)
    (h : (pre.filter fun x => x.state == .loaded).map Piece.id = []) :
    (s.resyncTo r.id).bins = s.bins ∧ Effects [] [.resyncDone r.id.seq 0] 0
      [.forming, .ready, .cursor, .orphanRun, .intakeState] s (s.resyncTo r.id) := by
  have hpos := State.position_split hsplit hd
  have hids : s.loadedBefore pre.length = [] := by rw [State.loadedBefore, hsplit, List.take_left, h]
  have ht : s.resyncTo r.id = (s.onChecker fun k => { k with
      forming := none, ready := none, cursor := pre.length, orphanRun := 0, intake := .inSync }).notify .plan
        (.resyncDone r.id.seq 0) := by
    simp only [State.resyncTo, hpos, hids, State.finishAll]
    rfl
  have hset : ChangesOnly [.forming, .ready, .cursor, .orphanRun, .intakeState] s (s.onChecker fun k => { k with
      forming := none, ready := none, cursor := pre.length, orphanRun := 0, intake := .inSync }) := by
    intro b hb
    cases b <;> first | rfl | simp at hb
  rw [ht]
  exact ⟨by simp, (Effects.of_changesOnly hset (by simp) (by simp)).after
    ((State.notify_plan_effects _ _).mono (by simp))⟩

end

theorem emptyOrOrphan_iff {c : Option Collation} :
    emptyOrOrphan c = true ↔ ∀ x, c = some x → x.owner = .orphan := by
  cases c <;> simp [emptyOrOrphan]

end Sys2Proof.Machine

open Sys2Proof Sys2Proof.Machine

/-- Settles O46: the named record keeps its place while those before it finish, and RESYNC_DONE, once sent, stays in the
plan port's queue through the re-evaluation that may follow. -/
theorem resyncStartsIntakeAtThePiece : Obligations.ResyncStartsIntakeAtThePiece := by
  intro n s hn hdue
  have hlen : RequestKind.resync.lengthAllowed (toBytes 3 n).length = true := by simp; rfl
  have hseq : fieldAt (toBytes 3 n) 0 3 = n := by
    rw [fieldAt_toBytes]
    exact Nat.mod_eq_of_lt (by omega)
  refine ⟨fun pre post r hsplit hr hpost hloaded hd hforming hready => ?_, fun ⟨c, hc, howner⟩ => ?_,
    fun hforming hready hnone => ?_⟩
  · intro ids
    let d := s.dropFrame .track
    let u := d.resyncTo r.id
    have hsplit' : d.run.pieces = pre ++ r :: post := hsplit
    obtain ⟨hrun, hchecker, hexpected, hstall, ⟨ns, hns⟩, hchanges⟩ := State.resyncTo_values hsplit' hd hloaded
    have hplan : (u.port .plan).notices = pushNotice ns (.resyncDone n ids.length) := hr ▸ hns
    have hbody : RequestKind.resync.body .track (toBytes 3 n) d = (u.afterEvent d, done [wordV ids.length]) := by
      have hnewest : d.newest n = some r := State.newest_split hsplit' hr hpost
      have hids : d.loadedBefore (d.position r.id) = ids := by
        rw [State.position_split hsplit' hd, State.loadedBefore, hsplit', List.take_left]
      simp [RequestKind.body, resyncBody, hseq, hnewest, hloaded, hids, u, d,
        emptyOrOrphan_iff.2 hforming, emptyOrOrphan_iff.2 hready]
    obtain ⟨hexec, hans, hall⟩ := exec_due_changes (k := .resync) hdue rfl hlen hbody (by decide)
      (hchanges.trans ((State.afterEvent_changes _ _).mono (by decide)))
    obtain ⟨-, -, -, hloadedIds⟩ := State.loadedBefore_found hsplit hd
    refine ⟨_, hexec, hans, ?_, ?_, ?_, ?_, fun hroom => ?_, fun hempty => ?_, hall.mono (by decide)⟩
    · simpa [u, d] using hchecker
    · simpa [State.expectedPiece, State.loadedAhead] using hexpected
    · simp only [State.answerFrame_fields, State.afterEvent_frame, u, hrun]
      refine List.map_congr_left fun x hx => ?_
      by_cases hid : x.id ∈ ids
      · rw [if_pos hid, if_pos hid, Piece.skippedByResync_eq (by simp [hloadedIds x hx hid])]
      · rw [if_neg hid, if_neg hid]
    · simp only [State.answerFrame_fields, State.afterEvent_frame, u, hrun]
      rfl
    · simp only [State.answerFrame_port] at hroom ⊢
      refine ⟨(u.afterEvent_planGrows d).mem_of_last hplan hroom, fun hnone => ?_⟩
      rw [State.afterEvent_of_no_stall (hstall.trans hnone), hplan] at hroom ⊢
      exact getLast?_pushNotice hroom
    · obtain ⟨hbins, heff⟩ := State.resyncTo_effects hsplit' hd hempty
      have hafter : u.afterEvent d = u := State.afterEvent_of_same_bins (congrArg BinManager.table hbins)
      rw [hafter] at hbody ⊢
      exact hr ▸ (exec_due_effects (k := .resync) hdue rfl hlen hbody heff (by decide)).2.2
  · refine exec_due_unchanged (k := .resync) (r := refuse .wrongState) hdue rfl hlen ?_
    have hbusy : (emptyOrOrphan s.checker.forming && emptyOrOrphan s.checker.ready) = false := by
      rw [Bool.eq_false_iff, Ne, Bool.and_eq_true, emptyOrOrphan_iff, emptyOrOrphan_iff]
      rintro ⟨hforming, hready⟩
      exact howner (hc.elim (hforming c) (hready c))
    simp [RequestKind.body, resyncBody, hbusy]
  · refine exec_due_unchanged (k := .resync) (r := refuse .notFound) hdue rfl hlen ?_
    have hbody : resyncBody (toBytes 3 n) (s.dropFrame .track) = (s.dropFrame .track, refuse .notFound) := by
      simp only [resyncBody, hseq, State.dropFrame_fields, emptyOrOrphan_iff.2 hforming, emptyOrOrphan_iff.2 hready]
      cases hnewest : (s.dropFrame .track).newest n with
      | none => simp
      | some r =>
        have hmem := List.mem_of_getLast? hnewest
        obtain ⟨hr, hseq⟩ := List.mem_filter.1 hmem
        simp [hnone r hr (by simpa using hseq)]
    exact hbody
end

section
/-! An exit into a bin (R153): what counting the piece does to its tray, its record and the census, and what closing the
tray leaves (R128, R155 to R157). -/

namespace Sys2Proof.Machine

/-! ### The piece counted into its tray (R153, steps 1 to 4) -/

/-- A tray with one of its reserved pieces counted, of mass `m`, band `k` and sequence number `n` (R153). -/
def Tray.counted (m k n : Nat) (y : Tray) : Tray :=
  { y with
    reserved := y.reserved - 1, count := y.count + 1
    reservedMass := y.reservedMass - m, mass := y.mass + m
    bandCounts := setNth y.bandCounts (k - 1) (nth y.bandCounts (k - 1) + 1)
    firstSeq := some (y.firstSeq.getD n), lastSeq := some n }

theorem Tray.countPiece_eq {r : Piece} {k : Nat} (h : r.band = some k) (m : Nat) (y : Tray) :
    Tray.countPiece r m y = y.counted m k r.id.seq := by
  have hfirst : y.firstSeq.or (some r.id.seq) = some (y.firstSeq.getD r.id.seq) := by cases y.firstSeq <;> rfl
  simp only [Tray.countPiece, h, hfirst, Tray.counted]

/-- The state once the piece is counted into its tray, its reservation removed and its record given the tray and bin. -/
def State.countInto (tag b : Nat) (x : Reservation) (r : Piece) (s : State) : State :=
  ((s.onReservedTray b x (Tray.countPiece r x.mass)).dropReservation tag).onPiece r.id fun r =>
    { r with tray := some (x.trayId, b) }

section
variable {s : State} {tag b k : Nat} {x : Reservation} {y : Tray} {r : Piece}

theorem State.exitIntoBin_eq (h : s.reservation? tag = some x) :
    s.exitIntoBin tag b r = ((s.countInto tag b x r).finish r.id .binned).closeIfEmptied b := by
  simp only [State.exitIntoBin, h, State.countInto]

theorem State.countInto_values (hb : b ∈ binNumbers) (hy : (s.bin b).tray = some y) (hid : y.id = x.trayId)
    (hk : r.band = some k) :
    (s.countInto tag b x r).bin b = ⟨(s.bin b).state, some (y.counted x.mass k r.id.seq)⟩
      ∧ (∀ j ∈ binNumbers, j ≠ b → (s.countInto tag b x r).bin j = s.bin j)
      ∧ Effects [] [] 0 [.pieces, .bins, .reservations] s (s.countInto tag b x r) := by
  refine ⟨?_, fun j hj hne => State.onTray_bin_ne _ _ hb hj hne, Effects.of_changesOnly (fun c hc => ?_) (by simp)
    (by simp)⟩
  · refine (State.onTray_bin _ _).trans ?_
    rw [hy]
    simp [hid, Tray.countPiece_eq hk]
  · cases c <;> first | rfl | simp at hc

theorem State.countInto_piece? (h : s.piece? r.id = some r) :
    (s.countInto tag b x r).piece? r.id = some { r with tray := some (x.trayId, b) } :=
  (State.piece?_onPiece (s := (s.onReservedTray b x (Tray.countPiece r x.mass)).dropReservation tag)
    (f := fun r => { r with tray := some (x.trayId, b) }) fun _ => rfl).trans (congrArg (Option.map _) h)

end

/-! ### What such an exit leaves (R111, R153) -/

/-- What such an exit leaves: bin `b` is `x'`, and beside the notices and the flag of its tray it sends OUTCOMES before
them and HOLD_CLEARED behind them. -/
def State.BinLeaves (s : State) (b : Nat) (e : TrackEntry) (es : List TrackEntry) (x' : Bin)
    (track plan : List Notice) (fl : FlagSet) (bs : List Block) (t : State) : Prop :=
  exec (.exited .track) s = .next t ∧ t.bin b = x' ∧ (∀ j ∈ binNumbers, j ≠ b → t.bin j = s.bin j)
    ∧ t.bins.reservations = s.bins.reservations.filter (fun z => z.tag != e.tag) ∧ t.track.entries = es
    ∧ t.checker.releaseHold = s.holdLeft
    ∧ Happened (track ++ s.holdLeftNotices) (s.outcomesNotice ++ plan) fl (requestBlocks .track ++ [.entries, .pieces,
        .outcomes, .census, .bins, .reservations, .releaseHold] ++ bs) s t

/-- EXITED reports the bin decided for the queue head: its record is that of the entry, with a band, and its reservation
names the tray that bin `b` holds (R110, R150). -/
structure Binned (pl : List Byte) (b : Nat) (e : TrackEntry) (es : List TrackEntry) (r : Piece) (x : Reservation)
    (y : Tray) (k : Nat) (s : State) : Prop where
  exits : Exits pl (.bin b) (.bin b) e es r s
  stays : ¬ s.ClosesWithout es
  bin : b ∈ binNumbers
  reserved : s.reservation? e.tag = some x
  tray : (s.bin b).tray = some y
  id : y.id = x.trayId
  band : r.band = some k

section
variable {pl : List Byte} {b k : Nat} {e : TrackEntry} {es : List TrackEntry} {r : Piece} {x : Reservation} {y : Tray}
  {s : State}

/-- The state once the piece is counted, before its record finishes, and once it has finished. -/
def State.binCounted (e : TrackEntry) (b : Nat) (x : Reservation) (r : Piece) (s : State) : State :=
  (s.dropFrame .track).countInto e.tag b x r
def State.binFinished (e : TrackEntry) (b : Nat) (x : Reservation) (r : Piece) (s : State) : State :=
  (s.binCounted e b x r).finish r.id .binned

theorem Binned.id_eq (h : Binned pl b e es r x y k s) : r.id = e.piece := (State.piece?_eq_some h.exits.record).1

theorem Binned.record (h : Binned pl b e es r x y k s) : s.piece? r.id = some r := by
  rw [h.id_eq]
  exact h.exits.record

theorem Binned.counted_piece? (h : Binned pl b e es r x y k s) :
    (s.binCounted e b x r).piece? r.id = some { r with tray := some (x.trayId, b) } :=
  State.countInto_piece? (s := s.dropFrame .track) h.record

theorem Binned.counted_values (h : Binned pl b e es r x y k s) :
    (s.binCounted e b x r).bin b = ⟨(s.bin b).state, some (y.counted x.mass k r.id.seq)⟩
      ∧ (∀ j ∈ binNumbers, j ≠ b → (s.binCounted e b x r).bin j = s.bin j)
      ∧ Effects [] [] 0 [.pieces, .bins, .reservations] (s.dropFrame .track) (s.binCounted e b x r) :=
  State.countInto_values (s := s.dropFrame .track) h.bin h.tray h.id h.band

theorem Binned.applyExit_eq (h : Binned pl b e es r x y k s) :
    (s.dropFrame .track).applyExit e (.bin b) (.bin b) = (s.binFinished e b x r).closeIfEmptied b :=
  (State.applyExit_bin (s := s.dropFrame .track) h.exits.record).trans
    (State.exitIntoBin_eq (s := s.dropFrame .track) h.reserved)

theorem Binned.outcomesNotice_eq : (s.binCounted e b x r).outcomesNotice = s.outcomesNotice := by
  simp only [State.outcomesNotice]
  rfl

/-- What the finished record and the closing of its tray leave: the entry leaves the queue (R111). -/
theorem Binned.leaves (h : Binned pl b e es r x y k s) {x' : Bin} {track plan : List Notice} {fl : FlagSet}
    {bs : List Block} {v : State} (hv : (s.binFinished e b x r).closeIfEmptied b = v) (hbin : v.bin b = x')
    (hother : ∀ j ∈ binNumbers, j ≠ b → v.bin j = s.bin j)
    (heff : Effects track (s.outcomesNotice ++ plan) fl
      [.pieces, .outcomes, .census, .bins, .reservations, .closedTrays, .delivery] (s.dropFrame .track) v)
    (hfree : s.bins.stall = none ∨ x'.state = (s.bin b).state)
    (hbs : ∀ c ∈ [Block.closedTrays, .delivery], c ∉ bs → c.same s v) :
    ∃ t, s.BinLeaves b e es x' track plan fl bs t ∧ t.bins = v.bins ∧ t.census = v.census := by
  obtain ⟨hrun, hreservations⟩ := State.exitIntoBin_values (s := s.dropFrame .track) (b := b) h.reserved h.record
    h.exits.live
  rw [State.exitIntoBin_eq (s := s.dropFrame .track) h.reserved, show (((s.dropFrame .track).countInto e.tag b x r).finish
    r.id .binned).closeIfEmptied b = v from hv] at hrun hreservations
  rw [h.id_eq] at hrun
  have hfreed : v.bins.stall = none ∨ ∀ j ∈ binNumbers, (v.bin j).state = .free → (s.bin j).state = .free := by
    refine hfree.imp (fun hs => (heff.frame .stall (by decide)).trans hs) fun hstate j hj hf => ?_
    by_cases hjb : j = b
    · rw [hjb] at hf ⊢
      rw [← hstate, ← hbin]
      exact hf
    · rwa [← hother j hj hjb]
  obtain ⟨t, hexec, hleft, -, -, -, hrest⟩ := h.exits.exec_eq (g := fun y =>
    Piece.finish .binned { y with tray := some (x.trayId, b) }) (h.applyExit_eq.trans hv) (fun _ => rfl) hrun
  obtain ⟨htBins, htCensus, htEntries, hhap⟩ := hrest _ _ _ _ h.stays heff hfreed (by decide)
  refine ⟨t, ⟨hexec, (State.bin_congr _ htBins).trans hbin, fun j hj hne =>
    (State.bin_congr _ htBins).trans (hother j hj hne), by rw [htBins, hreservations]; rfl, htEntries, hleft.hold,
    hhap.restrict fun c hc hnot => ?_⟩, htBins, htCensus⟩
  rw [List.mem_append, not_or] at hnot
  obtain ⟨hmain, hcbs⟩ := hnot
  have hblock : c = .closedTrays ∨ c = .delivery := by
    clear hbs hcbs
    revert c
    decide
  rcases hblock with rfl | rfl
  · exact (congrArg BinManager.closedTrays htBins).trans (hbs .closedTrays (by decide) hcbs)
  · exact (congrArg BinManager.delivery htBins).trans (hbs .delivery (by decide) hcbs)

/-! ### A finishing that ends no group (R126) -/

/-- The finished record lowers its count, and no tray changes with it. -/
theorem Binned.finished_quietly (h : Binned pl b e es r x y k s) (hq : s.FallsQuietly r) :
    (s.binFinished e b x r).census = s.censusLess r
      ∧ (s.binFinished e b x r).bin b = ⟨(s.bin b).state, some (y.counted x.mass k r.id.seq)⟩
      ∧ (∀ j ∈ binNumbers, j ≠ b → (s.binFinished e b x r).bin j = s.bin j)
      ∧ Effects [] s.outcomesNotice 0 [.pieces, .outcomes, .census, .bins, .reservations] (s.dropFrame .track)
          (s.binFinished e b x r) := by
  obtain ⟨hbin, hother, heff⟩ := h.counted_values
  obtain ⟨hquiet, hless⟩ := hq.congr (t := s.binCounted e b x r) (q := { r with tray := some (x.trayId, b) })
    (heff.frame .census (by decide)) (heff.frame .active (by decide)) ⟨rfl, rfl⟩
  obtain ⟨hcensus, hbins, hfinish⟩ := State.finish_quietly (d := .binned) h.counted_piece?
    (by simp [h.exits.live]) hquiet
  rw [Binned.outcomesNotice_eq] at hfinish
  exact ⟨hcensus.trans hless, (State.bin_congr _ hbins).trans hbin, fun j hj hne =>
    (State.bin_congr _ hbins).trans (hother j hj hne),
    ((heff.mono (by decide)).trans (hfinish.mono (by decide))).congr rfl rfl (by simp)⟩

/-- The report of a closed tray of the piece's own group removes no census entry while another piece is counted with it
(R128, R132). -/
theorem State.trayClosedReport_ownLess {u : State} {g : TrayGroup} (h : s.FallsQuietly r) (hg : s.OwnGroup r g)
    (hc : u.census = s.censusLess r) : u.trayClosedReport g = u := by
  have hfall (hcounted : r.census = .counted) : ∃ n l, n ≠ 0
      ∧ findFine u.census (r.key.take s.profile.sort.fineLength) = some (n, l) := by
    obtain ⟨⟨n, l, hfine, hn⟩, -⟩ := h hcounted
    refine ⟨n - 1, l, by omega, ?_⟩
    rw [hc, State.censusLess_counted hcounted]
    exact findFine_onFine hfine
  cases g with
  | mixed => rfl
  | rule k => rfl
  | fine d =>
    obtain ⟨hcounted, rfl⟩ := hg
    obtain ⟨n, l, hn, hfine⟩ := hfall hcounted
    exact State.removeFineIfDone_stays hfine hn
  | area a =>
    obtain ⟨hcounted, rfl⟩ := hg
    obtain ⟨n, l, -, hfine⟩ := hfall hcounted
    exact State.removeAreaIfDone_stays hfine _

/-- An OPEN tray stays OPEN, and a CLOSING one with another place reserved stays CLOSING (R153). -/
theorem Binned.keeps (h : Binned pl b e es r x y k s) (hq : s.FallsQuietly r)
    (hplace : y.state = .opened ∨ 2 ≤ y.reserved) :
    ∃ t, s.BinLeaves b e es ⟨(s.bin b).state, some (y.counted x.mass k r.id.seq)⟩ [] [] 0 [] t
      ∧ t.census = s.censusLess r := by
  obtain ⟨hcensus, hbin, hother, heff⟩ := h.finished_quietly hq
  have hstay : (s.binFinished e b x r).closeIfEmptied b = s.binFinished e b x r :=
    State.closeIfEmptied_stays (congrArg Bin.tray hbin)
      (hplace.imp (fun h => by simp [Tray.counted, h]) fun h => by simp only [Tray.counted]; omega)
  obtain ⟨t, ht, -, htc⟩ := h.leaves hstay hbin hother
    ((heff.mono (by decide)).congr rfl (List.append_nil _).symm rfl) (.inr rfl) (bs := []) (by
      rintro c hc -
      rcases List.mem_pair.1 hc with rfl | rfl
      · exact heff.frame .closedTrays (by decide)
      · exact heff.frame .delivery (by decide))
  exact ⟨t, ht, htc.trans hcensus⟩

/-- The last place of a CLOSING tray, with room in the closed-tray list (R156, R157). -/
theorem Binned.delivers (h : Binned pl b e es r x y k s) (hq : s.FallsQuietly r) (hclosing : y.state = .closing)
    (hlast : y.reserved ≤ 1) (hown : s.OwnGroup r y.group) (hqueue : s.bins.delivery = [])
    (hroom : s.bins.closedTrays.length < 64) (hstall : s.bins.stall = none) :
    ∃ t, s.BinLeaves b e es (s.deliveredBin b) (s.deliveredNotices b)
        (.trayClosed y.id y.run y.bin y.reason :: s.deliveredNotices b) 0 [.closedTrays] t
      ∧ t.census = s.censusLess r
      ∧ t.bins.closedTrays = s.bins.closedTrays ++ [{ y.counted x.mass k r.id.seq with state := .closed }] := by
  obtain ⟨hcensus, hfinished, hfinishedOther, hfinishedEff⟩ := h.finished_quietly hq
  have hlist : (s.binFinished e b x r).bins.closedTrays = s.bins.closedTrays :=
    hfinishedEff.frame .closedTrays (by decide)
  have hdelivery : (s.binFinished e b x r).bins.delivery = s.bins.delivery := hfinishedEff.frame .delivery (by decide)
  have hreport : ((s.binFinished e b x r).markClosed b).trayClosedReport (y.counted x.mass k r.id.seq).group
      = (s.binFinished e b x r).markClosed b := State.trayClosedReport_ownLess hq hown hcensus
  have hreserved : (y.counted x.mass k r.id.seq).reserved = 0 := by simp only [Tray.counted]; omega
  obtain ⟨hbin, hother, hclosed, heff⟩ := State.closeIfEmptied_delivers h.bin (congrArg Bin.tray hfinished) hclosing
    hreserved hreport (by rw [hlist]; exact hroom) (by rw [hdelivery]; exact hqueue)
  have hfrees : (s.binFinished e b x r).frees b ((s.binFinished e b x r).bin b).state = s.frees b (s.bin b).state := by
    rw [hfinished]
    exact State.frees_congr (hfinishedEff.frame .active (by decide)) (hfinishedEff.frame .headTable (by decide)) _
  have hkept : ((s.binFinished e b x r).closeIfEmptied b).census = s.censusLess r := by
    rw [← hcensus]
    exact heff.frame .census (by simp)
  rw [State.deliveredBin, hfrees, hfinished] at hbin
  rw [State.deliveredNotices, hfrees] at heff
  obtain ⟨t, ht, htb, htc⟩ := h.leaves rfl hbin
    (fun j hj hne => (hother j hj hne).trans (hfinishedOther j hj hne))
    (((hfinishedEff.mono (by decide)).trans (heff.mono (by decide))).congr rfl rfl (BitVec.zero_or)) (.inl hstall)
    (bs := [.closedTrays]) (by
      rintro c hc hnot
      rcases List.mem_pair.1 hc with rfl | rfl
      · exact absurd (by decide) hnot
      · exact (heff.frame .delivery (by decide)).trans hdelivery)
  exact ⟨t, ht, htc.trans hkept, by rw [htb, hclosed, hlist]⟩

/-- The same with the closed-tray list full (R157). -/
theorem Binned.waits (h : Binned pl b e es r x y k s) (hq : s.FallsQuietly r) (hclosing : y.state = .closing)
    (hlast : y.reserved ≤ 1) (hown : s.OwnGroup r y.group) (hfull : 64 ≤ s.bins.closedTrays.length) :
    ∃ t, s.BinLeaves b e es ⟨(s.bin b).state, some { y.counted x.mass k r.id.seq with state := .closed }⟩ [] []
        StickyFlag.trayListFull.bit [.delivery] t
      ∧ t.census = s.censusLess r ∧ t.bins.delivery = s.bins.delivery ++ [b] := by
  obtain ⟨hcensus, hfinished, hfinishedOther, hfinishedEff⟩ := h.finished_quietly hq
  have hlist : (s.binFinished e b x r).bins.closedTrays = s.bins.closedTrays :=
    hfinishedEff.frame .closedTrays (by decide)
  have hdelivery : (s.binFinished e b x r).bins.delivery = s.bins.delivery := hfinishedEff.frame .delivery (by decide)
  have hreport : ((s.binFinished e b x r).markClosed b).trayClosedReport (y.counted x.mass k r.id.seq).group
      = (s.binFinished e b x r).markClosed b := State.trayClosedReport_ownLess hq hown hcensus
  have hreserved : (y.counted x.mass k r.id.seq).reserved = 0 := by simp only [Tray.counted]; omega
  obtain ⟨hbin, hother, hjoined, heff⟩ := State.closeIfEmptied_waits h.bin (congrArg Bin.tray hfinished) hclosing
    hreserved hreport (by rw [hlist]; exact hfull)
  have hkept : ((s.binFinished e b x r).closeIfEmptied b).census = s.censusLess r := by
    rw [← hcensus]
    exact heff.frame .census (by decide)
  rw [hfinished] at hbin
  obtain ⟨t, ht, htb, htc⟩ := h.leaves rfl hbin
    (fun j hj hne => (hother j hj hne).trans (hfinishedOther j hj hne))
    (((hfinishedEff.mono (by decide)).trans (heff.mono (by decide))).congr rfl rfl (BitVec.zero_or)) (.inr rfl)
    (bs := [.delivery]) (by
      rintro c hc hnot
      rcases List.mem_pair.1 hc with rfl | rfl
      · exact (heff.frame .closedTrays (by decide)).trans hlist
      · exact absurd (by decide) hnot)
  exact ⟨t, ht, htc.trans hkept, by rw [htb, hjoined, hdelivery]⟩

end

end Sys2Proof.Machine
end

section
/-! The last counted piece of a FINE group (R127, R128, R130, R155): the group end closes its OPEN tray, and the fine
entry, and an area entry with nothing beneath it, are removed. -/

namespace Sys2Proof.Machine

/-! ### The report of a closed tray (R128) -/

section
variable {s t : State} {b : Nat} {y : Tray}

theorem State.onCensus_effects (f : List CensusEntry → List CensusEntry) (s : State) :
    Effects [] [] 0 [.census] s (s.onCensus f) := by
  refine Effects.of_changesOnly (fun c hc => ?_) (by simp) (by simp)
  cases c <;> first | rfl | simp at hc

theorem State.removeAreaIfDone_effects (a : List Nat) (s : State) :
    Effects [] [] 0 [.census] s (s.removeAreaIfDone a) := by
  unfold State.removeAreaIfDone
  split
  · exact State.onCensus_effects _ s
  · exact Effects.refl _ s

theorem State.removeFineIfDone_effects (d : List Nat) (s : State) :
    Effects [] [] 0 [.census] s (s.removeFineIfDone d) := by
  unfold State.removeFineIfDone
  split
  · exact (State.onCensus_effects _ s).after (State.removeAreaIfDone_effects _ _)
  · exact Effects.refl _ s

/-- The report of a closed tray changes the census alone. -/
theorem State.trayClosedReport_effects (g : TrayGroup) (s : State) :
    Effects [] [] 0 [.census] s (s.trayClosedReport g) := by
  cases g with
  | fine d => exact State.removeFineIfDone_effects d s
  | area a => exact State.removeAreaIfDone_effects a s
  | mixed => exact Effects.refl _ s
  | rule k => exact Effects.refl _ s

/-- An emptied tray that becomes CLOSED is reported to the census and, with room and no tray before it, delivered at once
(R156, R157). -/
theorem State.closeIfEmptied_reports (hb : b ∈ binNumbers) (hy : (s.bin b).tray = some y) (hc : y.state = .closing)
    (hr : y.reserved = 0) (h : s.bins.closedTrays.length < 64) (hd : s.bins.delivery = []) :
    (s.closeIfEmptied b).bin b = s.deliveredBin b
      ∧ (∀ j ∈ binNumbers, j ≠ b → (s.closeIfEmptied b).bin j = s.bin j)
      ∧ (s.closeIfEmptied b).bins.closedTrays = s.bins.closedTrays ++ [{ y with state := .closed }]
      ∧ Effects (s.deliveredNotices b) (.trayClosed y.id y.run y.bin y.reason :: s.deliveredNotices b) 0
          [.bins, .closedTrays, .census] s (s.closeIfEmptied b) := by
  let u := (s.markClosed b).trayClosedReport y.group
  have hu : Effects [] [] 0 [.bins, .closedTrays, .census] s u :=
    ((s.onTray_effects _).mono (by simp)).after ((State.trayClosedReport_effects _ _).mono (by simp))
  have hubins : u.bins = (s.markClosed b).bins := by simp [u]
  have hubin : u.bin b = ⟨(s.bin b).state, some { y with state := .closed }⟩ :=
    (State.bin_congr _ hubins).trans (State.markClosed_bin hy)
  have hfrees (st : BinState) : u.frees b st = s.frees b st :=
    State.frees_congr (hu.frame .active (by simp)) (hu.frame .headTable (by simp)) st
  have hbin : u.deliveredBin b = s.deliveredBin b := by simp only [State.deliveredBin, hubin, hfrees]
  have hnotices : u.deliveredNotices b = s.deliveredNotices b := by simp only [State.deliveredNotices, hubin, hfrees]
  obtain ⟨hbins, hother, hclosed, -, heff⟩ := State.joinDelivery_delivers (s := u) (by rw [hubins]; exact h)
    (by rw [hubins]; exact hd) hb (congrArg Bin.tray hubin)
  rw [hbin] at hbins
  rw [hnotices] at heff
  rw [State.closeIfEmptied_closes hy hc hr]
  refine ⟨hbins, fun j hj hne => ?_, hclosed.trans (by rw [hubins]; rfl), hu.after (heff.mono (by simp))⟩
  rw [hother j hj hne, State.bin_congr _ hubins]
  exact State.onTray_bin_ne _ _ hb hj hne

/-- An OPEN tray with nothing reserved in it that begins closing is reported and delivered in the same step (R155 to
R157). -/
theorem State.beginClosing_reports {reason : CloseReason} (hb : b ∈ binNumbers) (hy : (s.bin b).tray = some y)
    (ho : y.state = .opened) (hr : y.reserved = 0) (h : s.bins.closedTrays.length < 64) (hd : s.bins.delivery = [])
    {x : Bin} (hx : x = (s.bin b).closing reason y) {freed : List Notice}
    (hf : freed = if s.frees b x.state then [.binState b .free none] else []) :
    (s.beginClosing b reason).bin b = ⟨if s.frees b x.state then .free else x.state, none⟩
      ∧ (∀ j ∈ binNumbers, j ≠ b → (s.beginClosing b reason).bin j = s.bin j)
      ∧ (s.beginClosing b reason).bins.closedTrays
          = s.bins.closedTrays ++ [{ y with state := .closed, reason := some reason }]
      ∧ Effects ((s.bin b).closingNotices b y ++ freed)
          ((s.bin b).closingNotices b y ++ .trayClosed y.id y.run y.bin (some reason) :: freed) 0
          [.bins, .closedTrays, .census] s (s.beginClosing b reason) := by
  obtain ⟨hstart, hstartOther, hstartEff⟩ := State.startClosing_values (reason := reason) hb hy
  have hclosed : (s.startClosing b reason).bins.closedTrays = s.bins.closedTrays :=
    hstartEff.frame .closedTrays (by simp)
  have hdelivery : (s.startClosing b reason).bins.delivery = s.bins.delivery := hstartEff.frame .delivery (by simp)
  have hfrees (st : BinState) : (s.startClosing b reason).frees b st = s.frees b st :=
    State.frees_congr (hstartEff.frame .active (by simp)) (hstartEff.frame .headTable (by simp)) st
  obtain ⟨hbin, hother, hlist, heff⟩ := State.closeIfEmptied_reports hb (State.startClosing_tray hb hy) rfl hr
    (by rw [hclosed]; exact h) (by rw [hdelivery]; exact hd)
  rw [State.deliveredNotices, hstart, hfrees, ← hx, ← hf] at heff
  rw [State.deliveredBin, hstart, hfrees, ← hx] at hbin
  rw [State.beginClosing_opened hy ho]
  refine ⟨hbin, fun j hj hne => by rw [hother j hj hne, hstartOther j hj hne], by rw [hlist, hclosed], ?_⟩
  exact ((hstartEff.mono (by simp)).trans heff).congr rfl rfl (by simp)

/-- A bin that holds no tray has none to close. -/
theorem State.closeIfEmptied_of_no_tray (h : (s.bin b).tray = none) : s.closeIfEmptied b = s := by
  unfold State.closeIfEmptied
  rw [h]

/-! ### The trays of a group beside one that is CLOSED or gone -/

/-- Some bin other than `b` holds a tray of the group that is not yet CLOSED. -/
def State.heldBeside (s : State) (b : Nat) (g : TrayGroup) : Prop :=
  ∃ j ∈ binNumbers, j ≠ b ∧ ∃ z, (s.bin j).tray = some z ∧ z.group = g ∧ z.state ≠ .closed

theorem State.holdsUnclosed_iff_beside (hclosed : ∀ z, (t.bin b).tray = some z → z.state = .closed)
    (hother : ∀ j ∈ binNumbers, j ≠ b → t.bin j = s.bin j) (g : TrayGroup) :
    t.holdsUnclosed g = true ↔ s.heldBeside b g := by
  rw [State.holdsUnclosed_iff]
  refine exists_congr fun j => and_congr_right fun hj => ?_
  by_cases hjb : j = b
  · subst hjb
    exact ⟨fun ⟨z, hz, _, hstate⟩ => absurd (hclosed z hz) hstate, fun h => absurd rfl h.1⟩
  · rw [hother j hj hjb]
    exact ⟨fun h => ⟨hjb, h⟩, fun h => h.2⟩

end

/-! ### The eligible count and the removal of entries (R128, R129) -/

section
variable {u : State} {d a : List Nat}

/-- Entries that add nothing to the eligible count may go. -/
theorem eligibleCount_filter {m : Nat} {p : CensusEntry → Bool} {c : List CensusEntry}
    (h : ∀ e ∈ c, p e = false → e.eligible m a = 0) : eligibleCount m a (c.filter p) = eligibleCount m a c := by
  induction c with
  | nil => rfl
  | cons e c ih =>
    have hrest := ih fun x hx => h x (List.mem_cons_of_mem _ hx)
    unfold eligibleCount at hrest ⊢
    cases hp : p e with
    | true => simp [hp, hrest]
    | false => simp [hp, hrest, h e List.mem_cons_self hp]

theorem CensusEntry.eligible_of_not_fine {e : CensusEntry} {m : Nat} (h : e.kind.isFine = false) :
    e.eligible m a = 0 := by
  unfold CensusEntry.eligible
  split
  · simp_all [EntryKind.isFine]
  · rfl

theorem CensusEntry.eligible_of_level_fine {e : CensusEntry} {m n : Nat} (h : e.kind = .fine n .fine) :
    e.eligible m a = 0 := by
  simp [CensusEntry.eligible, h]

theorem State.removeAreaIfDone_eligible (a' : List Nat) : (u.removeAreaIfDone a').eligible a = u.eligible a := by
  unfold State.removeAreaIfDone
  split
  · exact eligibleCount_filter fun e _ he => CensusEntry.eligible_of_not_fine (by simp_all)
  · rfl

/-- Removing fine entries of level FINE changes no eligible count. -/
theorem State.removeFineIfDone_eligible
    (h : ∀ e ∈ u.census, e.kind.isFine = true → e.digits = d → ∃ n, e.kind = .fine n .fine) :
    (u.removeFineIfDone d).eligible a = u.eligible a := by
  unfold State.removeFineIfDone
  split
  · refine (State.removeAreaIfDone_eligible _).trans (eligibleCount_filter fun e he hp => ?_)
    simp only [Bool.or_eq_false_iff, Bool.not_eq_false', bne_eq_false_iff_eq] at hp
    obtain ⟨n, hn⟩ := h e he hp.1 hp.2
    exact CensusEntry.eligible_of_level_fine hn
  · rfl

/-- A change of the count of fine entries of level FINE changes no eligible count. -/
theorem eligibleCount_onFine {m : Nat} {f : Nat → Nat} {c : List CensusEntry}
    (h : ∀ e ∈ c, e.kind.isFine = true → e.digits = d → ∃ n, e.kind = .fine n .fine) :
    eligibleCount m a (onFine d (CensusEntry.onCount f) c) = eligibleCount m a c := by
  simp only [eligibleCount, onFine, List.map_map]
  refine congrArg List.sum (List.map_congr_left fun e he => ?_)
  rw [Function.comp_apply]
  split
  · next hp =>
    simp only [Bool.and_eq_true, beq_iff_eq] at hp
    obtain ⟨n, hn⟩ := h e he hp.1 hp.2
    rw [CensusEntry.eligible_of_level_fine hn,
      CensusEntry.eligible_of_level_fine (n := f n) (by simp [CensusEntry.onCount, hn])]
  · rfl

/-- The census without the fine entry of some digits. -/
def withoutFine (d : List Nat) (c : List CensusEntry) : List CensusEntry :=
  c.filter fun z => !z.kind.isFine || z.digits != d

theorem withoutFine_onFine (f : Nat → Nat) (c : List CensusEntry) :
    withoutFine d (onFine d (CensusEntry.onCount f) c) = withoutFine d c := by
  induction c with
  | nil => rfl
  | cons e c ih =>
    unfold withoutFine onFine at ih ⊢
    rw [List.map_cons, List.filter_cons, List.filter_cons, ih]
    by_cases h : (e.kind.isFine && e.digits == d) = true
    · simp only [Bool.and_eq_true, beq_iff_eq] at h
      simp [h]
    · simp [h]

theorem findFine_eq_none {c : List CensusEntry} (h : ∀ e ∈ c, e.kind.isFine = true → e.digits ≠ d) :
    findFine c d = none := by
  have hnone : (c.find? fun e => e.kind.isFine && e.digits == d) = none := by
    simpa [List.find?_eq_none] using h
  unfold findFine
  rw [hnone]

theorem findArea_isSome_of_mem {c : List CensusEntry} {e : CensusEntry} (he : e ∈ c) (hf : e.kind.isFine = false)
    (hd : e.digits = a) : (findArea c a).isSome = true := by
  unfold findArea
  cases hfind : c.find? fun e => !e.kind.isFine && e.digits == a with
  | none => exact absurd (List.find?_eq_none.1 hfind e he) (by simp [hf, hd])
  | some z =>
    obtain ⟨digits, kind⟩ := z
    have hz := List.find?_some hfind
    cases kind with
    | area l => rfl
    | fine n l => simp [EntryKind.isFine] at hz

/-- What the removal test of an area entry leaves of the census. -/
theorem State.removeAreaIfDone_census :
    ((∃ z ∈ u.census, z.kind.isFine = true ∧ a <+: z.digits) ∨ u.holdsUnclosed (.area a) = true →
        (u.removeAreaIfDone a).census = u.census)
      ∧ (¬ (∃ z ∈ u.census, z.kind.isFine = true ∧ a <+: z.digits) → ¬ u.holdsUnclosed (.area a) = true →
        (u.removeAreaIfDone a).census = u.census.filter fun z => z.kind.isFine || z.digits != a) := by
  have hany : (u.census.any fun e => e.kind.isFine && a.isPrefixOf e.digits) = true ↔
      ∃ z ∈ u.census, z.kind.isFine = true ∧ a <+: z.digits := by
    simp [List.any_eq_true]
  rw [← hany]
  unfold State.removeAreaIfDone
  refine ⟨fun h => ?_, fun hunder hheld => ?_⟩
  · rw [if_neg]
    rintro hcond
    simp only [Bool.and_eq_true, Bool.not_eq_true'] at hcond
    obtain ⟨⟨-, hnot⟩, hnone⟩ := hcond
    exact h.elim (fun h => by simp [hnot] at h) fun h => by simp [hnone] at h
  · by_cases harea : (findArea u.census a).isSome = true
    · rw [if_pos]
      · rfl
      · simp only [harea, Bool.true_and, Bool.and_eq_true, Bool.not_eq_true']
        exact ⟨Bool.eq_false_iff.2 hunder, Bool.eq_false_iff.2 hheld⟩
    · rw [if_neg (by simp [harea])]
      refine (List.filter_eq_self.2 fun e he => ?_).symm
      cases hf : e.kind.isFine with
      | true => rfl
      | false =>
        have hne : e.digits ≠ a := fun hd => harea (findArea_isSome_of_mem he hf hd)
        simpa using hne

/-- What the removal test of a fine entry whose count is 0 leaves of the census. -/
theorem State.removeFineIfDone_census {l : FineLevel} (h : findFine u.census d = some (0, l)) :
    (u.removeFineIfDone d).census = if u.holdsUnclosed (.fine d) then u.census
      else ((u.onCensus fun _ => withoutFine d u.census).removeAreaIfDone (u.profile.sort.areaPrefix d)).census := by
  unfold State.removeFineIfDone
  by_cases hheld : u.holdsUnclosed (.fine d) = true
  · rw [if_neg (by simp [hheld]), if_pos hheld]
  · rw [if_pos (by simp [h, hheld]), if_neg hheld]
    rfl

/-- The removal test of a fine entry, made again with the same trays held, finds nothing to remove. -/
theorem State.removeFineIfDone_again {t : State} {l : FineLevel} (h : findFine u.census d = some (0, l))
    (ht : t.census = (u.removeFineIfDone d).census) (hheld : t.holdsUnclosed (.fine d) = u.holdsUnclosed (.fine d)) :
    t.removeFineIfDone d = t := by
  refine if_neg ?_
  by_cases hu : u.holdsUnclosed (.fine d) = true
  · simp [hheld, hu]
  · have hsub : ∀ e ∈ t.census, e ∈ withoutFine d u.census := by
      rw [ht, State.removeFineIfDone_census h, if_neg hu]
      unfold State.removeAreaIfDone
      split
      · exact fun e he => List.mem_of_mem_filter he
      · exact fun e he => he
    have hnone : findFine t.census d = none := findFine_eq_none fun e he hf => by
      simpa [hf] using (List.mem_filter.1 (hsub e he)).2
    simp [hnone]

end

/-! ### The group end of a FINE group (R127, R130) -/

section
variable {s : State} {b : Nat} {r : Piece} {y : Tray}

theorem State.openTrayBin_some {g : TrayGroup} (hb : b ∈ binNumbers) (hy : (s.bin b).tray = some y) (hg : y.group = g)
    (ho : y.state = .opened)
    (h : ∀ j ∈ binNumbers, ∀ z, (s.bin j).tray = some z → z.group = g → z.state = .opened → j = b) :
    s.openTrayBin g = some b := by
  unfold State.openTrayBin
  cases hfind : binNumbers.find? fun j => match (s.bin j).tray with
      | some t => t.group == g && t.state == .opened
      | none => false with
  | none =>
    have hnot := List.find?_eq_none.1 hfind b hb
    simp [hy, hg, ho] at hnot
  | some j =>
    have hj := List.find?_some hfind
    cases hz : (s.bin j).tray with
    | none => simp [hz] at hj
    | some z =>
      simp only [hz, Bool.and_eq_true, beq_iff_eq] at hj
      rw [h j (List.mem_of_find?_eq_some hfind) z hz hj.1 hj.2]

/-- The state once the fine count of a piece has fallen. -/
def State.fallen (r : Piece) (s : State) : State := s.onCensus fun _ => s.censusLess r

/-- The fall to 0 of the count of a FINE group closes its one OPEN tray, and the tests after it find nothing to do. -/
theorem State.withdraw_ends (hc : r.census = .counted)
    (hfine : findFine s.census (s.profile.sort.finePrefix r.key) = some (1, .fine))
    (hall : ∀ z ∈ s.census, z.kind.isFine = true → z.digits = s.profile.sort.finePrefix r.key → z.kind = .fine 1 .fine)
    (hb : b ∈ binNumbers) (hy : (s.bin b).tray = some y) (hg : y.group = .fine (s.profile.sort.finePrefix r.key))
    (ho : y.state = .opened) (hr : y.reserved = 0)
    (hone : ∀ j ∈ binNumbers, ∀ z, (s.bin j).tray = some z → z.group = .fine (s.profile.sort.finePrefix r.key) →
      z.state = .opened → j = b)
    (hroom : s.bins.closedTrays.length < 64) (hd : s.bins.delivery = []) :
    s.withdraw r = (s.fallen r).beginClosing b .groupEnd
      ∧ ((s.fallen r).beginClosing b .groupEnd).census
        = (((s.fallen r).markClosed b).removeFineIfDone (s.profile.sort.finePrefix r.key)).census := by
  generalize hdEq : s.profile.sort.finePrefix r.key = d at hfine hall hg hone
  have hless : s.censusLess r = onFine d (CensusEntry.onCount (· - 1)) s.census := by
    rw [State.censusLess_counted hc, hdEq]
  have hfall : findFine (s.fallen r).census d = some (0, .fine) := by
    refine (congrArg (findFine · d) hless).trans (findFine_onFine hfine)
  have hend : (s.fallen r).groupEnd (.fine d) = (s.fallen r).beginClosing b .groupEnd := by
    have hbin : (s.fallen r).openTrayBin (.fine d) = some b :=
      State.openTrayBin_some (s := s.fallen r) hb hy hg ho hone
    simp only [State.groupEnd, hbin]
  let v := (s.fallen r).beginClosing b .groupEnd
  let u := (s.fallen r).markClosed b
  have hcensus : v.census = (u.removeFineIfDone d).census := by
    have h := State.beginClosing_census (s := s.fallen r) (reason := .groupEnd) hb hy ho hr
    rwa [hg] at h
  obtain ⟨hbin, hother, -, heff⟩ := State.beginClosing_reports (s := s.fallen r) (reason := .groupEnd) hb hy ho hr hroom
    hd rfl rfl
  have heligible (a : List Nat) : v.eligible a = s.eligible a := by
    have hfineAll : ∀ e ∈ s.census, e.kind.isFine = true → e.digits = d → ∃ n, e.kind = .fine n .fine :=
      fun e he hf hde => ⟨1, hall e he hf hde⟩
    have hfallenAll : ∀ e ∈ u.census, e.kind.isFine = true → e.digits = d → ∃ n, e.kind = .fine n .fine := by
      intro e he hf hde
      rw [show u.census = onFine d (CensusEntry.onCount (· - 1)) s.census from hless, onFine, List.mem_map] at he
      obtain ⟨z, hz, rfl⟩ := he
      split at hf
      · next hp =>
        simp only [Bool.and_eq_true, beq_iff_eq] at hp
        exact ⟨0, by rw [if_pos (by simpa using hp), CensusEntry.onCount, hall z hz hp.1 hp.2]⟩
      · next hp => exact absurd hf (by simp_all)
    have hprofile : v.profile = s.profile := heff.frame .active (by simp)
    calc v.eligible a = (u.removeFineIfDone d).eligible a := by
            simp only [State.eligible, hcensus, hprofile, show (u.removeFineIfDone d).profile = s.profile from
              (State.removeFineIfDone_effects d u).frame .active (by simp)]
      _ = u.eligible a := State.removeFineIfDone_eligible hfallenAll
      _ = s.eligible a := by
            rw [State.eligible, show u.census = onFine d (CensusEntry.onCount (· - 1)) s.census from hless]
            exact eligibleCount_onFine hfineAll
  have harea (a : List Nat) : v.areaTest a (s.eligible a) = v := by
    refine if_neg fun hcond => ?_
    simp only [Bool.and_eq_true, decide_eq_true_eq, beq_iff_eq, heligible] at hcond
    omega
  have hheld : v.holdsUnclosed (.fine d) = u.holdsUnclosed (.fine d) := by
    have hmarked : ∀ z, (u.bin b).tray = some z → z.state = .closed := fun z hz => by
      rw [State.markClosed_bin (s := s.fallen r) hy] at hz
      cases hz
      rfl
    exact Bool.eq_iff_iff.2 ((State.holdsUnclosed_iff_beside (fun z hz => by simp [hbin] at hz) hother _).trans
      (State.holdsUnclosed_iff_beside hmarked (fun j hj hne => State.onTray_bin_ne _ _ hb hj hne) _).symm)
  refine ⟨?_, hcensus⟩
  have hwithdraw : s.withdraw r = s.countFalls d := by simp only [State.withdraw, hc, hdEq]
  have hcensusFn : s.onCensus (onFine d (CensusEntry.onCount (· - 1))) = s.fallen r := by
    rw [State.fallen, hless]
    rfl
  rw [hwithdraw, State.countFalls, hcensusFn, if_pos (by simp [hfall]), hend, harea,
    State.removeFineIfDone_again (u := u) hfall hcensus hheld]

end

section
variable {pl : List Byte} {b k : Nat} {e : TrackEntry} {es : List TrackEntry} {r : Piece} {x : Reservation} {y : Tray}
  {s : State}

/-- The last counted piece of a FINE group, into its OPEN tray (R130, R153, R155). -/
theorem Binned.endsGroup (h : Binned pl b e es r x y k s) {d a : List Nat} (hdEq : s.profile.sort.finePrefix r.key = d)
    (haEq : s.profile.sort.areaPrefix d = a) (hc : r.census = .counted) (hfine : findFine s.census d = some (1, .fine))
    (hall : ∀ z ∈ s.census, z.kind.isFine = true → z.digits = d → z.kind = .fine 1 .fine)
    (hg : y.group = .fine d) (ho : y.state = .opened) (hr : y.reserved ≤ 1)
    (hone : ∀ j ∈ binNumbers, ∀ z, (s.bin j).tray = some z → z.group = .fine d → z.state = .opened → j = b)
    (hdelivery : s.bins.delivery = []) (hroom : s.bins.closedTrays.length < 64) (hstall : s.bins.stall = none)
    {st : BinState}
    (hst : st = if (s.bin b).state = .fault ∨ (s.bin b).state = .offline then (s.bin b).state else .fullWait)
    {freed : List Notice} (hf : freed = if s.frees b st then [.binState b .free none] else []) :
    ∃ t, s.BinLeaves b e es ⟨if s.frees b st then .free else st, none⟩ ((s.bin b).closingNotices b y ++ freed)
        ((s.bin b).closingNotices b y ++ .trayClosed y.id y.run y.bin (some .groupEnd) :: freed) 0 [.closedTrays] t
      ∧ t.bins.closedTrays = s.bins.closedTrays
        ++ [{ y.counted x.mass k r.id.seq with state := .closed, reason := some .groupEnd }]
      ∧ (s.heldBeside b (.fine d) → t.census = s.censusLess r)
      ∧ (¬ s.heldBeside b (.fine d) →
          (∃ z ∈ withoutFine d s.census, z.kind.isFine = true ∧ a <+: z.digits) ∨ s.heldBeside b (.area a) →
          t.census = withoutFine d s.census)
      ∧ (¬ s.heldBeside b (.fine d) →
          ¬ (∃ z ∈ withoutFine d s.census, z.kind.isFine = true ∧ a <+: z.digits) → ¬ s.heldBeside b (.area a) →
          t.census = (withoutFine d s.census).filter fun z => z.kind.isFine || z.digits != a) := by
  obtain ⟨hbin, hother, heff⟩ := h.counted_values
  let w := (s.binCounted e b x r).finishRecord r.id .binned
  let q : Piece := { r with tray := some (x.trayId, b) }
  have hrecord : Effects [] s.outcomesNotice 0 [.pieces, .outcomes, .bins, .reservations] (s.dropFrame .track) w :=
    ((heff.mono (by decide)).trans ((State.finishRecord_effects (s := s.binCounted e b x r)).mono (by decide))).congr rfl
      (by rw [Binned.outcomesNotice_eq]; rfl) (by simp)
  have hwbins : w.bins = (s.binCounted e b x r).bins := by
    simp only [w, State.finishRecord]
    split <;> simp
  have hcensus : w.census = s.census := hrecord.frame .census (by decide)
  have hprofile : w.profile = s.profile := hrecord.frame .active (by decide)
  have hwbin : w.bin b = ⟨(s.bin b).state, some (y.counted x.mass k r.id.seq)⟩ := (State.bin_congr _ hwbins).trans hbin
  have hwother : ∀ j ∈ binNumbers, j ≠ b → w.bin j = s.bin j := fun j hj hne =>
    (State.bin_congr _ hwbins).trans (hother j hj hne)
  have hless : w.censusLess q = s.censusLess r := by simp only [State.censusLess, hcensus, hprofile, q]
  have hwone : ∀ j ∈ binNumbers, ∀ z, (w.bin j).tray = some z → z.group = .fine d → z.state = .opened → j = b := by
    intro j hj z hz hgz hoz
    by_contra hjb
    rw [hwother j hj hjb] at hz
    exact hjb (hone j hj z hz hgz hoz)
  have hreserved : (y.counted x.mass k r.id.seq).reserved = 0 := by simp only [Tray.counted]; omega
  have hlist : w.bins.closedTrays = s.bins.closedTrays := hrecord.frame .closedTrays (by decide)
  have hqueue : w.bins.delivery = s.bins.delivery := hrecord.frame .delivery (by decide)
  have hqd : w.profile.sort.finePrefix q.key = d := by rw [hprofile]; exact hdEq
  obtain ⟨hends, hendCensus⟩ := State.withdraw_ends (s := w) (r := q) hc (by rw [hqd, hcensus]; exact hfine)
    (by rw [hqd, hcensus]; exact hall) h.bin (congrArg Bin.tray hwbin) (by rw [hqd]; exact hg) ho hreserved
    (by rw [hqd]; exact hwone) (by rw [hlist]; exact hroom) (by rw [hqueue]; exact hdelivery)
  have hfinish : s.binFinished e b x r = (w.fallen q).beginClosing b .groupEnd :=
    (State.finish_eq h.counted_piece? (by simp [h.exits.live])).trans hends
  have hfallen : Effects [] [] 0 [.census] w (w.fallen q) := State.onCensus_effects _ w
  have hfallenBin : (w.fallen q).bin b = ⟨(s.bin b).state, some (y.counted x.mass k r.id.seq)⟩ := hwbin
  have hfrees : (w.fallen q).frees b st = s.frees b st :=
    State.frees_congr (hrecord.frame .active (by decide)) (hrecord.frame .headTable (by decide)) st
  have hstEq : (((w.fallen q).bin b).closing .groupEnd (y.counted x.mass k r.id.seq)).state = st := by
    rw [hfallenBin, hst]
    rfl
  have hnotices : ((w.fallen q).bin b).closingNotices b (y.counted x.mass k r.id.seq) = (s.bin b).closingNotices b y := by
    rw [hfallenBin]
    rfl
  obtain ⟨hendBin, hendOther, hendList, hendEff⟩ := State.beginClosing_reports (s := w.fallen q) (reason := .groupEnd)
    h.bin (congrArg Bin.tray hfallenBin) ho hreserved (by rw [← hlist] at hroom; exact hroom)
    (by rw [← hqueue] at hdelivery; exact hdelivery) rfl (freed := freed) (by rw [hstEq, hfrees]; exact hf)
  rw [hstEq, hfrees] at hendBin
  rw [hnotices] at hendEff
  rw [← hfinish] at hendBin hendOther hendList hendEff hendCensus
  have hstay : (s.binFinished e b x r).closeIfEmptied b = s.binFinished e b x r :=
    State.closeIfEmptied_of_no_tray (by rw [hendBin])
  have hendAll := (((hrecord.mono (by decide)).trans (hfallen.mono (by decide))).trans
    (hendEff.mono (cs := [.pieces, .outcomes, .census, .bins, .reservations, .closedTrays, .delivery])
      (by decide))).congr (tr' := (s.bin b).closingNotices b y ++ freed)
        (pl' := s.outcomesNotice
          ++ ((s.bin b).closingNotices b y ++ .trayClosed y.id y.run y.bin (some .groupEnd) :: freed))
        (fl' := 0) rfl (by rw [List.append_nil]; rfl) (by simp)
  obtain ⟨t, ht, htb, htc⟩ := h.leaves hstay hendBin
    (fun j hj hne => (hendOther j hj hne).trans (hwother j hj hne)) hendAll (.inl hstall) (bs := [.closedTrays]) (by
      rintro c hc hnot
      rcases List.mem_pair.1 hc with rfl | rfl
      · exact absurd (by decide) hnot
      · exact (hendEff.frame .delivery (by decide)).trans hqueue)
  let u := (w.fallen q).markClosed b
  have hheld (g : TrayGroup) : u.holdsUnclosed g = true ↔ s.heldBeside b g := by
    refine State.holdsUnclosed_iff_beside (fun z hz => ?_) (fun j hj hne => ?_) g
    · rw [State.markClosed_bin (s := w.fallen q) (congrArg Bin.tray hfallenBin)] at hz
      cases hz
      rfl
    · exact (State.onTray_bin_ne _ _ h.bin hj hne).trans (hwother j hj hne)
  have hucensus : u.census = s.censusLess r := hless
  have hlessEq : s.censusLess r = onFine d (CensusEntry.onCount (· - 1)) s.census := by
    rw [State.censusLess_counted hc, hdEq]
  have hrest : withoutFine d u.census = withoutFine d s.census := by rw [hucensus, hlessEq, withoutFine_onFine]
  have hua : u.profile.sort.areaPrefix d = a := by
    rw [show u.profile = s.profile from hprofile]
    exact haEq
  have htCensus : t.census = if u.holdsUnclosed (.fine d) then s.censusLess r
      else ((u.onCensus fun _ => withoutFine d s.census).removeAreaIfDone a).census := by
    rw [htc, hendCensus, hqd, State.removeFineIfDone_census (u := u) (l := .fine), hrest, hucensus, hua]
    rw [hucensus, hlessEq]
    exact findFine_onFine hfine
  obtain ⟨hareaStays, hareaGoes⟩ := State.removeAreaIfDone_census (u := u.onCensus fun _ => withoutFine d s.census)
    (a := a)
  refine ⟨t, ht, by rw [htb, hendList]; exact congrArg (· ++ _) hlist, fun hf => ?_, fun hf hor => ?_,
    fun hf hunder harea => ?_⟩
  · rw [htCensus, if_pos ((hheld _).2 hf)]
  · rw [htCensus, if_neg (mt (hheld _).1 hf)]
    exact hareaStays (hor.imp_right fun ha => (hheld _).2 ha)
  · rw [htCensus, if_neg (mt (hheld _).1 hf)]
    exact hareaGoes hunder (mt (hheld _).1 harea)

end

end Sys2Proof.Machine
end

section
/-! EXITED into a bin (R153): the sorting operations read neither the run table nor the reservations, so that the exit
leaves the trays and the census as they leave them. -/

namespace Sys2Proof.Machine

/-! ### The sorting operations with another run table and other reservations -/

/-- The state with another run table and other reservations, and with the executed frame gone from the track port. -/
def State.elsewhere (R : RunTable) (L : List Reservation) (s : State) : State :=
  ((s.dropFrame .track).onRun fun _ => R).onBins fun m => { m with reservations := L }

section
variable (R : RunTable) (L : List Reservation) (s : State)

theorem State.elsewhere_notices (p : Port) : ((s.elsewhere R L).port p).notices = (s.port p).notices := by
  simp [State.elsewhere]

theorem State.elsewhere_notify (p : Port) (n : Notice) :
    (s.notify p n).elsewhere R L = (s.elsewhere R L).notify p n := by
  unfold State.notify
  rw [State.elsewhere_notices]
  split
  · cases p <;> rfl
  · rfl

theorem State.elsewhere_notifyBoth (n : Notice) : (s.notifyBoth n).elsewhere R L = (s.elsewhere R L).notifyBoth n := by
  simp only [State.notifyBoth, State.elsewhere_notify]

theorem State.elsewhere_setBinState (b : Nat) (st : BinState) :
    (s.setBinState b st).elsewhere R L = (s.elsewhere R L).setBinState b st := State.elsewhere_notifyBoth R L _ _

theorem State.elsewhere_releaseTest (b : Nat) : (s.releaseTest b).elsewhere R L = (s.elsewhere R L).releaseTest b := by
  have hstatus : (s.elsewhere R L).sorterStatus = s.sorterStatus := rfl
  have hbin : (s.elsewhere R L).bin b = s.bin b := rfl
  unfold State.releaseTest
  rw [hstatus, hbin]
  split
  · rfl
  · rw [apply_ite (State.elsewhere R L), State.elsewhere_setBinState]

theorem State.elsewhere_deliverTray (b : Nat) (t : Tray) :
    (s.deliverTray b t).elsewhere R L = (s.elsewhere R L).deliverTray b t := by
  unfold State.deliverTray
  rw [State.elsewhere_releaseTest, State.elsewhere_notify]
  rfl

theorem State.elsewhere_deliverOldest : s.deliverOldest.elsewhere R L = (s.elsewhere R L).deliverOldest := by
  have hdelivery : (s.elsewhere R L).bins.delivery = s.bins.delivery := rfl
  unfold State.deliverOldest
  rw [hdelivery]
  cases s.bins.delivery with
  | nil => rfl
  | cons b rest =>
    have hbin : ((s.elsewhere R L).onBins fun m => { m with delivery := rest }).bin b
        = (s.onBins fun m => { m with delivery := rest }).bin b := rfl
    dsimp only
    rw [hbin]
    cases ((s.onBins fun m => { m with delivery := rest }).bin b).tray with
    | none => rfl
    | some t => exact State.elsewhere_deliverTray R L _ b t

theorem State.elsewhere_deliverWaiting (n : Nat) :
    (s.deliverWaiting n).elsewhere R L = (s.elsewhere R L).deliverWaiting n := by
  induction n generalizing s with
  | zero => rfl
  | succ n ih =>
    have hroom : (s.elsewhere R L).bins.closedTrays = s.bins.closedTrays := rfl
    unfold State.deliverWaiting
    rw [hroom, apply_ite (State.elsewhere R L), ih, State.elsewhere_deliverOldest]

theorem State.elsewhere_joinDelivery (b : Nat) :
    (s.joinDelivery b).elsewhere R L = (s.elsewhere R L).joinDelivery b := by
  have hroom : (s.elsewhere R L).bins.closedTrays = s.bins.closedTrays := rfl
  unfold State.joinDelivery
  dsimp only
  rw [hroom, apply_ite (State.elsewhere R L), State.elsewhere_deliverWaiting]
  rfl

theorem State.elsewhere_removeAreaIfDone (a : List Nat) :
    (s.removeAreaIfDone a).elsewhere R L = (s.elsewhere R L).removeAreaIfDone a :=
  apply_ite (State.elsewhere R L) _ _ _

theorem State.elsewhere_removeFineIfDone (d : List Nat) :
    (s.removeFineIfDone d).elsewhere R L = (s.elsewhere R L).removeFineIfDone d := by
  unfold State.removeFineIfDone
  rw [apply_ite (State.elsewhere R L), State.elsewhere_removeAreaIfDone]
  rfl

theorem State.elsewhere_trayClosedReport (g : TrayGroup) :
    (s.trayClosedReport g).elsewhere R L = (s.elsewhere R L).trayClosedReport g := by
  cases g with
  | fine d => exact s.elsewhere_removeFineIfDone R L d
  | area a => exact s.elsewhere_removeAreaIfDone R L a
  | mixed => rfl
  | rule k => rfl

theorem State.elsewhere_closeIfEmptied (b : Nat) :
    (s.closeIfEmptied b).elsewhere R L = (s.elsewhere R L).closeIfEmptied b := by
  have hbin : (s.elsewhere R L).bin b = s.bin b := rfl
  unfold State.closeIfEmptied
  rw [hbin]
  cases (s.bin b).tray with
  | none => rfl
  | some t =>
    dsimp only
    rw [apply_ite (State.elsewhere R L), State.elsewhere_joinDelivery, State.elsewhere_trayClosedReport]
    rfl

theorem State.elsewhere_startClosing (b : Nat) (reason : CloseReason) :
    (s.startClosing b reason).elsewhere R L = (s.elsewhere R L).startClosing b reason := by
  unfold State.startClosing
  rw [apply_ite (State.elsewhere R L), State.elsewhere_setBinState]
  rfl

theorem State.elsewhere_beginClosing (b : Nat) (reason : CloseReason) :
    (s.beginClosing b reason).elsewhere R L = (s.elsewhere R L).beginClosing b reason := by
  have hbin : (s.elsewhere R L).bin b = s.bin b := rfl
  cases hy : (s.bin b).tray with
  | none => simp only [State.beginClosing, hbin, hy]
  | some y =>
    by_cases ho : y.state = .opened
    · rw [State.beginClosing_opened hy ho, State.beginClosing_opened (hbin ▸ hy) ho, State.elsewhere_closeIfEmptied,
        State.elsewhere_startClosing]
    · rw [State.beginClosing_stays hy ho, State.beginClosing_stays (hbin ▸ hy) ho]

theorem State.elsewhere_groupEnd (g : TrayGroup) : (s.groupEnd g).elsewhere R L = (s.elsewhere R L).groupEnd g := by
  have hbin : (s.elsewhere R L).openTrayBin g = s.openTrayBin g := rfl
  unfold State.groupEnd
  rw [hbin]
  cases s.openTrayBin g with
  | none => rfl
  | some b => exact s.elsewhere_beginClosing R L b _

theorem State.elsewhere_areaTest (a : List Nat) (n : Nat) :
    (s.areaTest a n).elsewhere R L = (s.elsewhere R L).areaTest a n := by
  unfold State.areaTest
  rw [apply_ite (State.elsewhere R L), State.elsewhere_groupEnd]
  rfl

theorem State.elsewhere_countFalls (d : List Nat) :
    (s.countFalls d).elsewhere R L = (s.elsewhere R L).countFalls d := by
  unfold State.countFalls
  dsimp only
  rw [State.elsewhere_removeFineIfDone, State.elsewhere_areaTest, apply_ite (State.elsewhere R L),
    State.elsewhere_groupEnd]
  rfl

theorem State.elsewhere_withdraw (r : Piece) : (s.withdraw r).elsewhere R L = (s.elsewhere R L).withdraw r := by
  unfold State.withdraw
  cases r.census with
  | counted => exact s.elsewhere_countFalls R L _
  | uncounted => rfl
  | reprint => rfl
  | ruled k => rfl

end

/-! ### The exit with no entry stalled (R153, steps 6 and 7) -/

theorem State.onBin_congr {s : State} {b : Nat} {f g : Bin → Bin} (h : f (s.bin b) = g (s.bin b)) :
    s.onBin b f = s.onBin b g := by
  have h' : f (s.bins.bin b) = g (s.bins.bin b) := h
  simp only [State.onBin, State.onBins, BinManager.onBin, h']

section
variable {pl : List Byte} {b k : Nat} {e : TrackEntry} {es : List TrackEntry} {r : Piece} {x : Reservation} {y : Tray}
  {s : State}

/-- The state with the piece counted into the tray, and OUTCOMES sent when the outcome order was empty (R19, R153). -/
def State.countNoted (b : Nat) (y : Tray) (s : State) : State :=
  let told := s.onBin b fun z => { z with tray := some y }
  if s.run.outcomes = [] then told.notify .plan .outcomes else told

theorem Binned.finishRecord_eq (h : Binned pl b e es r x y k s) :
    ∃ R L, (s.binCounted e b x r).finishRecord r.id .binned
      = (s.countNoted b (y.counted x.mass k r.id.seq)).elsewhere R L := by
  let told := s.onBin b fun z => { z with tray := some (y.counted x.mass k r.id.seq) }
  let R := (((s.binCounted e b x r).onPiece r.id (Piece.finish .binned)).onRun fun t =>
    { t with outcomes := t.outcomes ++ [r.id] }).run
  let L := s.bins.reservations.filter fun z => z.tag != e.tag
  have hcount : (s.dropFrame .track).onReservedTray b x (Tray.countPiece r x.mass) = told.dropFrame .track := by
    refine (State.onBin_congr (s := s.dropFrame .track)
      (g := fun z => { z with tray := some (y.counted x.mass k r.id.seq) }) ?_).trans rfl
    simp only [show (s.dropFrame .track).bin b = s.bin b from rfl, h.tray, Option.map_some, h.id, beq_self_eq_true,
      if_true, Tray.countPiece_eq h.band]
  have htold : ((s.binCounted e b x r).onPiece r.id (Piece.finish .binned)).onRun (fun t =>
      { t with outcomes := t.outcomes ++ [r.id] }) = told.elsewhere R L := by
    simp only [R, State.binCounted, State.countInto, hcount]
    rfl
  refine ⟨R, L, ?_⟩
  unfold State.finishRecord State.countNoted
  dsimp only
  rw [htold, apply_ite (State.elsewhere R L), State.elsewhere_notify]
  exact if_congr List.isEmpty_iff rfl rfl

/-- The exit leaves the trays, the census and the notices as the fall of the count and then the closing of an emptied
tray leave them. -/
theorem Binned.exit_eq (h : Binned pl b e es r x y k s) :
    ∃ R L, (s.binFinished e b x r).closeIfEmptied b
      = ((((s.countNoted b (y.counted x.mass k r.id.seq)).withdraw r).closeIfEmptied b).elsewhere R L) := by
  obtain ⟨R, L, hrecord⟩ := h.finishRecord_eq
  refine ⟨R, L, ?_⟩
  have hfinish : s.binFinished e b x r = ((s.binCounted e b x r).finishRecord r.id .binned).withdraw r :=
    (State.finish_eq h.counted_piece? (by simp [h.exits.live])).trans rfl
  rw [State.elsewhere_closeIfEmptied, State.elsewhere_withdraw, ← hrecord, hfinish]

/-- With no entry stalled, the entry leaves the queue and nothing follows. -/
theorem Binned.exec_unstalled (h : Binned pl b e es r x y k s) (hstall : s.bins.stall = none) {v : State}
    (hv : (s.binFinished e b x r).closeIfEmptied b = v) :
    ∃ t, exec (.exited .track) s = .next t ∧ t.census = v.census ∧ t.bins = v.bins
      ∧ (t.port .track).notices = pushNotices (v.port .track).notices s.holdLeftNotices
      ∧ (t.port .plan).notices = (v.port .plan).notices
      ∧ ChangesOnly (requestBlocks .track ++ [.entries, .pieces, .outcomes, .releaseHold, .census, .bins, .delivery,
          .closedTrays, .reservations, .notices .track, .notices .plan, .flags, .pins]) s t := by
  obtain ⟨hlen, htags, -⟩ := h.exits.bounded
  have hexit := h.applyExit_eq.trans hv
  have htrack : v.track = s.track := by simp [← hexit]
  have hchecker : v.checker = s.checker := by simp [← hexit]
  have hpromises : v.bins.promises = (s.binCounted e b x r).bins.promises := by
    rw [← hv]
    exact (State.closeIfEmptied_promises _ _).trans State.finish_promises
  have hvstall : v.bins.stall = s.bins.stall := (BinManager.stall_eq_of_promises hpromises).trans rfl
  have hvcounter : v.bins.trayCounter = s.bins.trayCounter := congrArg (fun m => m.2.2) hpromises
  obtain ⟨hrun, -⟩ := State.exitIntoBin_values (s := s.dropFrame .track) (b := b) h.reserved h.record h.exits.live
  rw [State.exitIntoBin_eq (s := s.dropFrame .track) h.reserved, show (((s.dropFrame .track).countInto e.tag b x r).finish
    r.id .binned).closeIfEmptied b = v from hv] at hrun
  have hstate : v.run.runState = s.run.runState := by rw [hrun]; rfl
  obtain ⟨-, -, -, -, -, -, hstays⟩ := State.afterExit_values (s := s.dropFrame .track) hstate htrack hchecker h.exits.head
    htags hlen
  obtain ⟨-, -, -, hbins, hcensus, heff⟩ := State.leave_values (s := v) (by rw [htrack]; exact h.exits.head)
    (by rw [htrack]; exact htags) (by rw [htrack]; exact hlen)
  have hnone : v.afterExit e.tag (s.dropFrame .track) = v.leave e.tag :=
    (hstays h.stays).trans (State.afterEvent_of_no_stall (by rw [hbins, hvstall]; exact hstall))
  have hbody := exitedBody_taken h.exits
  rw [hexit, hnone] at hbody
  have hlength : RequestKind.exited.lengthAllowed pl.length = true := by simp [RequestKind.lengthAllowed, h.exits.length]
  obtain ⟨hexec, -, hchanges⟩ := exec_due_changes (k := .exited)
    (bs := [.entries, .releaseHold] ++ exitBlocks) h.exits.due rfl hlength hbody (by decide)
    (((hexit ▸ State.applyExit_changes e (.bin b) (.bin b) (s.dropFrame .track)).mono (by decide)).trans
      (heff.frame.mono (by decide)))
  have hnotices : v.holdLeftNotices = s.holdLeftNotices := by simp only [State.holdLeftNotices, hchecker]
  refine ⟨_, hexec, hcensus, hbins, ?_, ?_, fun c hc => ?_⟩
  · simp only [State.answerFrame_port, ← hnotices]
    exact heff.toTrack
  · simp only [State.answerFrame_port]
    exact heff.toPlan
  · by_cases hkept : c = .stall ∨ c = .trayCounter
    · rcases hkept with rfl | rfl
      · exact (congrArg BinManager.stall hbins).trans hvstall
      · exact (congrArg BinManager.trayCounter hbins).trans hvcounter
    · have hblocks : ∀ c ∈ requestBlocks .track ++ ([.entries, .releaseHold] ++ exitBlocks) ++ [.pins],
          c ∉ requestBlocks .track ++ [.entries, .pieces, .outcomes, .releaseHold, .census, .bins, .delivery,
            .closedTrays, .reservations, .notices .track, .notices .plan, .flags, .pins] →
          c = .stall ∨ c = .trayCounter := by decide
      exact hchanges c fun hmem => hkept (hblocks c hmem hc)

end

end Sys2Proof.Machine

open Sys2Proof Sys2Proof.Machine

/-- Settles O44: the piece is counted into its tray, its record finishes, and its tray, emptied of reserved places, may
close. -/
theorem exitIntoABinCountsThePiece : Obligations.ExitIntoABinCountsThePiece := by
  intro b e es r x y k s h63 hentries hbounded hstage hdec hr hstate hk h1 h8 hopen hb hx hy hid hdue y' full cleared
    outcomes census results
  have h : Binned (toBytes 1 e.tag ++ [1] ++ toBytes 1 b) b e es r x y k s :=
    ⟨⟨hdue, rfl, exitOutcomeOf_bin hb, byteAt_tag h63 _, h63, hentries, hbounded, hstage, hdec, by simp [exitAgrees], hr,
      hstate⟩, hopen, hb, hx, hy, hid, hk⟩
  refine ⟨fun hq => ⟨fun hplace => ?_, fun hclosing hlast hown => ⟨fun hqueue hroom hstall => ?_, fun hfull => ?_⟩⟩, ?_,
    fun hstall => ?_⟩
  · exact h.keeps hq hplace
  · obtain ⟨t, ht, htc, htl⟩ := h.delivers hq hclosing hlast hown hqueue hroom hstall
    exact ⟨t, ht, htc, htl⟩
  · obtain ⟨t, ht, htc, htd⟩ := h.waits hq hclosing hlast hown hfull
    exact ⟨t, ht, htc, htd⟩
  · intro d a hc hfine hall hg ho hlast hone hqueue hroom hstall st free freed closing rest held under
    exact h.endsGroup (d := d) (a := a) rfl rfl hc hfine hall hg ho hlast hone hqueue hroom hstall rfl rfl
  · intro told noted after
    obtain ⟨R, L, hexit⟩ := h.exit_eq
    obtain ⟨t, hexec, hcensus, hbins, htrack, hplan, hchanges⟩ := h.exec_unstalled hstall hexit
    have hreservations := (State.exitIntoBin_values (s := s.dropFrame .track) (b := b) h.reserved h.record hstate).2
    rw [State.exitIntoBin_eq (s := s.dropFrame .track) h.reserved] at hreservations
    have hL : L = s.bins.reservations.filter fun z => z.tag != e.tag :=
      (congrArg (fun u : State => u.bins.reservations) hexit).symm.trans hreservations
    refine ⟨t, hexec, hcensus, hbins.trans ?_, htrack.trans ?_, hplan.trans ?_, hchanges⟩
    · rw [← hL]
      rfl
    · rw [State.elsewhere_notices]
      rfl
    · rw [State.elsewhere_notices]
      rfl
end

section
/-! PURGE (R50, R113 to R116): what it does to the records, the queue and the reservations. -/

namespace Sys2Proof.Machine

/-! ### One purged piece (R50, R114) -/

/-- A record as PURGE leaves it (R19, R114). -/
def Piece.purged (x : Piece) : Piece := (x.addCause .purged).finish .diverted

@[simp] theorem Piece.purged_id (x : Piece) : x.purged.id = x.id := by simp [Piece.purged]

theorem Piece.purged_eq {x : Piece} (h : x.state ≠ .finished) : x.purged =
    { x with
      state := .finished
      faults := if Cause.purged ∈ x.faults then x.faults else x.faults ++ [.purged]
      disposition := some (if x.cancelPending then .cancelled else .diverted)
      tag := none } := by
  rw [Piece.purged, Piece.addCause_eq h]
  simp [Piece.finish]

/-- The reservation of an entry decided BIN(b) is given up (R114, R154). -/
def State.releaseEntry (e : TrackEntry) (s : State) : State :=
  match e.decision with
  | some (.bin b) => s.releaseReservation e.tag b
  | some .divert | none => s

theorem State.purgeEntry_eq (e : TrackEntry) (s : State) :
    s.purgeEntry e = (((s.addCause e.piece .purged).releaseEntry e).finish e.piece .diverted).removeEntry e.tag := rfl

section
variable {s : State} {e : TrackEntry} {id id' : PieceId} {d : Disposition}

theorem State.releaseEntry_run : (s.releaseEntry e).run = s.run := by
  unfold State.releaseEntry
  split <;> simp

theorem State.releaseEntry_track : (s.releaseEntry e).track = s.track := by
  unfold State.releaseEntry
  split <;> simp

theorem State.releaseEntry_changes : ChangesOnly gateBlocks s (s.releaseEntry e) := by
  unfold State.releaseEntry
  split
  · exact State.releaseReservation_changes _ _ _
  · exact ChangesOnly.refl _ _
  · exact ChangesOnly.refl _ _

/-- Whether a reservation is for an entry decided for a bin. -/
def TrackEntry.reserves (e : TrackEntry) (z : Reservation) : Bool := e.tag == z.tag && e.decision.any (· != .divert)

theorem State.releaseEntry_reservations :
    (s.releaseEntry e).bins.reservations = s.bins.reservations.filter fun z => !e.reserves z := by
  unfold State.releaseEntry TrackEntry.reserves
  split
  · next b hb =>
    rw [State.releaseReservation_reservations]
    refine List.filter_congr fun z _ => ?_
    simp [hb, bne, Bool.beq_comm (a := z.tag)]
  · next h => simp [h]
  · next h => simp [h]

theorem State.purgeEntry_run {r : Piece} (h : s.piece? e.piece = some r) (hr : r.state ≠ .finished) :
    (s.purgeEntry e).run = { s.run with
      pieces := s.run.pieces.map fun x => if x.id = e.piece then x.purged else x
      outcomes := s.run.outcomes ++ [e.piece] } :=
  State.finish_run_of_onPiece (s := s) (Piece.addCause_id _) (Piece.addCause_state _) h hr State.releaseEntry_run

theorem State.purgeEntry_entries :
    (s.purgeEntry e).track = { s.track with entries := s.track.entries.filter fun x => x.tag != e.tag } := by
  have htrack : (((s.addCause e.piece .purged).releaseEntry e).finish e.piece .diverted).track = s.track := by
    rw [(State.finish_frame _ _ _).2.2.2.1, State.releaseEntry_track]
    rfl
  rw [State.purgeEntry_eq]
  exact congrArg (fun q : TrackQueue => { q with entries := q.entries.filter fun x => x.tag != e.tag }) htrack

theorem State.purgeEntry_changes : ChangesOnly (.pieces :: .outcomes :: gateBlocks) s (s.purgeEntry e) := by
  have hremove (u : State) : ChangesOnly (.pieces :: .outcomes :: gateBlocks) u (u.removeEntry e.tag) := by
    intro b hb
    cases b <;> first | rfl | simp [gateBlocks] at hb
  exact ((((State.onPiece_changes _ _ _).mono (by decide)).trans (State.releaseEntry_changes.mono (by decide))).trans
    (State.finish_changes _)).trans (hremove _)

theorem State.finish_reservations : (s.finish id d).bins.reservations = s.bins.reservations :=
  BinManager.reservations_eq_of_promises State.finish_promises

theorem State.purgeEntry_reservations :
    (s.purgeEntry e).bins.reservations = s.bins.reservations.filter fun z => !e.reserves z := by
  rw [State.purgeEntry_eq]
  exact State.finish_reservations.trans State.releaseEntry_reservations

theorem State.releaseEntry_stall : (s.releaseEntry e).bins.stall = s.bins.stall
    ∧ (s.releaseEntry e).bins.trayCounter = s.bins.trayCounter := by
  unfold State.releaseEntry
  split
  · next b _ =>
    unfold State.releaseReservation
    split
    · exact ⟨rfl, rfl⟩
    · have h (u : State) := State.closeIfEmptied_promises u b
      exact ⟨(BinManager.stall_eq_of_promises (h _)).trans rfl, (congrArg (fun m => m.2.2) (h _)).trans rfl⟩
  · exact ⟨rfl, rfl⟩
  · exact ⟨rfl, rfl⟩

theorem State.purgeEntry_stall : (s.purgeEntry e).bins.stall = s.bins.stall
    ∧ (s.purgeEntry e).bins.trayCounter = s.bins.trayCounter := by
  obtain ⟨hstall, hcounter⟩ := State.releaseEntry_stall (s := s.addCause e.piece .purged) (e := e)
  have h := State.finish_promises (s := (s.addCause e.piece .purged).releaseEntry e) (id := e.piece) (d := .diverted)
  exact ⟨(BinManager.stall_eq_of_promises h).trans hstall, (congrArg (fun m => m.2.2) h).trans hcounter⟩

/-- Finishing a record leaves every other record as it is. -/
theorem State.piece?_finish_ne (h : id' ≠ id) : (s.finish id d).piece? id' = s.piece? id' := by
  have hrecord : (s.finishRecord id d).piece? id' = s.piece? id' := by
    refine Eq.trans ?_ (State.piece?_onPiece_ne (s := s) (f := Piece.finish d) (by simp) h)
    unfold State.finishRecord
    dsimp only
    split <;> simp [State.piece?, RunTable.piece?]
  cases hp : s.piece? id with
  | none => simp only [State.finish, hp]
  | some r =>
    by_cases hr : r.state = .finished
    · simp [State.finish, hp, hr]
    · rw [State.finish_eq hp hr, ← hrecord]
      simp [State.piece?]

theorem State.piece?_purgeEntry_ne (h : id' ≠ e.piece) : (s.purgeEntry e).piece? id' = s.piece? id' := by
  have hrelease : ((s.addCause e.piece .purged).releaseEntry e).piece? id' = (s.addCause e.piece .purged).piece? id' := by
    simp only [State.piece?, State.releaseEntry_run]
  rw [State.purgeEntry_eq]
  exact (State.piece?_finish_ne h).trans (hrelease.trans (State.piece?_onPiece_ne (Piece.addCause_id _) h))

end

/-! ### The whole queue (R114) -/

section
variable {s : State}

/-- What the purge of the track entries does to the run table: each record gains PURGED and finishes, in release
order. -/
theorem State.purgeEntries_run {es : List TrackEntry} (hn : (es.map TrackEntry.piece).Nodup)
    (h : ∀ e ∈ es, ∃ r, s.piece? e.piece = some r ∧ r.state ≠ .finished) :
    (s.purgeEntries es).run = { s.run with
      pieces := s.run.pieces.map fun x => if x.id ∈ es.map TrackEntry.piece then x.purged else x
      outcomes := s.run.outcomes ++ es.map TrackEntry.piece } := by
  induction es generalizing s with
  | nil => simp [State.purgeEntries]
  | cons e es ih =>
    rw [List.map_cons, List.nodup_cons] at hn
    obtain ⟨hout, hn⟩ := hn
    obtain ⟨r, hr, hstate⟩ := h e List.mem_cons_self
    have hrest : ∀ e' ∈ es, ∃ r, (s.purgeEntry e).piece? e'.piece = some r ∧ r.state ≠ .finished := by
      intro e' he'
      have hne : e'.piece ≠ e.piece := fun heq => hout (heq ▸ List.mem_map_of_mem he')
      rw [State.piece?_purgeEntry_ne hne]
      exact h e' (List.mem_cons_of_mem _ he')
    have hcons : s.purgeEntries (e :: es) = (s.purgeEntry e).purgeEntries es := rfl
    rw [hcons, ih hn hrest, State.purgeEntry_run hr hstate]
    simp only [List.map_map, List.map_cons, List.append_assoc, List.singleton_append, RunTable.mk.injEq, true_and,
      and_true]
    refine List.map_congr_left fun x _ => ?_
    by_cases hx : x.id = e.piece
    · rw [Function.comp_apply, if_pos hx, Piece.purged_id, hx, if_neg hout, if_pos List.mem_cons_self]
    · simp [hx]

theorem State.purgeEntries_track (es : List TrackEntry) : (s.purgeEntries es).track
    = { s.track with entries := s.track.entries.filter fun x => !(es.map TrackEntry.tag).contains x.tag } := by
  induction es generalizing s with
  | nil => simp [State.purgeEntries]
  | cons e es ih =>
    have hcons : s.purgeEntries (e :: es) = (s.purgeEntry e).purgeEntries es := rfl
    rw [hcons, ih, State.purgeEntry_entries, List.filter_filter]
    refine congrArg (fun es => { s.track with entries := es }) (List.filter_congr fun x _ => ?_)
    rw [List.map_cons, List.contains_cons, Bool.not_or, Bool.and_comm]
    rfl

theorem State.purgeEntries_reservations (es : List TrackEntry) : (s.purgeEntries es).bins.reservations
    = s.bins.reservations.filter fun z => es.all fun e => !e.reserves z := by
  induction es generalizing s with
  | nil => simp [State.purgeEntries]
  | cons e es ih =>
    have hcons : s.purgeEntries (e :: es) = (s.purgeEntry e).purgeEntries es := rfl
    rw [hcons, ih, State.purgeEntry_reservations, List.filter_filter]
    refine List.filter_congr fun z _ => ?_
    rw [List.all_cons, Bool.and_comm]

theorem State.purgeEntries_changes (es : List TrackEntry) :
    ChangesOnly (.pieces :: .outcomes :: gateBlocks) s (s.purgeEntries es) :=
  foldl_preserves _ (ChangesOnly _ s) (fun _ _ h => h.trans State.purgeEntry_changes) es s (ChangesOnly.refl _ _)

theorem State.purgeEntries_stall (es : List TrackEntry) : (s.purgeEntries es).bins.stall = s.bins.stall
    ∧ (s.purgeEntries es).bins.trayCounter = s.bins.trayCounter :=
  ⟨foldl_keeps _ (fun s => s.bins.stall) (fun _ _ => State.purgeEntry_stall.1) es s,
    foldl_keeps _ (fun s => s.bins.trayCounter) (fun _ _ => State.purgeEntry_stall.2) es s⟩

end

/-! ### The collation records (R50) -/

/-- The owners of the two collation records, the ready record first, and the pieces among them. -/
def Checker.owners (k : Checker) : List Owner := [k.ready, k.forming].filterMap fun c => c.map Collation.owner

def Owner.piece? : Owner → Option PieceId
  | .piece id => some id
  | .orphan => none

@[simp] theorem Owner.piece?_piece (id : PieceId) : (Owner.piece id).piece? = some id := rfl
@[simp] theorem Owner.piece?_orphan : Owner.orphan.piece? = none := rfl

def Checker.collated (k : Checker) : List PieceId := k.owners.filterMap Owner.piece?

theorem Checker.countOwners_eq (k : Checker) : k.countOwners false = k.collated.length
    ∧ k.countOwners true = k.owners.length - k.collated.length := by
  have hlist (os : List Owner) : (os.countP fun o => (o == .orphan) == false) = (os.filterMap Owner.piece?).length
      ∧ os.length = (os.countP fun o => (o == .orphan) == true) + (os.filterMap Owner.piece?).length := by
    induction os with
    | nil => exact ⟨rfl, rfl⟩
    | cons o os ih =>
      obtain ⟨hpieces, hall⟩ := ih
      cases o with
      | piece id =>
        have hne : (Owner.piece id == .orphan) = false := rfl
        simp only [List.countP_cons, hne, List.filterMap_cons, Owner.piece?_piece, List.length_cons]
        exact ⟨by simpa using hpieces, by simp only [Bool.false_eq_true, beq_iff_eq, if_false]; omega⟩
      | orphan =>
        have heq : (Owner.orphan == .orphan) = true := rfl
        simp only [List.countP_cons, heq, List.filterMap_cons, Owner.piece?_orphan, List.length_cons]
        exact ⟨by simpa using hpieces, by simp only [beq_iff_eq, if_true]; omega⟩
  have hcount (b : Bool) : k.countOwners b = k.owners.countP fun o => (o == .orphan) == b := by
    have howners : k.owners = ([k.ready, k.forming].filterMap id).map Collation.owner := by
      rw [List.map_filterMap]
      rfl
    rw [howners, List.countP_map]
    rfl
  obtain ⟨hpieces, hall⟩ := hlist k.owners
  have hall' : k.owners.length = k.countOwners true + k.collated.length := hall.trans (by rw [hcount]; rfl)
  exact ⟨(hcount false).trans hpieces, by omega⟩

/-- The purge of the collation records finishes the pieces they are for, and empties both records. -/
theorem State.purgeCollations_eq (s : State) : s.purgeCollations
    = (s.finishAll s.checker.collated .purged .diverted).onChecker fun k =>
        { k with forming := none, ready := none, releaseHold := .free } := by
  have hone (c : Option Collation) (u : State) : u.purgeCollation c
      = u.finishAll ((c.map Collation.owner).toList.filterMap Owner.piece?) .purged .diverted := by
    unfold State.purgeCollation
    cases c.map Collation.owner with
    | none => rfl
    | some o => cases o <;> rfl
  have hlist : s.checker.collated = (s.checker.ready.map Collation.owner).toList.filterMap Owner.piece?
      ++ (s.checker.forming.map Collation.owner).toList.filterMap Owner.piece? := by
    rw [← List.filterMap_append]
    refine congrArg (List.filterMap Owner.piece?) ?_
    unfold Checker.owners
    cases s.checker.ready <;> cases s.checker.forming <;> rfl
  unfold State.purgeCollations
  rw [hone, hone, hlist]
  simp only [State.finishAll, List.foldl_append]

/-! ### The effects of a taken PURGE (R114 to R116) -/

/-- The state once the queue and the collation records are purged. -/
def State.purgedLine (s : State) : State := (s.endStall.purgeEntries s.track.entries).purgeCollations

theorem State.purgeAll_eq (s : State) : s.purgeAll = s.purgedLine.drainTest.notifyBoth
    (.purgeDone s.track.entries.length s.checker.collated.length
      (s.checker.owners.length - s.checker.collated.length)) := by
  rw [← s.checker.countOwners_eq.2, ← s.checker.countOwners_eq.1]
  rfl

section
variable {s : State}

theorem State.endStall_changes : ChangesOnly [.entries, .stall] s s.endStall := by
  intro b hb
  cases b <;> first | rfl | simp at hb

theorem State.purgedLine_track : s.purgedLine.track = { s.track with entries := [] } := by
  have hnone : (s.endStall.track.entries.filter fun x => !(s.track.entries.map TrackEntry.tag).contains x.tag) = [] := by
    refine List.filter_eq_nil_iff.2 fun x hx => ?_
    obtain ⟨e, he, rfl⟩ := List.mem_map.1 hx
    simpa using ⟨e, he, rfl⟩
  have htrack : s.purgedLine.track = (s.endStall.purgeEntries s.track.entries).track := by simp [State.purgedLine]
  rw [htrack, State.purgeEntries_track, hnone]
  rfl

theorem State.purgedLine_checker : s.purgedLine.checker
    = { s.checker with forming := none, ready := none, releaseHold := .free } := by
  rw [State.purgedLine, State.purgeCollations_eq, State.onChecker_checker, (State.finishAll_frame _ _ _ _).1,
    (State.purgeEntries_frame _ _).1]
  rfl

theorem State.purgedLine_lineEmpty : s.purgedLine.lineEmpty = true := by
  rw [State.lineEmpty_iff, State.purgedLine_checker, State.purgedLine_track]
  exact ⟨rfl, rfl, rfl⟩

/-- The pieces a PURGE finishes, in order: those on the track and those of the collation records (R50, R114). -/
def State.purgedIds (s : State) : List PieceId := s.track.entries.map TrackEntry.piece ++ s.checker.collated

theorem State.purgedLine_run (hn : s.purgedIds.Nodup)
    (h : ∀ id ∈ s.purgedIds, ∃ r, s.piece? id = some r ∧ r.state ≠ .finished) :
    s.purgedLine.run = { s.run with
      pieces := s.run.pieces.map fun x => if x.id ∈ s.purgedIds then x.purged else x
      outcomes := s.run.outcomes ++ s.purgedIds } := by
  obtain ⟨hentries, hcollated, hdisjoint⟩ := List.nodup_append.1 hn
  have hfirst : (s.endStall.purgeEntries s.track.entries).run = { s.run with
      pieces := s.run.pieces.map fun x => if x.id ∈ s.track.entries.map TrackEntry.piece then x.purged else x
      outcomes := s.run.outcomes ++ s.track.entries.map TrackEntry.piece } :=
    State.purgeEntries_run (s := s.endStall) hentries fun e he =>
      h e.piece (List.mem_append_left _ (List.mem_map_of_mem he))
  have hchecker : (s.endStall.purgeEntries s.track.entries).checker = s.checker := (State.purgeEntries_frame _ _).1
  have hfound : ∀ id ∈ s.checker.collated,
      ∃ r, (s.endStall.purgeEntries s.track.entries).piece? id = some r ∧ r.state ≠ .finished := by
    intro id hid
    obtain ⟨r, hr, hstate⟩ := h id (List.mem_append_right _ hid)
    have hout : r.id ∉ s.track.entries.map TrackEntry.piece := fun hmem => by
      rw [(State.piece?_eq_some hr).1] at hmem
      exact hdisjoint id hmem id hid rfl
    refine ⟨r, ?_, hstate⟩
    rw [State.piece?_of_map (s := s) (fun x => ?_) (congrArg RunTable.pieces hfirst), hr, Option.map_some, if_neg hout]
    split <;> simp
  rw [State.purgedLine, State.purgeCollations_eq, State.onChecker_run, hchecker,
    State.finishAll_run .purged .diverted hcollated hfound, hfirst]
  simp only [List.map_map, List.append_assoc, State.purgedIds, RunTable.mk.injEq, true_and, and_true]
  refine List.map_congr_left fun x _ => ?_
  by_cases hx : x.id ∈ s.track.entries.map TrackEntry.piece
  · have hout : x.id ∉ s.checker.collated := fun hc => hdisjoint _ hx _ hc rfl
    simp only [Function.comp_apply, if_pos hx, Piece.purged_id, if_neg hout]
    exact (if_pos (List.mem_append_left _ hx)).symm
  · simp only [Function.comp_apply, if_neg hx, List.mem_append, or_iff_right hx]
    rfl

theorem State.purgedLine_changes : ChangesOnly ([.pieces, .outcomes, .forming, .ready, .releaseHold] ++ gateBlocks) s
    s.purgedLine := by
  have hempty (u : State) : ChangesOnly [.forming, .ready, .releaseHold] u (u.onChecker fun k =>
      { k with forming := none, ready := none, releaseHold := .free }) := by
    intro b hb
    cases b <;> first | rfl | simp at hb
  rw [State.purgedLine, State.purgeCollations_eq]
  exact (((State.endStall_changes.mono (by decide)).trans ((State.purgeEntries_changes _).mono (by decide))).trans
    ((State.finishAll_changes _ _ _).mono (by decide))).trans ((hempty _).mono (by decide))

theorem State.purgedLine_promises : s.purgedLine.bins.stall = none
    ∧ s.purgedLine.bins.trayCounter = s.bins.trayCounter
    ∧ s.purgedLine.bins.reservations = s.bins.reservations.filter fun z => s.track.entries.all fun e => !e.reserves z := by
  obtain ⟨hstall, hcounter⟩ := State.purgeEntries_stall (s := s.endStall) s.track.entries
  have h := State.finishAll_promises (s := s.endStall.purgeEntries s.track.entries)
    (s.endStall.purgeEntries s.track.entries).checker.collated .purged .diverted
  rw [State.purgedLine, State.purgeCollations_eq]
  exact ⟨(BinManager.stall_eq_of_promises h).trans hstall, (congrArg (fun m => m.2.2) h).trans hcounter,
    (BinManager.reservations_eq_of_promises h).trans (State.purgeEntries_reservations (s := s.endStall) _)⟩

end

end Sys2Proof.Machine
end

section
/-! What stands in a bin while other bins close and deliver their trays (R155 to R157), and what stands in the census
while other counts fall (R127, R128). -/

namespace Sys2Proof.Machine

/-! ### What stands in a bin -/

/-- Bin `b` holds an OPEN tray of a level and group. -/
def BinManager.OpenAt (m : BinManager) (b : Nat) (g : TrayGroup) : Prop :=
  ∃ z, (m.bin b).tray = some z ∧ z.group = g ∧ z.state = .opened

/-- A property of the bins about the tray `id` of bin `b`, whose group, while it is OPEN, is `g`: no change of another
bin, no closing of another tray and no delivery ends it, and in bin `b` itself no tray is due to become CLOSED. -/
structure Stands (b id : Nat) (g : TrayGroup) (P : BinManager → Prop) : Prop where
  other : ∀ m j f, j ∈ binNumbers → j ≠ b → P m → P (m.onBin j f)
  joins : ∀ m j, j ∈ binNumbers → j ≠ b → P m → P { m with delivery := m.delivery ++ [j] }
  reservations : ∀ m zs, P m → P { m with reservations := zs }
  delivers : ∀ u : State, P u.bins → P u.deliverOldest.bins
  unemptied : ∀ u : State, P u.bins → u.closeIfEmptied b = u
  foreign : ∀ m i (f : Tray → Tray), i ≠ id → P m →
    P (m.onBin b fun z => { z with tray := z.tray.map fun t => if t.id == i then f t else t })
  opened : ∀ m g', P m → m.OpenAt b g' → g' = g

section
variable {b id j : Nat} {g : TrayGroup} {P : BinManager → Prop} {u : State}

theorem Stands.onBin (h : Stands b id g P) (hj : j ∈ binNumbers) (hne : j ≠ b) (hu : P u.bins) (f : Bin → Bin) :
    P (u.onBin j f).bins := h.other _ j f hj hne hu

theorem Stands.onTray (h : Stands b id g P) (hj : j ∈ binNumbers) (hne : j ≠ b) (hu : P u.bins) (f : Tray → Tray) :
    P (u.onTray j f).bins := h.onBin hj hne hu _

theorem Stands.setBinState (h : Stands b id g P) (hj : j ∈ binNumbers) (hne : j ≠ b) (hu : P u.bins) (st : BinState) :
    P (u.setBinState j st).bins := by
  rw [State.setBinState, (State.notifyBoth_fields _ _).2.2.2.2.2.2.1]
  exact h.onBin hj hne hu _

theorem Stands.deliverWaiting (h : Stands b id g P) (n : Nat) (hu : P u.bins) : P (u.deliverWaiting n).bins := by
  induction n generalizing u with
  | zero => exact hu
  | succ n ih =>
    unfold State.deliverWaiting
    split
    · exact ih (h.delivers u hu)
    · exact hu

theorem Stands.joinDelivery (h : Stands b id g P) (hj : j ∈ binNumbers) (hne : j ≠ b) (hu : P u.bins) :
    P (u.joinDelivery j).bins := by
  have hjoin : P (u.onBins fun m => { m with delivery := m.delivery ++ [j] }).bins := h.joins _ _ hj hne hu
  unfold State.joinDelivery
  dsimp only
  split
  · exact h.deliverWaiting _ hjoin
  · exact hjoin

theorem Stands.closeIfEmptied (h : Stands b id g P) (hj : j ∈ binNumbers) (hu : P u.bins) :
    P (u.closeIfEmptied j).bins := by
  by_cases hne : j = b
  · rw [hne, h.unemptied u hu]
    exact hu
  · unfold State.closeIfEmptied
    split
    · split
      · refine h.joinDelivery hj hne ?_
        rw [(State.trayClosedReport_frame _ _).2.2.2.2.2.1]
        exact h.onTray hj hne hu _
      · exact hu
    · exact hu

theorem Stands.beginClosing (h : Stands b id g P) (hj : j ∈ binNumbers) (hne : j ≠ b) (hu : P u.bins)
    (reason : CloseReason) : P (u.beginClosing j reason).bins := by
  have hmark : P (u.markClosing j reason).bins := h.onTray hj hne hu _
  cases hy : (u.bin j).tray with
  | none => simpa only [State.beginClosing, hy] using hu
  | some y =>
    by_cases ho : y.state = .opened
    · rw [State.beginClosing_opened hy ho]
      refine h.closeIfEmptied hj ?_
      unfold State.startClosing
      split
      · exact hmark
      · exact h.setBinState hj hne hmark _
    · rwa [State.beginClosing_stays hy ho]

/-- A group end leaves bin `b` alone when its OPEN tray is of another group. -/
theorem Stands.groupEnd (h : Stands b id g P) (hu : P u.bins) {g' : TrayGroup} (hg : ¬ u.bins.OpenAt b g') :
    P (u.groupEnd g').bins := by
  unfold State.groupEnd
  cases hbin : u.openTrayBin g' with
  | none => exact hu
  | some j =>
    have hj := List.find?_some hbin
    refine h.beginClosing (List.mem_of_find?_eq_some hbin) (fun hjb => hg ?_) hu _
    subst hjb
    cases hz : (u.bin j).tray with
    | none => simp [hz] at hj
    | some z =>
      simp only [hz, Bool.and_eq_true, beq_iff_eq] at hj
      exact ⟨z, hz, hj.1, hj.2⟩

theorem Stands.areaTest (h : Stands b id g P) (hu : P u.bins) {a : List Nat} (ha : .area a ≠ g) (n : Nat) :
    P (u.areaTest a n).bins := by
  unfold State.areaTest
  split
  · exact h.groupEnd hu fun hopen => ha (h.opened _ _ hu hopen)
  · exact hu

/-- Neither of the group ends that the fall of a record's count may report is that of group `g` (R129, R130). -/
def State.EndsOther (u : State) (g : TrayGroup) (r : Piece) : Prop :=
  r.census = .counted →
    let d := u.profile.sort.finePrefix r.key
    (findFine (onFine d (CensusEntry.onCount (· - 1)) u.census) d = some (0, .fine) → .fine d ≠ g)
      ∧ .area (u.profile.sort.areaPrefix d) ≠ g

theorem Stands.withdraw (h : Stands b id g P) (hu : P u.bins) {r : Piece} (hr : u.EndsOther g r) :
    P (u.withdraw r).bins := by
  by_cases hc : r.census = .counted
  · obtain ⟨hfine, harea⟩ := hr hc
    have hwithdraw : u.withdraw r = u.countFalls (u.profile.sort.finePrefix r.key) := by simp only [State.withdraw, hc]
    rw [hwithdraw, State.countFalls, (State.removeFineIfDone_frame _ _).2.2.2.2.2.1]
    refine h.areaTest ?_ harea _
    split
    · next hzero =>
      exact Stands.groupEnd (u := u.onCensus _) h hu fun hopen => hfine (by simpa using hzero) (h.opened _ _ hu hopen)
    · exact hu
  · rwa [State.withdraw_uncounted hc]

theorem State.finishRecord_bins (p : PieceId) (d : Disposition) (u : State) : (u.finishRecord p d).bins = u.bins := by
  unfold State.finishRecord
  dsimp only
  split <;> simp

theorem Stands.finish (h : Stands b id g P) (hu : P u.bins) {p : PieceId} {d : Disposition}
    (hp : ∀ r, u.piece? p = some r → u.EndsOther g r) : P (u.finish p d).bins := by
  cases hr : u.piece? p with
  | none => simpa only [State.finish, hr] using hu
  | some r =>
    by_cases hstate : r.state = .finished
    · simpa [State.finish, hr, hstate] using hu
    · have hrecord : Effects [] u.outcomesNotice 0 [.pieces, .outcomes] u (u.finishRecord p d) :=
        State.finishRecord_effects
      rw [State.finish_eq hr hstate]
      refine h.withdraw (by rw [State.finishRecord_bins]; exact hu) ?_
      have hcensus : (u.finishRecord p d).census = u.census := hrecord.frame .census (by simp)
      have hprofile : (u.finishRecord p d).profile = u.profile := hrecord.frame .active (by simp)
      unfold State.EndsOther
      rw [hcensus, hprofile]
      exact hp r hr

/-- A reservation given up in another bin, or in bin `b` for a tray that is not there, leaves what stands. -/
theorem Stands.releaseEntry (h : Stands b id g P) (hu : P u.bins) {e : TrackEntry}
    (hbins : ∀ j, e.decision = some (.bin j) → j ∈ binNumbers)
    (hown : e.decision = some (.bin b) → ∀ x, u.reservation? e.tag = some x → x.trayId ≠ id) :
    P (u.releaseEntry e).bins := by
  unfold State.releaseEntry
  split
  · next j hj =>
    cases hx : u.reservation? e.tag with
    | none => simpa only [State.releaseReservation, hx] using hu
    | some x =>
      rw [State.releaseReservation_eq hx]
      refine h.closeIfEmptied (hbins j hj) (h.reservations _ _ ?_)
      by_cases hjb : j = b
      · subst hjb
        exact h.foreign _ _ _ (hown hj x hx) hu
      · exact h.onTray (hbins j hj) hjb hu _
  · exact hu
  · exact hu

/-- The close of a run leaves bin `b` alone while it holds no OPEN tray (R4, R155). -/
theorem Stands.closeNow (h : Stands b id g P) (hu : P u.bins) (hshut : ∀ m g', P m → ¬ m.OpenAt b g') :
    P u.closeNow.bins := by
  have hall : P ((u.onRun fun t => { t with runState := .closed }).closeAllTrays).bins := by
    unfold State.closeAllTrays
    have hstep : ∀ js : List Nat, (∀ j ∈ js, j ∈ binNumbers) → ∀ v : State, P v.bins →
        P (js.foldl (fun s b => s.beginClosing b .runEnd) v).bins := by
      intro js
      induction js with
      | nil => exact fun _ v hv => hv
      | cons j js ih =>
        intro hjs v hv
        refine ih (fun i hi => hjs i (List.mem_cons_of_mem _ hi)) _ ?_
        by_cases hjb : j = b
        · have hstay : v.beginClosing b .runEnd = v := by
            cases hy : (v.bin b).tray with
            | none => simp only [State.beginClosing, hy]
            | some y => exact State.beginClosing_stays hy fun ho => hshut _ y.group hv ⟨y, hy, rfl, ho⟩
          have hstep : (fun s b => State.beginClosing b .runEnd s) v j = v := hjb ▸ hstay
          rw [hstep]
          exact hv
        · exact h.beginClosing (hjs j List.mem_cons_self) hjb hv _
    exact hstep binNumbers (fun _ hj => hj) _ hu
  have hbins : u.closeNow.bins = ((u.onRun fun t => { t with runState := .closed }).closeAllTrays).bins := by
    simp only [State.closeNow, State.notifyBoth_fields, State.onCensus_bins]
  rw [hbins]
  exact hall

end

/-! ### The two things that stand -/

/-- Bin `b` is `x`, and no tray waits in it for delivery. -/
def Holding (b : Nat) (x : Bin) (m : BinManager) : Prop := m.bin b = x ∧ ∀ j ∈ m.delivery, j ∈ binNumbers ∧ j ≠ b

/-- The tray `z` of bin `b` is CLOSED: it has been delivered, or waits in its bin for delivery. -/
def Gone (b : Nat) (z : Tray) (m : BinManager) : Prop :=
  (∀ j ∈ m.delivery, j ∈ binNumbers)
    ∧ ((z ∈ m.closedTrays ∧ (m.bin b).tray = none) ∨ ((m.bin b).tray = some z ∧ b ∈ m.delivery))

section
variable {b : Nat} {u : State}

theorem BinManager.onBin_bin_ne {m : BinManager} {j : Nat} (f : Bin → Bin) (hb : b ∈ binNumbers) (hj : j ∈ binNumbers)
    (h : b ≠ j) : (m.onBin j f).bin b = m.bin b := by
  rw [mem_binNumbers] at hb hj
  exact nth_setNth_ne _ _ (by omega) (by omega) (by omega)

theorem BinManager.onBin_bin {m : BinManager} (f : Bin → Bin) : (m.onBin b f).bin b = f (m.bin b) := by
  simp [BinManager.bin, BinManager.onBin]

/-- What delivering the oldest tray of the queue does to the bins, whatever its bin holds. -/
theorem State.deliverOldest_cases {j : Nat} {rest : List Nat} (hd : u.bins.delivery = j :: rest) (hj : j ∈ binNumbers) :
    u.deliverOldest.bins.delivery = rest ∧ (∀ i ∈ binNumbers, i ≠ j → u.deliverOldest.bin i = u.bin i)
      ∧ (((u.bin j).tray = none ∧ u.deliverOldest.bin j = u.bin j
          ∧ u.deliverOldest.bins.closedTrays = u.bins.closedTrays)
        ∨ ∃ y, (u.bin j).tray = some y ∧ (u.deliverOldest.bin j).tray = none
          ∧ u.deliverOldest.bins.closedTrays = u.bins.closedTrays ++ [y]) := by
  cases hy : (u.bin j).tray with
  | none =>
    have heq : u.deliverOldest = u.onBins fun m => { m with delivery := rest } := by
      unfold State.deliverOldest
      rw [hd]
      dsimp only
      rw [show ((u.onBins fun m => { m with delivery := rest }).bin j).tray = none from hy]
    rw [heq]
    exact ⟨rfl, fun _ _ _ => rfl, .inl ⟨rfl, rfl, rfl⟩⟩
  | some y =>
    obtain ⟨hclosed, hdelivery, hbin, hother, -⟩ := State.deliverOldest_values hd hj hy
    exact ⟨hdelivery, hother, .inr ⟨y, rfl, by rw [hbin]; rfl, hclosed⟩⟩

theorem State.deliverOldest_of_empty (hd : u.bins.delivery = []) : u.deliverOldest = u := by
  unfold State.deliverOldest
  rw [hd]

/-- A bin whose tray is not due to become CLOSED keeps it. -/
theorem holding_stands {g : TrayGroup} {st : BinState} {w : Tray} (hb : b ∈ binNumbers)
    (hw : w.state ≠ .closing ∨ 0 < w.reserved) (hg : w.state = .opened → w.group = g) :
    Stands b w.id g (Holding b ⟨st, some w⟩) where
  other m j f hj hne h := ⟨(BinManager.onBin_bin_ne f hb hj hne.symm).trans h.1, h.2⟩
  joins m j hj hne h := by
    refine ⟨h.1, fun i hi => ?_⟩
    rcases List.mem_append.1 hi with hi | hi
    · exact h.2 i hi
    · rw [List.mem_singleton.1 hi]
      exact ⟨hj, hne⟩
  reservations m zs h := h
  delivers u h := by
    obtain ⟨hbin, hqueue⟩ := h
    cases hd : u.bins.delivery with
    | nil =>
      rw [State.deliverOldest_of_empty hd]
      exact ⟨hbin, hqueue⟩
    | cons j rest =>
      obtain ⟨hj, hne⟩ := hqueue j (by rw [hd]; exact List.mem_cons_self)
      obtain ⟨hrest, hother, -⟩ := State.deliverOldest_cases hd hj
      refine ⟨(hother b hb hne.symm).trans hbin, fun i hi => hqueue i ?_⟩
      rw [hrest] at hi
      rw [hd]
      exact List.mem_cons_of_mem _ hi
  unemptied u h := State.closeIfEmptied_stays (congrArg Bin.tray h.1) hw
  foreign m i f hi h := by
    refine ⟨?_, h.2⟩
    rw [BinManager.onBin_bin, h.1, Option.map_some, if_neg (by simpa using hi.symm)]
  opened m g' h hopen := by
    obtain ⟨z, hz, hzg, ho⟩ := hopen
    rw [h.1] at hz
    cases hz
    exact hzg.symm.trans (hg ho)

theorem Gone.not_openAt {m : BinManager} {z : Tray} (h : Gone b z m) (hz : z.state = .closed) (g : TrayGroup) :
    ¬ m.OpenAt b g := by
  rintro ⟨y, hy, -, ho⟩
  rcases h.2 with ⟨-, hnone⟩ | ⟨htray, -⟩
  · exact absurd (hy.symm.trans hnone) (by simp)
  · have hyz : y = z := Option.some.inj (hy.symm.trans htray)
    rw [hyz, hz] at ho
    exact absurd ho (by simp)

/-- A CLOSED tray stays CLOSED, in its bin until it is delivered. -/
theorem gone_stands {g : TrayGroup} {z : Tray} (hb : b ∈ binNumbers) (hz : z.state = .closed) :
    Stands b z.id g (Gone b z) where
  other m j f hj hne h := by
    have hbin := BinManager.onBin_bin_ne (m := m) f hb hj hne.symm
    refine ⟨h.1, ?_⟩
    rw [hbin]
    exact h.2
  joins m j hj hne h := by
    refine ⟨fun i hi => ?_, h.2.imp_right fun hwait => ⟨hwait.1, List.mem_append_left _ hwait.2⟩⟩
    rcases List.mem_append.1 hi with hi | hi
    · exact h.1 i hi
    · rw [List.mem_singleton.1 hi]
      exact hj
  reservations m zs h := h
  delivers u h := by
    obtain ⟨hqueue, hz⟩ := h
    cases hd : u.bins.delivery with
    | nil =>
      rw [State.deliverOldest_of_empty hd]
      exact ⟨hqueue, hz⟩
    | cons j rest =>
      obtain ⟨hrest, hother, hcases⟩ := State.deliverOldest_cases hd (hqueue j (by rw [hd]; exact List.mem_cons_self))
      refine ⟨fun i hi => hqueue i ?_, ?_⟩
      · rw [hrest] at hi
        rw [hd]
        exact List.mem_cons_of_mem _ hi
      · rcases hz with ⟨hmem, hnone⟩ | ⟨htray, hwait⟩
        · have hgone : z ∈ u.deliverOldest.bins.closedTrays := by
            rcases hcases with ⟨-, -, hsame⟩ | ⟨y, -, -, hmore⟩
            · rwa [hsame]
            · rw [hmore]
              exact List.mem_append_left _ hmem
          have hempty : (u.deliverOldest.bin b).tray = none := by
            by_cases hbj : b = j
            · subst hbj
              rcases hcases with ⟨-, hsame, -⟩ | ⟨y, -, hnone, -⟩
              · rwa [hsame]
              · exact hnone
            · rwa [hother b hb hbj]
          exact .inl ⟨hgone, hempty⟩
        · by_cases hbj : b = j
          · subst hbj
            rcases hcases with ⟨hnone, -, -⟩ | ⟨y, hy, hnone, hmore⟩
            · exact absurd (htray.symm.trans hnone) (by simp)
            · have hyz : y = z := Option.some.inj (hy.symm.trans htray)
              refine .inl ⟨?_, hnone⟩
              rw [hmore, hyz]
              exact List.mem_append_right _ (List.mem_singleton_self z)
          · refine .inr ⟨?_, ?_⟩
            · exact (congrArg Bin.tray (hother b hb hbj)).trans htray
            · rw [hd, List.mem_cons] at hwait
              rw [hrest]
              exact hwait.resolve_left hbj
  unemptied u h := by
    rcases h.2 with ⟨-, hnone⟩ | ⟨htray, -⟩
    · exact State.closeIfEmptied_of_no_tray hnone
    · exact State.closeIfEmptied_stays htray (.inl (by simp [hz]))
  foreign m i f hi h := by
    have htray : ((m.onBin b fun x => { x with tray := x.tray.map fun t => if t.id == i then f t else t }).bin b).tray
        = (m.bin b).tray.map fun t => if t.id == i then f t else t := by rw [BinManager.onBin_bin]
    refine ⟨h.1, ?_⟩
    rw [htray]
    refine h.2.imp (fun h => ⟨h.1, by rw [h.2]; rfl⟩) fun h => ⟨?_, h.2⟩
    rw [h.1, Option.map_some, if_neg (by simpa using hi.symm)]
  opened m g' h hopen := absurd hopen (h.not_openAt hz g')

/-- A CLOSING tray with nothing reserved becomes CLOSED (R156, R157). -/
theorem Holding.closes {st : BinState} {w : Tray} (hb : b ∈ binNumbers) (h : Holding b ⟨st, some w⟩ u.bins)
    (hc : w.state = .closing) (hr : w.reserved = 0) : Gone b { w with state := .closed } (u.closeIfEmptied b).bins := by
  have hstands : Stands b ({ w with state := .closed } : Tray).id .mixed (Gone b { w with state := .closed }) :=
    gone_stands hb rfl
  let v := ((u.markClosed b).trayClosedReport w.group).onBins fun m => { m with delivery := m.delivery ++ [b] }
  have hvbins : ((u.markClosed b).trayClosedReport w.group).bins = (u.markClosed b).bins := by simp
  have hmarked : ((u.markClosed b).bin b).tray = some { w with state := .closed } :=
    congrArg Bin.tray (State.markClosed_bin (congrArg Bin.tray h.1))
  have hv : Gone b { w with state := .closed } v.bins := by
    refine ⟨fun i hi => ?_, .inr ⟨?_, List.mem_append_right _ (List.mem_singleton_self b)⟩⟩
    · rcases List.mem_append.1 hi with hi | hi
      · rw [hvbins] at hi
        exact (h.2 i hi).1
      · rw [List.mem_singleton.1 hi]
        exact hb
    · exact (congrArg Bin.tray (State.bin_congr _ hvbins)).trans hmarked
  rw [State.closeIfEmptied_closes (congrArg Bin.tray h.1) hc hr]
  unfold State.joinDelivery
  dsimp only
  split
  · exact hstands.deliverWaiting _ hv
  · exact hv

end

end Sys2Proof.Machine
end

section
/-! What a PURGE leaves in a bin and in the census: the counts that stand while others fall (R127), and the tray whose
reserved places the purged entries give up (R114, R154, R156). -/

namespace Sys2Proof.Machine

/-! ### Fine counts that stand -/

/-- Every fine count above 0 stands, with its level. -/
def CountsKept (c c' : List CensusEntry) : Prop :=
  ∀ d m l, m ≠ 0 → findFine c d = some (m, l) → findFine c' d = some (m, l)

theorem CountsKept.refl (c : List CensusEntry) : CountsKept c c := fun _ _ _ _ h => h

theorem CountsKept.trans {c c' c'' : List CensusEntry} (h : CountsKept c c') (h' : CountsKept c' c'') :
    CountsKept c c'' := fun d m l hm hf => h' d m l hm (h d m l hm hf)

section
variable {c : List CensusEntry} {d d' : List Nat}

/-- A filter that keeps the fine entries of some digits keeps what is found under them. -/
theorem findFine_filter {p : CensusEntry → Bool} (h : ∀ e, e.kind.isFine = true → e.digits = d → p e = true) :
    findFine (c.filter p) d = findFine c d := by
  have hfind : (c.filter p).find? (fun e => e.kind.isFine && e.digits == d)
      = c.find? fun e => e.kind.isFine && e.digits == d := by
    rw [List.find?_filter]
    refine congrArg (fun q => List.find? q c) (funext fun e => ?_)
    by_cases hq : (e.kind.isFine && e.digits == d) = true
    · have hp := Bool.and_eq_true_iff.1 hq
      simp [hq, h e hp.1 (by simpa using hp.2)]
    · simp [hq]
  unfold findFine
  rw [hfind]

/-- A change of the count under other digits. -/
theorem findFine_onFine_ne {f : Nat → Nat} (h : d ≠ d') :
    findFine (onFine d' (CensusEntry.onCount f) c) d = findFine c d := by
  have hp : ((fun e : CensusEntry => e.kind.isFine && e.digits == d) ∘ fun e =>
      if (e.kind.isFine && e.digits == d') = true then e.onCount f else e) = fun e => e.kind.isFine && e.digits == d := by
    funext e
    rw [Function.comp_apply]
    split <;> simp
  unfold findFine
  rw [onFine, List.find?_map, hp]
  cases hfind : c.find? fun e => e.kind.isFine && e.digits == d with
  | none => rfl
  | some e =>
    have he := List.find?_some hfind
    have hdigits : e.digits = d := by simpa using (Bool.and_eq_true_iff.1 he).2
    have hne : ¬ (e.kind.isFine && e.digits == d') = true := by simp [hdigits, h]
    rw [Option.map_some, if_neg hne]

end

section
variable {u : State}

theorem State.removeAreaIfDone_counts (a : List Nat) : CountsKept u.census (u.removeAreaIfDone a).census := by
  unfold State.removeAreaIfDone
  split
  · exact fun d m l _ hf => (findFine_filter fun e he _ => by simp [he]).trans hf
  · exact .refl _

/-- The removal test of a fine entry removes it at count 0 alone. -/
theorem State.removeFineIfDone_counts (d : List Nat) : CountsKept u.census (u.removeFineIfDone d).census := by
  unfold State.removeFineIfDone
  split
  · next hcond =>
    refine CountsKept.trans (fun d' m l hm hf => ?_) (State.removeAreaIfDone_counts _)
    have hne : d' ≠ d := by
      rintro rfl
      simp [hf, hm] at hcond
    refine (findFine_filter fun e _ he => ?_).trans hf
    simpa [he] using .inr hne
  · exact .refl _

theorem State.trayClosedReport_counts (g : TrayGroup) : CountsKept u.census (u.trayClosedReport g).census := by
  cases g with
  | fine d => exact State.removeFineIfDone_counts d
  | area a => exact State.removeAreaIfDone_counts a
  | mixed => exact .refl _
  | rule k => exact .refl _

theorem State.closeIfEmptied_counts (j : Nat) : CountsKept u.census (u.closeIfEmptied j).census := by
  unfold State.closeIfEmptied
  split
  · split
    · rw [State.joinDelivery_census]
      exact State.trayClosedReport_counts (u := u.onTray j _) _
    · exact .refl _
  · exact .refl _

theorem State.beginClosing_counts (j : Nat) (reason : CloseReason) :
    CountsKept u.census (u.beginClosing j reason).census := by
  cases hy : (u.bin j).tray with
  | none => simpa only [State.beginClosing, hy] using CountsKept.refl _
  | some y =>
    by_cases ho : y.state = .opened
    · have hstart : (u.startClosing j reason).census = u.census := by
        unfold State.startClosing
        split
        · rfl
        · exact (State.setBinState_frame _ _ _).2.2.2.2.2.1
      rw [State.beginClosing_opened hy ho, ← hstart]
      exact State.closeIfEmptied_counts j
    · rw [State.beginClosing_stays hy ho]
      exact .refl _

theorem State.groupEnd_counts (g : TrayGroup) : CountsKept u.census (u.groupEnd g).census := by
  unfold State.groupEnd
  split
  · exact State.beginClosing_counts _ _
  · exact .refl _

theorem State.areaTest_counts (a : List Nat) (n : Nat) : CountsKept u.census (u.areaTest a n).census := by
  unfold State.areaTest
  split
  · exact State.groupEnd_counts _
  · exact .refl _

/-- After the fall of one count, the counts still above 0 stand. -/
theorem State.countFalls_counts (d : List Nat) :
    CountsKept (onFine d (CensusEntry.onCount (· - 1)) u.census) (u.countFalls d).census := by
  unfold State.countFalls
  dsimp only
  refine CountsKept.trans ?_ (State.removeFineIfDone_counts _)
  refine CountsKept.trans ?_ (State.areaTest_counts _ _)
  split
  · exact State.groupEnd_counts (u := u.onCensus _) _
  · exact .refl _

theorem State.releaseEntry_counts (e : TrackEntry) : CountsKept u.census (u.releaseEntry e).census := by
  unfold State.releaseEntry
  split
  · next j _ =>
    cases hx : u.reservation? e.tag with
    | none => simpa only [State.releaseReservation, hx] using CountsKept.refl _
    | some x =>
      rw [State.releaseReservation_eq hx]
      exact State.closeIfEmptied_counts (u := u.giveUp e.tag j x) j
  · exact .refl _
  · exact .refl _

end

/-! ### A group that goes on while pieces finish -/

/-- Whether the census counts a piece under the digits of a fine entry. -/
def State.countedUnder (s : State) (d : List Nat) (id : PieceId) : Bool :=
  (s.piece? id).any fun r => r.census == .counted && s.profile.sort.finePrefix r.key == d

/-- The pieces still to finish end no group `g` by the census `c`: they leave a fine group another piece, and an area
group none of them is counted. -/
def State.GoesOn (s : State) (g : TrayGroup) (ids : List PieceId) (c : List CensusEntry) : Prop :=
  match g with
  | .mixed | .rule _ => True
  | .area _ => ∀ id ∈ ids, ∀ r, s.piece? id = some r → r.census ≠ .counted
  | .fine d => ∃ m l, findFine c d = some (m, l) ∧ ids.countP (s.countedUnder d) < m

section
variable {s u : State} {g : TrayGroup} {id : PieceId} {ids : List PieceId} {c c' : List CensusEntry} {q r : Piece}

theorem State.GoesOn.kept (h : s.GoesOn g ids c) (hc : CountsKept c c') : s.GoesOn g ids c' := by
  cases g with
  | mixed => trivial
  | rule k => trivial
  | area a => exact h
  | fine d =>
    obtain ⟨m, l, hf, hm⟩ := h
    exact ⟨m, l, hc d m l (by omega) hf, hm⟩

theorem State.GoesOn.tail (h : s.GoesOn g (id :: ids) c) : s.GoesOn g ids c := by
  cases g with
  | mixed => trivial
  | rule k => trivial
  | area a => exact fun i hi => h i (List.mem_cons_of_mem _ hi)
  | fine d =>
    obtain ⟨m, l, hf, hm⟩ := h
    rw [List.countP_cons] at hm
    exact ⟨m, l, hf, by omega⟩

/-- Under a group that goes on, the next fall of its count leaves it above what is still to fall. -/
theorem State.GoesOn.fall {d : List Nat} (h : s.GoesOn (.fine d) (id :: ids) c) (hr : s.piece? id = some r)
    (hc : r.census = .counted) (hd : s.profile.sort.finePrefix r.key = d) :
    ∃ m l, findFine (onFine d (CensusEntry.onCount (· - 1)) c) d = some (m, l) ∧ ids.countP (s.countedUnder d) < m := by
  obtain ⟨m, l, hf, hm⟩ := h
  have hone : s.countedUnder d id = true := by simp [State.countedUnder, hr, hc, hd]
  rw [List.countP_cons, if_pos hone] at hm
  exact ⟨m - 1, l, findFine_onFine hf, by omega⟩

/-- The piece that finishes next ends no group of a tray that goes on. -/
theorem State.GoesOn.endsOther (h : s.GoesOn g (id :: ids) u.census) (hp : u.profile = s.profile)
    (hr : s.piece? id = some r) (hcensus : q.census = r.census) (hkey : q.key = r.key) : u.EndsOther g q := by
  intro hc d
  have hd : d = s.profile.sort.finePrefix r.key := by simp only [d, hp, hkey]
  rw [hcensus] at hc
  cases g with
  | mixed => exact ⟨fun _ => by simp, by simp⟩
  | rule k => exact ⟨fun _ => by simp, by simp⟩
  | area a => exact absurd hc (h id List.mem_cons_self r hr)
  | fine d' =>
    refine ⟨fun hzero heq => ?_, by simp⟩
    have hdd : d = d' := TrayGroup.fine.inj heq
    obtain ⟨m, l, hf, hm⟩ := h.fall hr hc (hd.symm.trans hdd)
    rw [← hdd, hzero] at hf
    cases hf
    exact absurd hm (Nat.not_lt_zero _)

/-- The group goes on for the pieces after it. -/
theorem State.GoesOn.finish (h : s.GoesOn g (id :: ids) u.census) (hp : u.profile = s.profile)
    (hq : ∀ q, u.piece? id = some q → ∃ r, s.piece? id = some r ∧ q.census = r.census ∧ q.key = r.key)
    (d : Disposition) : s.GoesOn g ids (u.finish id d).census := by
  cases hfound : u.piece? id with
  | none =>
    have hsame : u.finish id d = u := by simp only [State.finish, hfound]
    rw [hsame]
    exact h.tail
  | some q =>
    by_cases hstate : q.state = .finished
    · have hsame : u.finish id d = u := by simp [State.finish, hfound, hstate]
      rw [hsame]
      exact h.tail
    · obtain ⟨r, hr, hcensus, hkey⟩ := hq q hfound
      have hrecord : Effects [] u.outcomesNotice 0 [.pieces, .outcomes] u (u.finishRecord id d) :=
        State.finishRecord_effects
      have hsame : (u.finishRecord id d).census = u.census := hrecord.frame .census (by simp)
      have hprofile : (u.finishRecord id d).profile = s.profile :=
        (show (u.finishRecord id d).profile = u.profile from hrecord.frame .active (by simp)).trans hp
      rw [State.finish_eq hfound hstate]
      by_cases hc : q.census = .counted
      · have hwithdraw : (u.finishRecord id d).withdraw q
            = (u.finishRecord id d).countFalls (s.profile.sort.finePrefix r.key) := by
          simp only [State.withdraw, hc, hprofile, hkey]
        have hkept := State.countFalls_counts (u := u.finishRecord id d) (s.profile.sort.finePrefix r.key)
        rw [hsame] at hkept
        rw [hwithdraw]
        refine State.GoesOn.kept ?_ hkept
        cases g with
        | mixed => trivial
        | rule k => trivial
        | area a => exact fun i hi => h i (List.mem_cons_of_mem _ hi)
        | fine d' =>
          by_cases hd : s.profile.sort.finePrefix r.key = d'
          · rw [hd]
            exact h.fall hr (hcensus ▸ hc) hd
          · obtain ⟨m, l, hf, hm⟩ := h.tail
            exact ⟨m, l, (findFine_onFine_ne (Ne.symm hd)).trans hf, hm⟩
      · rw [State.withdraw_uncounted hc, hsame]
        exact h.tail

end

end Sys2Proof.Machine
end

section
/-! PURGE (R50, R113 to R116): the tray of one bin through the purge of the queue and of the collation records. -/

namespace Sys2Proof.Machine

/-! ### The part of the queue still to purge -/

/-- What the purge of the entries before them leaves as it was for the entries `es` and the collated pieces `cs`. -/
structure PurgeRest (s : State) (es : List TrackEntry) (cs : List PieceId) (u : State) : Prop where
  records : ∀ id ∈ es.map TrackEntry.piece ++ cs, u.piece? id = s.piece? id
  reserved : ∀ e ∈ es, u.reservation? e.tag = s.reservation? e.tag
  profile : u.profile = s.profile

/-- The entries of a queue and the collated pieces behind them: all pieces and all tags distinct, and every bin decided
one of the six. -/
structure PurgeList (es : List TrackEntry) (cs : List PieceId) : Prop where
  pieces : (es.map TrackEntry.piece ++ cs).Nodup
  tags : (es.map TrackEntry.tag).Nodup
  bins : ∀ e ∈ es, ∀ j, e.decision = some (.bin j) → j ∈ binNumbers

section
variable {s u : State} {e : TrackEntry} {es : List TrackEntry} {cs : List PieceId}

theorem PurgeList.tail (h : PurgeList (e :: es) cs) : PurgeList es cs where
  pieces := by
    have hp := h.pieces
    rw [List.map_cons, List.cons_append, List.nodup_cons] at hp
    exact hp.2
  tags := by
    have ht := h.tags
    rw [List.map_cons, List.nodup_cons] at ht
    exact ht.2
  bins := fun x hx => h.bins x (List.mem_cons_of_mem _ hx)

theorem PurgeRest.step (h : PurgeRest s (e :: es) cs u) (hl : PurgeList (e :: es) cs) :
    PurgeRest s es cs (u.purgeEntry e) where
  records id hid := by
    have hp := hl.pieces
    rw [List.map_cons, List.cons_append, List.nodup_cons] at hp
    have hne : id ≠ e.piece := fun he => hp.1 (he ▸ hid)
    rw [State.piece?_purgeEntry_ne hne]
    exact h.records id (by rw [List.map_cons, List.cons_append]; exact List.mem_cons_of_mem _ hid)
  reserved x hx := by
    have ht := hl.tags
    rw [List.map_cons, List.nodup_cons] at ht
    have hne : e.tag ≠ x.tag := fun he => ht.1 (he ▸ List.mem_map_of_mem hx)
    rw [← h.reserved x (List.mem_cons_of_mem _ hx), State.reservation?, State.reservation?,
      State.purgeEntry_reservations, List.find?_filter]
    refine congrArg (fun q => List.find? q u.bins.reservations) (funext fun z => ?_)
    by_cases hz : z.tag = x.tag
    · simp [TrackEntry.reserves, hz, hne]
    · simp [hz]
  profile := (State.purgeEntry_frame e u).2.2.2.2.2.2.1.trans h.profile

/-- The state in which a purged entry has given up its reservation and its record is about to finish. -/
def State.purging (e : TrackEntry) (u : State) : State := (u.addCause e.piece .purged).releaseEntry e

/-- What stands once an entry has given up its reservation stands once it is purged. -/
theorem Stands.purgeEntry {b id : Nat} {g : TrayGroup} {P : BinManager → Prop} (h : Stands b id g P)
    (hrest : PurgeRest s (e :: es) cs u) (hgo : s.GoesOn g ((e :: es).map TrackEntry.piece ++ cs) u.census)
    (hu : P (u.purging e).bins) :
    P (u.purgeEntry e).bins ∧ s.GoesOn g (es.map TrackEntry.piece ++ cs) (u.purgeEntry e).census := by
  have hmem : e.piece ∈ (e :: es).map TrackEntry.piece ++ cs := by simp
  have hrecord (q : Piece) (hq : (u.purging e).piece? e.piece = some q) :
      ∃ r, s.piece? e.piece = some r ∧ q.census = r.census ∧ q.key = r.key := by
    have hsame : (u.purging e).piece? e.piece = (s.piece? e.piece).map (Piece.addCause .purged) := by
      rw [← hrest.records _ hmem, ← State.piece?_onPiece (Piece.addCause_id .purged)]
      simp only [State.piece?, State.purging, State.releaseEntry_run]
      rfl
    rw [hsame, Option.map_eq_some_iff] at hq
    obtain ⟨r, hr, rfl⟩ := hq
    exact ⟨r, hr, by simp, by simp⟩
  have hprofile : (u.purging e).profile = s.profile :=
    (State.releaseEntry_changes .active (by decide)).trans hrest.profile
  have hcensus : s.GoesOn g (e.piece :: (es.map TrackEntry.piece ++ cs)) (u.purging e).census :=
    State.GoesOn.kept hgo (State.releaseEntry_counts (u := u.addCause e.piece .purged) e)
  exact ⟨h.finish hu fun q hq => by
      obtain ⟨r, hr, hqc, hqk⟩ := hrecord q hq
      exact hcensus.endsOther hprofile hr hqc hqk,
    hcensus.finish hprofile hrecord .diverted⟩

/-- What stands when the queue is purged stands when the collation records are (R50). -/
theorem Stands.finishAll {b id : Nat} {g : TrayGroup} {P : BinManager → Prop} (h : Stands b id g P) (hn : cs.Nodup)
    (hrecords : ∀ id ∈ cs, u.piece? id = s.piece? id) (hp : u.profile = s.profile) (hgo : s.GoesOn g cs u.census)
    (hu : P u.bins) : P (u.finishAll cs .purged .diverted).bins := by
  induction cs generalizing u with
  | nil => exact hu
  | cons id cs ih =>
    obtain ⟨hout, hn⟩ := List.nodup_cons.1 hn
    let v := u.addCause id .purged
    have hrecord (q : Piece) (hq : v.piece? id = some q) :
        ∃ r, s.piece? id = some r ∧ q.census = r.census ∧ q.key = r.key := by
      rw [show v.piece? id = (u.piece? id).map (Piece.addCause .purged) from
        State.piece?_onPiece (Piece.addCause_id .purged), hrecords id List.mem_cons_self, Option.map_eq_some_iff] at hq
      obtain ⟨r, hr, rfl⟩ := hq
      exact ⟨r, hr, by simp, by simp⟩
    have hgo' : s.GoesOn g (id :: cs) v.census := hgo
    refine ih (u := v.finish id .diverted) hn (fun i hi => ?_) ?_ (hgo'.finish hp hrecord .diverted) ?_
    · have hne : i ≠ id := fun he => hout (he ▸ hi)
      rw [State.piece?_finish_ne hne, ← hrecords i (List.mem_cons_of_mem _ hi)]
      exact State.piece?_onPiece_ne (Piece.addCause_id _) hne
    · exact (State.finish_frame _ _ _).2.2.2.2.2.2.2.1.trans hp
    · refine h.finish (u := v) hu fun q hq => ?_
      obtain ⟨r, hr, hqc, hqk⟩ := hrecord q hq
      exact hgo'.endsOther hp hr hqc hqk

end

/-! ### The places a tray gives up (R154) -/

/-- A tray without the places and the mass of some of its reservations. -/
def Tray.without (rs : List Reservation) (y : Tray) : Tray :=
  { y with reserved := y.reserved - rs.length, reservedMass := y.reservedMass - (rs.map Reservation.mass).sum }

theorem Tray.without_nil (y : Tray) : y.without [] = y := rfl

theorem Tray.without_cons (x : Reservation) (rs : List Reservation) (y : Tray) :
    y.without (x :: rs) = (y.without [x]).without rs := by
  have hcount : y.reserved - (rs.length + 1) = y.reserved - 1 - rs.length := by omega
  have hmass : y.reservedMass - (x.mass + (rs.map Reservation.mass).sum)
      = y.reservedMass - x.mass - (rs.map Reservation.mass).sum := by omega
  simp only [Tray.without, List.length_cons, List.map_cons, List.sum_cons, hcount, hmass, List.length_nil, List.map_nil,
    List.sum_nil, Nat.zero_add, Nat.add_zero]

/-- The reservation that an entry decided for bin `b` holds in its tray `id`. -/
def State.releasedBy (s : State) (b id : Nat) (e : TrackEntry) : Option Reservation :=
  if e.decision = some (.bin b) then (s.reservation? e.tag).filter fun x => x.trayId == id else none

section
variable {s u : State} {e : TrackEntry} {es : List TrackEntry} {cs : List PieceId} {b id : Nat} {g : TrayGroup}
  {st : BinState} {w y z : Tray} {x : Reservation}

theorem State.releasedBy_eq_some (h : s.releasedBy b id e = some x) :
    e.decision = some (.bin b) ∧ s.reservation? e.tag = some x ∧ x.trayId = id := by
  unfold State.releasedBy at h
  split at h
  · next hdec =>
    obtain ⟨hx, hid⟩ := Option.filter_eq_some_iff.1 h
    exact ⟨hdec, hx, by simpa using hid⟩
  · simp at h

/-- An entry that holds no reservation in the tray leaves what stands there. -/
theorem Stands.purging {P : BinManager → Prop} (h : Stands b id g P) (hrest : PurgeRest s (e :: es) cs u)
    (hl : PurgeList (e :: es) cs) (hnone : s.releasedBy b id e = none) (hu : P u.bins) : P (u.purging e).bins := by
  refine Stands.releaseEntry (u := u.addCause e.piece .purged) h hu (hl.bins e List.mem_cons_self) fun hdec x hx => ?_
  have hx' : s.reservation? e.tag = some x := (hrest.reserved e List.mem_cons_self).symm.trans hx
  rw [State.releasedBy, if_pos hdec, hx'] at hnone
  simpa [Option.filter] using hnone

/-- An entry that holds a reservation in the tray gives it up. -/
theorem Holding.purging (hb : b ∈ binNumbers) (hrest : PurgeRest s (e :: es) cs u)
    (hsome : s.releasedBy b w.id e = some x) (hu : Holding b ⟨st, some w⟩ u.bins) :
    ∃ v : State, Holding b ⟨st, some (w.without [x])⟩ v.bins ∧ u.purging e = v.closeIfEmptied b := by
  obtain ⟨hdec, hx, hid⟩ := State.releasedBy_eq_some hsome
  let v := (u.addCause e.piece .purged).giveUp e.tag b x
  have hx' : (u.addCause e.piece .purged).reservation? e.tag = some x :=
    (hrest.reserved e List.mem_cons_self).trans hx
  have hbin := (State.giveUp_values (s := u.addCause e.piece .purged) (tag := e.tag) hb (congrArg Bin.tray hu.1)
    hid.symm).1
  refine ⟨v, ⟨hbin.trans ?_, hu.2⟩, ?_⟩
  · rw [show ((u.addCause e.piece .purged).bin b).state = st from congrArg Bin.state hu.1]
    rfl
  · simp only [State.purging, State.releaseEntry, hdec]
    exact State.releaseReservation_eq hx'

/-! ### A tray that does not become CLOSED -/

/-- Bin `b` holds a tray `w` that is not emptied before the end: what the entries still to purge leave of it is `z`. -/
def PurgeKeeps (s : State) (b : Nat) (st : BinState) (z : Tray) (g : TrayGroup) (cs : List PieceId)
    (es : List TrackEntry) (u : State) : Prop :=
  PurgeRest s es cs u ∧ s.GoesOn g (es.map TrackEntry.piece ++ cs) u.census
    ∧ ∃ w : Tray, Holding b ⟨st, some w⟩ u.bins ∧ w.id = z.id ∧ (w.state = .opened → w.group = g)
      ∧ w.without (es.filterMap (s.releasedBy b z.id)) = z
      ∧ (w.state ≠ .closing ∨ (es.filterMap (s.releasedBy b z.id)).length < w.reserved)

theorem PurgeKeeps.step (hb : b ∈ binNumbers) (hl : PurgeList (e :: es) cs)
    (h : PurgeKeeps s b st z g cs (e :: es) u) : PurgeKeeps s b st z g cs es (u.purgeEntry e) := by
  obtain ⟨hrest, hgo, w, hw, hid, hg, hz, hopen⟩ := h
  cases hrel : s.releasedBy b z.id e with
  | none =>
    rw [List.filterMap_cons_none hrel] at hz hopen
    have hstands : Stands b w.id g (Holding b ⟨st, some w⟩) := holding_stands hb (hopen.imp_right (by omega)) hg
    obtain ⟨hbins, hcensus⟩ := hstands.purgeEntry hrest hgo (hstands.purging hrest hl (by rw [hid]; exact hrel) hw)
    exact ⟨hrest.step hl, hcensus, w, hbins, hid, hg, hz, hopen⟩
  | some x =>
    rw [List.filterMap_cons_some hrel, Tray.without_cons] at hz
    rw [List.filterMap_cons_some hrel, List.length_cons] at hopen
    have hopen' : (w.without [x]).state ≠ .closing
        ∨ (es.filterMap (s.releasedBy b z.id)).length < (w.without [x]).reserved :=
      hopen.imp_right fun hlt => by simp only [Tray.without, List.length_cons, List.length_nil]; omega
    have hstands : Stands b (w.without [x]).id g (Holding b ⟨st, some (w.without [x])⟩) :=
      holding_stands hb (hopen'.imp_right (by omega)) hg
    obtain ⟨v, hv, hpurging⟩ := hw.purging hb hrest (by rw [hid]; exact hrel)
    have hstay : Holding b ⟨st, some (w.without [x])⟩ (u.purging e).bins := by
      rw [hpurging, hstands.unemptied v hv]
      exact hv
    obtain ⟨hbins, hcensus⟩ := hstands.purgeEntry hrest hgo hstay
    exact ⟨hrest.step hl, hcensus, w.without [x], hbins, hid, hg, hz, hopen'⟩

/-! ### A CLOSING tray that becomes CLOSED -/

/-- Bin `b` holds a CLOSING tray whose last places are those of the entries still to purge, or the tray `z` that is left
of it is CLOSED. -/
def PurgeCloses (s : State) (b : Nat) (st : BinState) (z : Tray) (cs : List PieceId) (es : List TrackEntry)
    (u : State) : Prop :=
  PurgeRest s es cs u
    ∧ ((∃ w : Tray, Holding b ⟨st, some w⟩ u.bins ∧ w.id = z.id ∧ w.state = .closing
          ∧ es.filterMap (s.releasedBy b z.id) ≠ [] ∧ w.reserved = (es.filterMap (s.releasedBy b z.id)).length
          ∧ { w.without (es.filterMap (s.releasedBy b z.id)) with state := .closed } = z)
      ∨ (es.filterMap (s.releasedBy b z.id) = [] ∧ Gone b z u.bins))

theorem PurgeCloses.step (hb : b ∈ binNumbers) (hl : PurgeList (e :: es) cs) (hzc : z.state = .closed)
    (h : PurgeCloses s b st z cs (e :: es) u) : PurgeCloses s b st z cs es (u.purgeEntry e) := by
  obtain ⟨hrest, hcases⟩ := h
  have hgone : Stands b z.id .mixed (Gone b z) := gone_stands hb hzc
  refine ⟨hrest.step hl, ?_⟩
  rcases hcases with ⟨w, hw, hid, hc, hne, hr, hz⟩ | ⟨hnil, hu⟩
  · have hnotOpen : w.state = .opened → w.group = .mixed := fun ho => by simp [hc] at ho
    cases hrel : s.releasedBy b z.id e with
    | none =>
      rw [List.filterMap_cons_none hrel] at hne hr hz
      have hpos : 0 < w.reserved := by
        rw [hr]
        exact List.length_pos_iff.2 hne
      have hstands : Stands b w.id .mixed (Holding b ⟨st, some w⟩) := holding_stands hb (.inr hpos) hnotOpen
      have hbins := (hstands.purgeEntry hrest trivial (hstands.purging hrest hl (by rw [hid]; exact hrel) hw)).1
      exact .inl ⟨w, hbins, hid, hc, hne, hr, hz⟩
    | some x =>
      rw [List.filterMap_cons_some hrel, Tray.without_cons] at hz
      rw [List.filterMap_cons_some hrel, List.length_cons] at hr
      obtain ⟨v, hv, hpurging⟩ := hw.purging hb hrest (by rw [hid]; exact hrel)
      have hr' : (w.without [x]).reserved = (es.filterMap (s.releasedBy b z.id)).length := by
        simp only [Tray.without, List.length_cons, List.length_nil]
        omega
      by_cases hlast : es.filterMap (s.releasedBy b z.id) = []
      · rw [hlast, Tray.without_nil] at hz
        rw [hlast] at hr'
        have hclosed : Gone b z (u.purging e).bins := by
          rw [hpurging, ← hz]
          exact hv.closes hb hc hr'
        exact .inr ⟨hlast, (hgone.purgeEntry hrest trivial hclosed).1⟩
      · have hpos : 0 < (w.without [x]).reserved := by
          rw [hr']
          exact List.length_pos_iff.2 hlast
        have hstands : Stands b (w.without [x]).id .mixed (Holding b ⟨st, some (w.without [x])⟩) :=
          holding_stands hb (.inr hpos) hnotOpen
        have hstay : Holding b ⟨st, some (w.without [x])⟩ (u.purging e).bins := by
          rw [hpurging, hstands.unemptied v hv]
          exact hv
        exact .inl ⟨w.without [x], (hstands.purgeEntry hrest trivial hstay).1, hid, hc, hlast, hr', hz⟩
  · have hrel : s.releasedBy b z.id e = none := by
      cases hrel : s.releasedBy b z.id e with
      | none => rfl
      | some x => simp [List.filterMap_cons_some hrel] at hnil
    rw [List.filterMap_cons_none hrel] at hnil
    exact .inr ⟨hnil, (hgone.purgeEntry hrest trivial (hgone.purging hrest hl hrel hu)).1⟩

/-- An invariant over the part of the queue still to purge, at the end of the queue. -/
theorem purgeEntries_invariant {I : List TrackEntry → State → Prop}
    (hstep : ∀ e es u, PurgeList (e :: es) cs → I (e :: es) u → I es (u.purgeEntry e)) (hl : PurgeList es cs)
    (h : I es u) : I [] (u.purgeEntries es) := by
  induction es generalizing u with
  | nil => exact h
  | cons e es ih => exact ih hl.tail (hstep e es u hl h)

end

/-! ### The whole PURGE -/

section
variable {s : State} {b id : Nat} {g : TrayGroup} {P : BinManager → Prop} {y : Tray}

/-- The queue and the collation records of a state, as PURGE finds them. -/
theorem purgeList_of (hn : s.purgedIds.Nodup) (hbounded : TrackBounded s)
    (hbins : ∀ e ∈ s.track.entries, ∀ j, e.decision = some (.bin j) → j ∈ binNumbers) :
    PurgeList s.track.entries s.checker.collated :=
  ⟨hn, hbounded.2.1, hbins⟩

theorem purgeRest_start : PurgeRest s s.track.entries s.checker.collated s.endStall :=
  ⟨fun _ _ => rfl, fun _ _ => rfl, rfl⟩

/-- What stands when the queue is purged stands when the line is. -/
theorem Stands.purgedLine (h : Stands b id g P) (hn : s.purgedIds.Nodup)
    (hrest : PurgeRest s [] s.checker.collated (s.endStall.purgeEntries s.track.entries))
    (hgo : s.GoesOn g s.checker.collated (s.endStall.purgeEntries s.track.entries).census)
    (hu : P (s.endStall.purgeEntries s.track.entries).bins) : P s.purgedLine.bins := by
  have hchecker : (s.endStall.purgeEntries s.track.entries).checker = s.checker := (State.purgeEntries_frame _ _).1
  rw [State.purgedLine, State.purgeCollations_eq, hchecker]
  obtain ⟨-, hcollated, -⟩ := List.nodup_append.1 hn
  exact Stands.finishAll (s := s) h hcollated (fun i hi => hrest.records i (by simpa using hi)) hrest.profile hgo hu

/-- What stands with no OPEN tray stands when the draining run closes. -/
theorem Stands.drainTest {u : State} (h : Stands b id g P) (hu : P u.bins) (hshut : ∀ m g', P m → ¬ m.OpenAt b g') :
    P u.drainTest.bins := by
  unfold State.drainTest
  split
  · exact h.closeNow hu hshut
  · exact hu

theorem State.purgeAll_bins : s.purgeAll.bins = s.purgedLine.drainTest.bins := by
  rw [State.purgeAll_eq, (State.notifyBoth_fields _ _).2.2.2.2.2.2.1]

end

end Sys2Proof.Machine
end

section
/-! PURGE (R50, R113 to R116): the bins after it, and the request. -/

namespace Sys2Proof.Machine

section
variable {s : State} {b : Nat} {g : TrayGroup} {y : Tray}

/-- The reservations that the purged entries give up in the tray of bin `b` (R114, R154). -/
def State.released (s : State) (b : Nat) (y : Tray) : List Reservation :=
  s.track.entries.filterMap (s.releasedBy b y.id)

theorem State.released_eq : s.released b y = (s.track.entries.filter fun e => e.decision == some (.bin b)).filterMap
    fun e => (s.reservation? e.tag).filter fun x => x.trayId == y.id := by
  rw [List.filterMap_filter]
  refine List.filterMap_congr fun e _ => ?_
  simp only [State.releasedBy, beq_iff_eq]

/-- A tray that is not emptied as a CLOSING one, and whose group goes on while it is OPEN, keeps its bin and gives up the
places of the purged entries. -/
theorem State.purgeAll_keeps (hl : PurgeList s.track.entries s.checker.collated) (hb : b ∈ binNumbers)
    (hy : (s.bin b).tray = some y) (hqueue : ∀ j ∈ s.bins.delivery, j ∈ binNumbers ∧ j ≠ b)
    (hg : y.state = .opened → y.group = g) (hgo : s.GoesOn g s.purgedIds s.census)
    (hopen : y.state ≠ .closing ∨ (s.released b y).length < y.reserved)
    (hdrain : s.run.runState ≠ .draining ∨ y.state ≠ .opened) :
    s.purgeAll.bin b = ⟨(s.bin b).state, some (y.without (s.released b y))⟩ := by
  let z := y.without (s.released b y)
  have hbin : s.bin b = ⟨(s.bin b).state, some y⟩ := by rw [← hy]
  have hstart : PurgeKeeps s b (s.bin b).state z g s.checker.collated s.track.entries s.endStall :=
    ⟨purgeRest_start, hgo, y, ⟨hbin, hqueue⟩, rfl, hg, rfl, hopen⟩
  obtain ⟨hrest, hgoEnd, w, hw, hid, hwg, hwz, hwopen⟩ := purgeEntries_invariant
    (I := PurgeKeeps s b (s.bin b).state z g s.checker.collated) (fun _ _ _ => PurgeKeeps.step hb) hl hstart
  have heq : w = z := hwz
  subst heq
  have hstands : Stands b z.id g (Holding b ⟨(s.bin b).state, some z⟩) := holding_stands hb hwopen hwg
  have hline : Holding b ⟨(s.bin b).state, some z⟩ s.purgedLine.bins :=
    hstands.purgedLine hl.pieces hrest hgoEnd hw
  have hend : Holding b ⟨(s.bin b).state, some z⟩ s.purgedLine.drainTest.bins := by
    rcases hdrain with hnot | hshut
    · have hstate : s.purgedLine.run.runState = s.run.runState := State.purgedLine_changes .runState (by decide)
      rw [State.drainTest_stays fun hd => hnot (hstate.symm.trans hd.1)]
      exact hline
    · refine hstands.drainTest hline fun m g' hm ⟨v, hv, _, ho⟩ => hshut ?_
      rw [hm.1] at hv
      cases hv
      exact ho
  rw [State.bin, State.purgeAll_bins]
  exact hend.1

/-- A CLOSING tray whose every place is that of a purged entry becomes CLOSED (R156, R157). -/
theorem State.purgeAll_closes (hl : PurgeList s.track.entries s.checker.collated) (hb : b ∈ binNumbers)
    (hy : (s.bin b).tray = some y) (hqueue : ∀ j ∈ s.bins.delivery, j ∈ binNumbers ∧ j ≠ b) (hc : y.state = .closing)
    (hne : s.released b y ≠ []) (hr : y.reserved = (s.released b y).length) :
    Gone b { y.without (s.released b y) with state := .closed } s.purgeAll.bins := by
  let z : Tray := { y.without (s.released b y) with state := .closed }
  have hbin : s.bin b = ⟨(s.bin b).state, some y⟩ := by rw [← hy]
  have hstart : PurgeCloses s b (s.bin b).state z s.checker.collated s.track.entries s.endStall :=
    ⟨purgeRest_start, .inl ⟨y, ⟨hbin, hqueue⟩, rfl, hc, hne, hr, rfl⟩⟩
  obtain ⟨hrest, hcases⟩ := purgeEntries_invariant (I := PurgeCloses s b (s.bin b).state z s.checker.collated)
    (fun _ _ _ hl => PurgeCloses.step hb hl rfl) hl hstart
  have hgone : Gone b z (s.endStall.purgeEntries s.track.entries).bins := by
    rcases hcases with ⟨w, -, -, -, hnil, -⟩ | ⟨-, hgone⟩
    · exact absurd rfl hnil
    · exact hgone
  have hstands : Stands b z.id .mixed (Gone b z) := gone_stands hb rfl
  rw [State.purgeAll_bins]
  exact hstands.drainTest (hstands.purgedLine hl.pieces hrest trivial hgone) fun m g' hm => hm.not_openAt rfl g'

/-- The group of an OPEN tray goes on as the records of the run say it does. -/
theorem State.goesOn_start (hn : s.purgedIds.Nodup)
    (hg : match g with
      | .mixed | .rule _ => True
      | .area _ => ∀ x ∈ s.run.pieces, (decide (x.id ∈ s.purgedIds) && x.census == .counted) = false
      | .fine d => ∃ n l, findFine s.census d = some (n, l) ∧ (s.run.pieces.countP fun x =>
          (decide (x.id ∈ s.purgedIds) && x.census == .counted) && s.profile.sort.finePrefix x.key == d) < n) :
    s.GoesOn g s.purgedIds s.census := by
  cases g with
  | mixed => trivial
  | rule k => trivial
  | area a =>
    intro id hid r hr hc
    obtain ⟨hrid, hmem⟩ := State.piece?_eq_some hr
    have hnone := hg r hmem
    simp [hrid, hid, hc] at hnone
  | fine d =>
    obtain ⟨n, l, hf, hlt⟩ := hg
    refine ⟨n, l, hf, lt_of_le_of_lt ?_ hlt⟩
    have hsub : s.purgedIds.filter (s.countedUnder d) ⊆ (s.run.pieces.filter fun x =>
        (decide (x.id ∈ s.purgedIds) && x.census == .counted) && s.profile.sort.finePrefix x.key == d).map Piece.id := by
      intro id hid
      obtain ⟨hmem, hcounted⟩ := List.mem_filter.1 hid
      obtain ⟨r, hr, hq⟩ : ∃ r, s.piece? id = some r
          ∧ (r.census == .counted && s.profile.sort.finePrefix r.key == d) = true := by
        rw [State.countedUnder] at hcounted
        cases hr : s.piece? id with
        | none => simp [hr] at hcounted
        | some r => exact ⟨r, rfl, by simpa [hr] using hcounted⟩
      obtain ⟨hrid, hrmem⟩ := State.piece?_eq_some hr
      refine List.mem_map.2 ⟨r, List.mem_filter.2 ⟨hrmem, ?_⟩, hrid⟩
      simpa [hrid, hmem] using hq
    have hlen := ((hn.filter _).subperm hsub).length_le
    rwa [List.length_map, ← List.countP_eq_length_filter, ← List.countP_eq_length_filter] at hlen

/-- What a taken PURGE changes. -/
theorem State.purgeAll_changes : ChangesOnly ([.runState, .pieces, .outcomes, .forming, .ready, .releaseHold, .entries,
    .census, .bins, .delivery, .closedTrays, .reservations, .stall, .notices .track, .notices .plan, .flags]) s
    s.purgeAll := by
  have hall : ChangesOnly (.runState :: [.pieces, .outcomes, .forming, .ready, .releaseHold] ++ gateBlocks) s
      s.purgeAll := by
    rw [State.purgeAll_eq]
    exact ((State.purgedLine_changes.mono (by decide)).trans (State.drainTest_changes.mono (by decide))).trans
      ((State.notifyBoth_effects _ _).frame.mono (by decide))
  intro c hc
  by_cases hcounter : c = .trayCounter
  · subst hcounter
    have hdrain := congrArg (fun m => m.2.2) (State.drainTest_promises s.purgedLine)
    exact (congrArg BinManager.trayCounter State.purgeAll_bins).trans (hdrain.trans State.purgedLine_promises.2.1)
  · have hblocks : ∀ c ∈ .runState :: [.pieces, .outcomes, .forming, .ready, .releaseHold] ++ gateBlocks,
        c ∉ [Block.runState, .pieces, .outcomes, .forming, .ready, .releaseHold, .entries, .census, .bins, .delivery,
          .closedTrays, .reservations, .stall, .notices .track, .notices .plan, .flags] → c = .trayCounter := by decide
    exact hall c fun hmem => hcounter (hblocks c hmem hc)

theorem State.purgeAll_promises : s.purgeAll.bins.stall = none
    ∧ s.purgeAll.bins.reservations = s.bins.reservations.filter fun z => s.track.entries.all fun e => !e.reserves z := by
  obtain ⟨hstall, -, hreservations⟩ := s.purgedLine_promises
  have hdrain := State.drainTest_promises s.purgedLine
  rw [State.purgeAll_bins]
  exact ⟨(BinManager.stall_eq_of_promises hdrain).trans hstall,
    (BinManager.reservations_eq_of_promises hdrain).trans hreservations⟩

/-- The run, the queue and the Collation Checker after a taken PURGE (R50, R114 to R116). -/
theorem State.purgeAll_values (hn : s.purgedIds.Nodup)
    (h : ∀ id ∈ s.purgedIds, ∃ r, s.piece? id = some r ∧ r.state ≠ .finished) :
    s.purgeAll.run = { s.run with
        runState := if s.run.runState = .draining then .closed else s.run.runState
        pieces := s.run.pieces.map fun x => if x.id ∈ s.purgedIds then x.purged else x
        outcomes := s.run.outcomes ++ s.purgedIds }
      ∧ s.purgeAll.track = { s.track with entries := [] }
      ∧ s.purgeAll.checker = { s.checker with forming := none, ready := none, releaseHold := .free } := by
  have hrun := State.purgedLine_run hn h
  have hstate : s.purgedLine.run.runState = s.run.runState := by rw [hrun]
  have hdrainRun : s.purgedLine.drainTest.run = { s.purgedLine.run with
      runState := if s.run.runState = .draining then .closed else s.run.runState } := by
    by_cases hd : s.run.runState = .draining
    · rw [State.drainTest_closes (hstate.trans hd) State.purgedLine_lineEmpty, (State.closeNow_values _).1, if_pos hd]
    · rw [State.drainTest_stays fun hdraining => hd (hstate.symm.trans hdraining.1), if_neg hd, ← hstate]
  refine ⟨?_, ?_, ?_⟩
  · rw [State.purgeAll_eq, (State.notifyBoth_fields _ _).1, hdrainRun, hrun]
  · rw [State.purgeAll_eq, (State.notifyBoth_fields _ _).2.2.2.2.1, (State.drainTest_frame _).2.2.2.1,
      State.purgedLine_track]
  · rw [State.purgeAll_eq, (State.notifyBoth_fields _ _).2.1, (State.drainTest_frame _).1, State.purgedLine_checker]

end

end Sys2Proof.Machine

open Sys2Proof Sys2Proof.Machine

/-- Settles O45: the entries and the collations are purged one after another; each tray gives up the places of its
entries, and what stands in a bin stands through the closing of the others. -/
theorem purgeEmptiesTheLine : Obligations.PurgeEmptiesTheLine := by
  intro s hdue
  refine ⟨fun hstopped => ?_, fun hrunning => ?_⟩
  · intro owners collated ids counts hd hn hfound
    let d := s.dropFrame .track
    have hids : d.purgedIds = ids := rfl
    have hrecords : ∀ id ∈ d.purgedIds, ∃ r, d.piece? id = some r ∧ r.state ≠ .finished := fun id hid => by
      obtain ⟨r, hr, rfl, hstate⟩ := hfound id hid
      exact ⟨r, State.piece?_of_mem (s := d) hd hr, hstate⟩
    obtain ⟨hstall, hreservations⟩ := State.purgeAll_promises (s := d)
    obtain ⟨hrun, htrack, hchecker⟩ := State.purgeAll_values (s := d) hn hrecords
    have hbody : RequestKind.purge.body .track [] d = (d.purgeAll, done counts) := by
      have hline : (d.run.lineState == .stopped) = true := by simpa [d] using hstopped
      obtain ⟨hpieces, horphans⟩ := d.checker.countOwners_eq
      simp only [RequestKind.body, purgeBody, hline, if_true, State.afterEvent_of_no_stall hstall, hpieces, horphans]
      rfl
    obtain ⟨hexec, hans, hchanges⟩ := exec_due_changes (k := .purge) hdue rfl rfl hbody (by decide)
      State.purgeAll_changes
    generalize ht : d.purgeAll.answerFrame .track (requestFrame .purge []) (done counts) = t at hexec hans hchanges
    have htrun : t.run = _ := (by simp [← ht] : t.run = d.purgeAll.run).trans hrun
    have httrack : t.track = _ := (by simp [← ht] : t.track = d.purgeAll.track).trans htrack
    have htchecker : t.checker = _ := (by simp [← ht] : t.checker = d.purgeAll.checker).trans hchecker
    have htbins : t.bins = d.purgeAll.bins := by simp [← ht]
    have htnotices (q : Port) : (t.port q).notices = pushNotice (d.purgedLine.drainTest.port q).notices
        (.purgeDone s.track.entries.length collated.length (owners.length - collated.length)) := by
      rw [← ht, (State.answerFrame_port _ _ _ _ _).2.1, State.purgeAll_eq, State.notifyBoth_notices]
      rfl
    refine ⟨t, hexec, hans, httrack, htchecker, by rw [htbins]; exact hstall, congrArg RunTable.outcomes htrun, ?_,
      congrArg RunTable.runState htrun, fun hbounded hbins => ?_, fun q hq => ?_, hchanges.mono (by decide)⟩
    · refine (congrArg RunTable.pieces htrun).trans (List.map_congr_left fun x hx => ?_)
      by_cases hid : x.id ∈ ids
      · obtain ⟨r, hr, hrid, hstate⟩ := hfound x.id hid
        have hxr : x = r := List.inj_on_of_nodup_map hd hx hr hrid.symm
        rw [if_pos hid, if_pos (hids ▸ hid), Piece.purged_eq (hxr ▸ hstate)]
      · rw [if_neg hid, if_neg (hids ▸ hid)]
    · have hl : PurgeList d.track.entries d.checker.collated := purgeList_of (s := d) hn hbounded hbins
      intro binned
      refine ⟨(congrArg BinManager.reservations htbins).trans (hreservations.trans (List.filter_congr fun z _ => ?_)),
        fun b hb y hy hqueue => ?_⟩
      · rw [Bool.eq_iff_iff, List.all_eq_true, List.all_eq_true]
        refine forall₂_congr fun e he => ?_
        have hbinned : binned e = e.decision.any (· != .divert) := by
          cases hdec : e.decision with
          | none => simp [binned, hdec]
          | some x =>
            cases x with
            | divert => simp [binned, hdec]
            | bin j =>
              have hany : binned e = true :=
                List.any_eq_true.2 ⟨j, hbins e he j hdec, by rw [hdec]; exact beq_self_eq_true _⟩
              rw [hany]
              rfl
        rw [hbinned, TrackEntry.reserves, Bool.not_and]
        rfl
      · intro released y' purged goesOn
        have hreleased : d.released b y = released := State.released_eq
        have hy' : y.without (d.released b y) = y' := by rw [hreleased]; rfl
        have hkeeps {g : TrayGroup} := State.purgeAll_keeps (g := g) hl hb hy hqueue
        rw [hy', hreleased] at hkeeps
        have htbin : t.bin b = d.purgeAll.bin b := State.bin_congr _ htbins
        rw [← htbin] at hkeeps
        refine ⟨fun ho hgo => ?_, fun hc hlt => ?_, fun hc hne hr => ?_⟩
        · exact hkeeps (fun _ => rfl) (State.goesOn_start (s := d) hn hgo.2) (.inl (by simp [ho])) (.inl hgo.1)
        · exact hkeeps (g := .mixed) (fun ho => by simp [hc] at ho) trivial (.inr hlt) (.inr (by simp [hc]))
        · have hgone := State.purgeAll_closes hl hb hy hqueue hc (by rw [hreleased]; exact hne)
            (by rw [hreleased]; exact hr)
          rw [hy', ← htbins] at hgone
          exact hgone.2.imp_left And.left
    · rw [htnotices] at hq ⊢
      exact getLast?_pushNotice hq
  · exact exec_due_unchanged (k := .purge) (r := refuse .wrongState) hdue rfl rfl
      (by simp [RequestKind.body, purgeBody, hrunning])
end

section
/-! The arithmetic of chapter 3: rounding half up (R54, R68), the fold plan (R60), the saturating sums (R62, R63) and the
band of a mass (R71). -/

namespace Sys2Proof.Machine

/-! ### Rounding (R54, R68) -/

/-- A quotient rounded half up is a quotient of doubles: half the divisor is added before the division. -/
theorem divHalfUp_eq (n : Nat) {d : Nat} (hd : 0 < d) : divHalfUp n d = (2 * n + d) / (2 * d) := by
  have hn : d * (n / d) + n % d = n := Nat.div_add_mod n d
  have hlt : n % d < d := Nat.mod_lt n hd
  have hsplit : 2 * n + d = 2 * (n % d) + d + 2 * d * (n / d) := by linarith
  have hhalf : (2 * (n % d) + d) / (2 * d) = if d ≤ 2 * (n % d) then 1 else 0 := by
    split
    · exact Nat.div_eq_of_lt_le (by omega) (by omega)
    · exact Nat.div_eq_of_lt (by omega)
  rw [divHalfUp, hsplit, Nat.add_mul_div_left _ _ (by omega), hhalf]
  split <;> omega

/-! ### The fold plan (R60) -/

/-- A folded length rounded up is within a height when that many panels of the height hold the whole length. -/
theorem foldedLength_le_iff (length height : Nat) {p : Nat} (hp : 1 ≤ p) :
    foldedLength length p ≤ height ↔ length ≤ p * height := by
  rw [foldedLength, Nat.div_le_iff_le_mul_add_pred (by omega)]
  omega

/-- A panel count within the fold limit at which the folded sheets fit the envelope (R60). -/
def Stock.FoldsInto (k : Stock) (e : Envelope) (limit p : Nat) : Prop :=
  1 ≤ p ∧ p ≤ limit ∧ k.width ≤ e.width - e.clearance ∧ k.length ≤ p * (e.height - e.clearance)

section
variable {k : Stock} {e : Envelope} {limit p : Nat}

/-- Counted from 0, as the search runs: the `i`-th count tried is `i + 1`. -/
theorem Stock.foldsInto_succ_iff {i : Nat} (hw : k.width ≤ e.width - e.clearance) :
    k.FoldsInto e limit (i + 1) ↔ i < limit ∧ foldedLength k.length (i + 1) ≤ e.height - e.clearance := by
  rw [foldedLength_le_iff _ _ (Nat.le_add_left 1 i)]
  simp [Stock.FoldsInto, hw]

/-- The fold plan is the smallest panel count that fits (R60). -/
theorem foldPlan_eq_some_iff :
    foldPlan k e limit = some p ↔ k.FoldsInto e limit p ∧ ∀ q < p, ¬ k.FoldsInto e limit q := by
  by_cases hw : k.width ≤ e.width - e.clearance
  · rw [foldPlan, if_pos hw, List.find?_map, Option.map_eq_some_iff]
    constructor
    · rintro ⟨i, hi, rfl⟩
      obtain ⟨hfits, hmem, hleast⟩ := List.find?_range_eq_some.1 hi
      refine ⟨(Stock.foldsInto_succ_iff hw).2 ⟨List.mem_range.1 hmem, by simpa using hfits⟩, fun q hq hfit => ?_⟩
      obtain ⟨j, rfl⟩ := Nat.exists_eq_add_of_le' hfit.1
      have hnot := hleast j (by omega)
      simp [((Stock.foldsInto_succ_iff hw).1 hfit).2] at hnot
    · rintro ⟨hfit, hleast⟩
      obtain ⟨i, rfl⟩ := Nat.exists_eq_add_of_le' hfit.1
      obtain ⟨hi, hfits⟩ := (Stock.foldsInto_succ_iff hw).1 hfit
      refine ⟨i, List.find?_range_eq_some.2 ⟨by simpa using hfits, List.mem_range.2 hi, fun j hj => ?_⟩, rfl⟩
      have hnot := mt (Stock.foldsInto_succ_iff hw).2 (hleast (j + 1) (by omega))
      simpa using fun h => hnot ⟨by omega, h⟩
  · rw [foldPlan, if_neg hw]
    exact iff_of_false (by simp) fun ⟨⟨_, _, hwidth, _⟩, _⟩ => hw hwidth

/-- NO_FIT: no panel count fits (R60). -/
theorem foldPlan_eq_none_iff : foldPlan k e limit = none ↔ ∀ q, ¬ k.FoldsInto e limit q := by
  constructor
  · intro hnone q hq
    obtain ⟨p, hp⟩ := WellFounded.has_min Nat.lt_wfRel.wf {q | k.FoldsInto e limit q} ⟨q, hq⟩
    have hsome := foldPlan_eq_some_iff.2 ⟨hp.1, fun j hj hfit => hp.2 j hfit hj⟩
    simp [hnone] at hsome
  · intro hnot
    cases h : foldPlan k e limit with
    | none => rfl
    | some p => exact absurd (foldPlan_eq_some_iff.1 h).1 (hnot p)

end

/-! ### Saturation (R62, R63) -/

/-- A sum that saturates at a ceiling. -/
theorem min_ceiling_eq (sum ceiling : Nat) : min sum ceiling = if ceiling < sum then ceiling else sum := by
  split <;> omega

/-! ### The band of a mass (R71) -/

theorem bandFrom_cons_cons (k u v : Nat) (vs : List Nat) (m : Nat) :
    bandFrom k (u :: v :: vs) m = if m ≤ u then k else bandFrom (k + 1) (v :: vs) m := rfl

/-- The search of a band table: it stops at the first limit at or above the mass, and at the last limit in any case. -/
theorem bandFrom_stops (bands : List Nat) (k m : Nat) (hne : bands ≠ []) :
    ∃ i < bands.length, bandFrom k bands m = k + i ∧ (∀ j < i, ∃ u, bands[j]? = some u ∧ u < m)
      ∧ ((∃ u, bands[i]? = some u ∧ m ≤ u) ∨ (i + 1 = bands.length ∧ ∀ u ∈ bands, u < m)) := by
  induction bands generalizing k with
  | nil => exact absurd rfl hne
  | cons u us ih =>
    cases us with
    | nil =>
      refine ⟨0, by simp, rfl, by simp, ?_⟩
      rcases Nat.lt_or_ge u m with h | h
      · exact .inr ⟨rfl, by simpa using h⟩
      · exact .inl ⟨u, rfl, h⟩
    | cons v vs =>
      by_cases hu : m ≤ u
      · exact ⟨0, by simp, (bandFrom_cons_cons k u v vs m).trans (if_pos hu), by simp, .inl ⟨u, rfl, hu⟩⟩
      · obtain ⟨i, hi, hband, hbelow, hend⟩ := ih (k + 1) (by simp)
        refine ⟨i + 1, by simpa using hi, ?_, fun j hj => ?_, ?_⟩
        · rw [bandFrom_cons_cons, if_neg hu, hband, Nat.add_right_comm, Nat.add_assoc]
        · cases j with
          | zero => exact ⟨u, rfl, Nat.lt_of_not_le hu⟩
          | succ j => exact hbelow j (by omega)
        · rcases hend with hfound | ⟨hlast, hall⟩
          · exact .inl hfound
          · exact .inr ⟨by simpa using hlast, List.forall_mem_cons.2 ⟨Nat.lt_of_not_le hu, hall⟩⟩

end Sys2Proof.Machine

open Sys2Proof Sys2Proof.Machine

/-- Settles O54: the search for the panels and the search for the band each stop at the first that fits, and a sum that
saturates is a minimum. -/
theorem makeUpArithmetic : Obligations.MakeUpArithmetic := by
  refine ⟨fun k e limit p => ⟨foldPlan_eq_some_iff, foldPlan_eq_none_iff⟩, fun n s c p inserts e =>
    ⟨min_ceiling_eq _ _, min_ceiling_eq _ _⟩, fun bands m hne => ?_⟩
  obtain ⟨i, hi, hband, hbelow, hend⟩ := bandFrom_stops bands 1 m hne
  have hof : bandOf bands m = i + 1 := hband.trans (Nat.add_comm 1 i)
  rw [hof, Nat.add_sub_cancel]
  exact ⟨by omega, hi, fun j hj => hbelow j (by omega), hend⟩
end

section
/-! A stage event that is taken (R102, R103): the entry it moves, and what it does to the queue and to the record of the
piece. -/

namespace Sys2Proof.Machine

section
variable {s : State} {pre post : List TrackEntry} {e : TrackEntry} {r : Piece} {st : Stage}

/-- The oldest entry that has not reached a stage, and stands at the stage before it, is the one the event moves
(R103). -/
theorem State.movable_of_split (h : s.track.entries = pre ++ e :: post) (hpre : ∀ x ∈ pre, st.rank ≤ x.stage.rank)
    (hlt : e.stage.rank < st.rank) (hprev : e.stage = s.precedingStage st) : s.movable st e.tag = some e := by
  have hexpected : s.expectedEntry st = some e := by
    refine List.find?_eq_some_iff_append.2 ⟨by simpa [Stage.reached] using hlt, pre, post, h, fun x hx => ?_⟩
    simpa [Stage.reached] using hpre x hx
  simp [State.movable, hexpected, ← hprev]

/-- The record of a piece and the stage of its entry change, and nothing else. -/
theorem State.setStage_onPiece_effects (tag : Nat) (st : Stage) (id : PieceId) (f : Piece → Piece) (s : State) :
    Effects [] [] 0 [.entries, .pieces] s ((s.setStage tag st).onPiece id f) :=
  ((State.onEntry_effects tag _).mono (by simp)).before
    (Effects.of_changesOnly ((State.onPiece_changes _ id f).mono (by simp)) (by simp) (by simp))

/-- In a table of distinct records, the record of a piece is the only one a change of it reaches. -/
theorem State.map_record {f : Piece → Piece} (hr : s.piece? e.piece = some r) (hd : PiecesDistinct s) :
    s.run.pieces.map (fun x => if x.id = e.piece then f x else x)
      = s.run.pieces.map fun x => if x.id = e.piece then f r else x := by
  refine List.map_congr_left fun x hx => ?_
  split
  · next hid =>
    have hxr : s.piece? x.id = some x := State.piece?_of_mem hd hx
    rw [hid, hr] at hxr
    cases hxr
    rfl
  · rfl

/-- A request of the track port that moves an entry to a stage and changes the record of its piece. -/
theorem exec_stage_report {k : RequestKind} {pl : List Byte} {f : Piece → Piece} {answer : List Value}
    (hdue : Due k .track pl s) (hp : k.permitted .track = true) (hl : k.lengthAllowed pl.length = true)
    (hr : s.piece? e.piece = some r) (hd : PiecesDistinct s)
    (hb : k.body .track pl (s.dropFrame .track)
      = (((s.dropFrame .track).setStage e.tag st).onPiece e.piece f, done answer)) :
    ∃ t, exec (k.command .track) s = .next t ∧ Answered .track k .done answer s t
      ∧ t.track.entries = s.track.entries.map (fun x => if x.tag = e.tag then { x with stage := st } else x)
      ∧ t.run.pieces = s.run.pieces.map (fun x => if x.id = e.piece then f r else x)
      ∧ Happened [] [] 0 (requestBlocks .track ++ [.entries, .pieces]) s t := by
  obtain ⟨hexec, hans, hhap⟩ := exec_due_effects hdue hp hl hb (State.setStage_onPiece_effects _ _ _ _ _) (by decide)
  refine ⟨_, hexec, hans, ?_, ?_, hhap⟩
  · simp [State.setStage, State.onEntry]
  · rw [← State.map_record hr hd]
    simp [State.onPiece_pieces]

end

/-! ### Causes added (R8) -/

/-- A fault set after a cause is added to it: a cause it holds is not added twice (R8). -/
def withCause (c : Cause) (cs : List Cause) : List Cause := if c ∈ cs then cs else cs ++ [c]

theorem Piece.addCause_live (c : Cause) {r : Piece} (h : r.state ≠ .finished) :
    r.addCause c = { r with faults := withCause c r.faults } := Piece.addCause_eq h

/-- A cause added on a condition. -/
theorem Piece.addCause_when (c : Cause) (p : Prop) [Decidable p] {r : Piece} (h : r.state ≠ .finished) :
    (if p then r.addCause c else r) = { r with faults := if p then withCause c r.faults else r.faults } := by
  rw [Piece.addCause_live c h]
  split <;> rfl

end Sys2Proof.Machine
end

section
/-! ENVELOPED: the close-out of the pull list and the recomputation of the make-up (R66, R96, R103, R105). -/

namespace Sys2Proof.Machine

/-! ### The close-out (R96) -/

section
variable (r : Piece)

theorem Piece.delivered_iff (code : Nat) : r.delivered code = true
    ↔ ∃ p ∈ r.pulls, p.code = code ∧ (p.result = .taken ∨ p.result = .double) := by
  simp [Piece.delivered]

/-- A PENDING entry that becomes PASSED has delivered no more than before. -/
@[simp] theorem Piece.passPending_delivered (code : Nat) : r.passPending.delivered code = r.delivered code := by
  simp only [Piece.delivered, Piece.passPending, List.any_map]
  congr 1
  funext p
  obtain ⟨k, c, result, origin⟩ := p
  cases result <;> rfl

@[simp] theorem Piece.passPending_missingCodes : r.passPending.missingCodes = r.missingCodes := by
  simp only [Piece.missingCodes, Piece.passPending_delivered]
  rfl

@[simp] theorem Piece.passPending_newlySkipped : r.passPending.newlySkipped = r.newlySkipped := by
  simp only [Piece.newlySkipped, Piece.passPending_delivered]
  rfl

/-- The fault set after close-out (R96, step 2). -/
def Piece.closedFaults : List Cause :=
  if r.missingCodes ≠ [] then withCause .missingInsert r.faults else r.faults

/-- The record after close-out (R96). -/
theorem Piece.closeOut_eq (h : r.state ≠ .finished) : r.closeOut =
    { r with
      pulls := r.passPending.pulls, faults := r.closedFaults, skipped := r.skipped ++ r.newlySkipped } := by
  have hlive : r.passPending.state ≠ .finished := h
  simp only [Piece.closeOut, Piece.passPending_missingCodes, Piece.passPending_newlySkipped,
    Piece.addCause_live _ hlive, Piece.closedFaults]
  cases r.missingCodes <;> rfl

end

/-! ### The recomputation (R66) -/

/-- The fault set after the recomputation of a make-up of mass `x.1` and thickness `x.2` (R66). -/
def State.recomputedFaults (s : State) (x : Nat × Nat) (cs : List Cause) : List Cause :=
  let heavy := if s.profile.limits.massCeiling < x.1 then withCause .overMass cs else cs
  if s.profile.envelope.throat < x.2 then withCause .overThick heavy else heavy

theorem State.recompute_eq (s : State) {r : Piece} (h : r.state ≠ .finished) : s.recompute r =
    { r with
      expected := some (s.expectedOver r)
      band := some (bandOf s.profile.bands (s.expectedOver r).1)
      faults := s.recomputedFaults (s.expectedOver r) r.faults } := by
  have hmass := Piece.addCause_when .overMass (s.profile.limits.massCeiling < (s.expectedOver r).1)
    (r := { r with expected := some (s.expectedOver r) }) h
  rw [State.recompute, hmass, Piece.addCause_when _ _ (by exact h)]
  rfl

/-- The record after a taken ENVELOPED (R66, R96). -/
theorem State.envelopePiece_eq (s : State) {r : Piece} (h : r.state ≠ .finished) :
    let x := s.expectedOver r.passPending
    s.envelopePiece r =
      { r with
        pulls := r.passPending.pulls, expected := some x, band := some (bandOf s.profile.bands x.1)
        faults := s.recomputedFaults x r.closedFaults, skipped := r.skipped ++ r.newlySkipped } := by
  rw [State.envelopePiece, r.closeOut_eq h, State.recompute_eq s (by exact h)]
  rfl

/-- The answer of a taken ENVELOPED (R66, R96, R105). -/
theorem State.envelopeAnswer_eq (s : State) {r : Piece} (h : r.state ≠ .finished) :
    let x := s.expectedOver r.passPending
    s.envelopeAnswer r = byteListV r.pendingFeeders ++ byteListV r.missingCodes ++ byteListV r.newlySkipped
      ++ [triV x.1, wordV x.2, byteV (bandOf s.profile.bands x.1),
          faultsV ((s.recomputedFaults x r.closedFaults).filter fun c => !r.closedFaults.contains c)] := by
  simp only [State.envelopeAnswer, Piece.passPending_missingCodes, Piece.passPending_newlySkipped, newCauses,
    s.envelopePiece_eq h, r.closeOut_eq h]
  rfl

/-- The inserts counted after close-out: the entry of a feeder counts as often as it has delivered (R61, R96). -/
theorem Profile.pulledValues_passPending (f : Profile) (r : Piece) : f.pulledValues r.passPending.pulls
    = r.pulls.flatMap fun p => List.replicate (if p.result = .double then 2 else if p.result = .taken then 1 else 0)
        (f.insertValues p.feeder) := by
  simp only [Profile.pulledValues, Piece.passPending, List.flatMap_map]
  refine congrArg (List.flatMap · r.pulls) (funext fun p => ?_)
  cases hp : p.result <;> simp [hp]

/-! ### The request -/

/-- ENVELOPED for the entry it has to name (R103, R105). -/
theorem envelopedBody_taken {s : State} {e : TrackEntry} {r : Piece} (ht : e.tag ≤ 63)
    (hm : s.movable .enveloped e.tag = some e) (hr : s.piece? e.piece = some r) :
    envelopedBody (toBytes 1 e.tag) s
      = ((s.setStage e.tag .enveloped).onPiece e.piece s.envelopePiece, done (s.envelopeAnswer r)) := by
  have htag : byteAt (toBytes 1 e.tag) 0 = e.tag := (byteAt_toBytes_one _).trans (Nat.mod_eq_of_lt (by omega))
  simp only [envelopedBody, htag, if_neg (Nat.not_lt.2 ht), hm, State.envelopeReport, hr]

end Sys2Proof.Machine

open Sys2Proof Sys2Proof.Machine

/-- Settles O39: the event moves its entry, and the record is closed out and then recomputed over what was delivered. -/
theorem envelopedClosesOutAndRecomputes : Obligations.EnvelopedClosesOutAndRecomputes := by
  intro pre post e r s htag hdue hsplit hpre hstage hr hstate hd pulls delivered counted mass thickness passed missing
    skips add closed faults listed
  have hlive : r.state ≠ .finished := by simp [hstate]
  have hdelivered (code : Nat) : r.delivered code = true ↔ delivered code := r.delivered_iff code
  have hmissing : r.missingCodes = missing :=
    congrArg (List.map _) (List.filter_congr fun i _ => by simp [← hdelivered])
  have hskips : r.newlySkipped = skips :=
    congrArg (List.map _) (List.filter_congr fun i _ => by simp [← hdelivered, Bool.and_assoc])
  have hpulls : r.passPending.pulls = pulls := List.map_congr_left fun p _ => by simp
  have hpassed : r.pendingFeeders = passed := congrArg (List.map _) (List.filter_congr fun p _ => beq_eq_decide _ _)
  have hcounted : s.profile.pulledValues r.passPending.pulls = counted := by
    rw [Profile.pulledValues_passPending]
    refine congrArg (List.flatMap · r.pulls) (funext fun p => ?_)
    obtain ⟨k, code, result, origin⟩ := p
    cases result <;> rfl
  have hexpected : s.expectedOver r.passPending = (mass, thickness) := by
    rw [State.expectedOver, hcounted]
    rfl
  have hadd (c : Cause) (b : Bool) (q : List Cause) : (if b = true then withCause c q else q) = add c b q := by
    by_cases hc : c ∈ q <;> cases b <;> simp [add, withCause, hc]
  have hclosed : r.closedFaults = closed := by
    rw [Piece.closedFaults, hmissing, show closed = _ from (hadd .missingInsert _ _).symm]
    cases missing <;> rfl
  have hfaults : s.recomputedFaults (mass, thickness) closed = faults := by
    simp only [State.recomputedFaults, faults, ← hadd, decide_eq_true_eq]
  have hm : (s.dropFrame .track).movable .enveloped e.tag = some e :=
    State.movable_of_split hsplit hpre (by simp [hstage, Stage.rank]) hstage
  obtain ⟨t, hexec, hans, hentries, hpieces, hhap⟩ := exec_stage_report (k := .enveloped) hdue rfl rfl hr hd
    (envelopedBody_taken htag hm hr)
  refine ⟨t, hexec, ?_, hentries, ?_, hhap⟩
  · have hanswer : (s.dropFrame .track).envelopeAnswer r = _ := s.envelopeAnswer_eq hlive
    rw [hanswer, hpassed, hmissing, hskips, hexpected, hclosed, hfaults] at hans
    exact hans
  · have hpiece : (s.dropFrame .track).envelopePiece r = _ := s.envelopePiece_eq hlive
    rw [hpiece, hpulls, hskips, hexpected, hclosed, hfaults] at hpieces
    exact hpieces
end

section
/-! WEIGHED: a scale report, and its judgement against the expected mass (R67 to R70, R103, R106). -/

namespace Sys2Proof.Machine

/-! ### The judgement (R68 to R70) -/

section
variable {s : State} {r : Piece} {m x : Nat}

theorem weighTolerance_eq (l : Limits) (x : Nat) :
    weighTolerance l x = max l.toleranceFloor ((2 * x * l.tolerancePermille + 1000) / 2000) := by
  rw [weighTolerance, divHalfUp_eq _ (by decide), Nat.mul_assoc]

/-- A mass agrees with an expected mass within a tolerance on either side (R69). -/
theorem massDifference_le_iff (m x tolerance : Nat) :
    massDifference m x ≤ tolerance ↔ m ≤ x + tolerance ∧ x ≤ m + tolerance := by
  unfold massDifference
  omega

/-- The record after a mass has been measured, with the fault set its agreement leaves (R69, R71). -/
def State.weighedRecord (s : State) (m : Nat) (r : Piece) (cs : List Cause) : Piece :=
  { r with
    measured := some m, band := some (bandOf s.profile.bands m)
    faults := if s.profile.limits.massCeiling < m then withCause .overMass cs else cs }

theorem ScaleReport.judged_mass (h : m ≤ massSaturation) : (ScaleReport.mass m).judged = .mass m :=
  if_neg (Nat.not_lt.2 h)

theorem ScaleReport.judged_mass_over (h : massSaturation < m) : (ScaleReport.mass m).judged = .overrange := if_pos h

/-- A mass within the tolerance agrees (R69). -/
theorem State.weighPiece_agreed (hm : m ≤ massSaturation) (hr : r.state ≠ .finished)
    (h : massDifference m (r.expected.elim 0 Prod.fst) ≤ weighTolerance s.profile.limits (r.expected.elim 0 Prod.fst)) :
    s.weighPiece (.mass m) r = (s.weighedRecord m r r.faults, .agreed) := by
  simp only [State.weighPiece, ScaleReport.judged_mass hm, if_pos h]
  rw [Piece.addCause_when _ _ (by exact hr)]
  rfl

/-- A mass beyond the tolerance adds WEIGHT_MISMATCH (R69). -/
theorem State.weighPiece_mismatch (hm : m ≤ massSaturation) (hr : r.state ≠ .finished)
    (h : ¬ massDifference m (r.expected.elim 0 Prod.fst)
      ≤ weighTolerance s.profile.limits (r.expected.elim 0 Prod.fst)) :
    s.weighPiece (.mass m) r = (s.weighedRecord m r (withCause .weightMismatch r.faults), .mismatch) := by
  have hlive := Piece.addCause_live .weightMismatch (r := { r with measured := some m }) hr
  simp only [State.weighPiece, ScaleReport.judged_mass hm, if_neg h, hlive]
  rw [Piece.addCause_when _ _ (by exact hr)]
  rfl

/-- A report judged as OVERRANGE adds WEIGHT_MISMATCH (R67, R70). -/
theorem State.weighPiece_overrange {report : ScaleReport} (hreport : report.judged = .overrange)
    (hr : r.state ≠ .finished) :
    s.weighPiece report r = ({ r with faults := withCause .weightMismatch r.faults }, .mismatch) := by
  simp only [State.weighPiece, hreport, Piece.addCause_live _ hr]

/-- NO_WEIGHT adds UNWEIGHED when weighing is required (R70). -/
theorem State.weighPiece_unweighed (h : s.profile.limits.weighRequired = true) (hr : r.state ≠ .finished) :
    s.weighPiece .noWeight r = ({ r with faults := withCause .unweighed r.faults }, .unweighed) := by
  simp only [State.weighPiece, ScaleReport.judged, if_pos h, Piece.addCause_live _ hr]

/-- NO_WEIGHT leaves the expected mass to be used when weighing is not required (R70). -/
theorem State.weighPiece_expectedUsed (h : s.profile.limits.weighRequired = false) :
    s.weighPiece .noWeight r = (r, .expectedUsed) := by
  simp [State.weighPiece, ScaleReport.judged, h]

end

/-! ### The request -/

section
variable {tag kind m : Nat} {report : ScaleReport} {s : State} {e : TrackEntry} {r : Piece}

/-- The payload of WEIGHED. -/
def weighedBytes (tag kind m : Nat) : List Byte := toBytes 1 tag ++ toBytes 1 kind ++ toBytes 3 m

theorem weighedBytes_fields (m : Nat) (ht : tag ≤ 63) (hk : kind ≤ 2) :
    byteAt (weighedBytes tag kind m) 0 = tag ∧ byteAt (weighedBytes tag kind m) 1 = kind
      ∧ fieldAt (weighedBytes tag kind m) 2 3 = m % 16777216 :=
  ⟨(byteAt_toBytes_one _).trans (Nat.mod_eq_of_lt (by omega)),
    (byteAt_toBytes_one _).trans (Nat.mod_eq_of_lt (by omega)), fieldAt_toBytes 3 _⟩

/-- WEIGHED for the entry it has to name, with the scale in line (R103, R106). -/
theorem weighedBody_taken {pl : List Byte} (htag : byteAt pl 0 = e.tag) (ht : e.tag ≤ 63)
    (hreport : scaleReportOf pl = some report) (hscale : s.profile.limits.scaleInLine = true)
    (hmove : s.movable .weighed e.tag = some e) (hr : s.piece? e.piece = some r) :
    weighedBody pl s = ((s.setStage e.tag .weighed).onPiece e.piece fun x => (s.weighPiece report x).1,
      done (s.weighAnswer report r)) := by
  simp [weighedBody, hreport, htag, Nat.not_lt.2 ht, hscale, hmove, State.weighReport, hr]

/-- WEIGHED is refused with the scale not in line, before the order is judged (R106). -/
theorem weighedBody_wrongState {pl : List Byte} (ht : byteAt pl 0 ≤ 63) (hreport : scaleReportOf pl = some report)
    (hscale : s.profile.limits.scaleInLine = false) : weighedBody pl s = (s, refuse .wrongState) := by
  simp [weighedBody, hreport, Nat.not_lt.2 ht, hscale]

/-- A report kind of 0 to 2 spells a scale report (R203). -/
theorem scaleReportOf_eq {pl : List Byte} :
    (byteAt pl 1 = 0 → scaleReportOf pl = some (.mass (fieldAt pl 2 3)))
      ∧ (byteAt pl 1 = 1 → scaleReportOf pl = some .overrange)
      ∧ (byteAt pl 1 = 2 → scaleReportOf pl = some .noWeight) := by
  refine ⟨fun h => ?_, fun h => ?_, fun h => ?_⟩ <;> simp only [scaleReportOf, h]

end

end Sys2Proof.Machine

open Sys2Proof Sys2Proof.Machine

/-- Settles O40: the event moves its entry, and the report is judged by its kind and by the difference of the masses. -/
theorem weighedIsJudgedWithTheScaleInLine : Obligations.WeighedIsJudgedWithTheScaleInLine := by
  refine ⟨fun kind m pre post e r x th s hkind hm htag hdue hscale hsplit hpre hstage hr hstate hd hexpected => ?_,
    fun tag kind m s htag hkind hscale hdue => ?_⟩
  · intro l tolerance agrees add result
    have hlive : r.state ≠ .finished := by simp [hstate]
    obtain ⟨etag, ekind, emass⟩ := weighedBytes_fields m htag hkind
    rw [Nat.mod_eq_of_lt (by omega)] at emass
    obtain ⟨hzero, hone, htwo⟩ := scaleReportOf_eq (pl := weighedBytes e.tag kind m)
    have hmove : (s.dropFrame .track).movable .weighed e.tag = some e :=
      State.movable_of_split hsplit hpre (by simp [hstage, Stage.rank]) hstage
    have hmass (h : kind = 0) : scaleReportOf (weighedBytes e.tag kind m) = some (.mass m) := by
      rw [hzero (ekind.trans h), emass]
    have hx : r.expected.elim 0 Prod.fst = x := by rw [hexpected]; rfl
    have htolerance : weighTolerance l x = tolerance := weighTolerance_eq l x
    have hagrees : massDifference m (r.expected.elim 0 Prod.fst)
        ≤ weighTolerance s.profile.limits (r.expected.elim 0 Prod.fst) ↔ agrees := by
      rw [hx, htolerance]
      exact massDifference_le_iff m x tolerance
    have judged {report : ScaleReport} {r' : Piece} {w : WeighResult}
        (hreport : scaleReportOf (weighedBytes e.tag kind m) = some report)
        (hjudge : s.weighPiece report r = (r', w)) : result r' w.code := by
      obtain ⟨t, hexec, hans, hentries, hpieces, hhap⟩ := exec_stage_report (k := .weighed) hdue rfl rfl hr hd
        (weighedBody_taken etag htag hreport hscale hmove hr)
      have hdropped : (s.dropFrame .track).weighPiece report r = (r', w) := hjudge
      simp only [hdropped] at hpieces
      have hanswer : (s.dropFrame .track).weighAnswer report r
          = [.code .weighResult w.code, .code .tolerance tolerance, triV r'.finalMass, byteV (r'.band.getD 0),
            faultsV (r'.faults.filter fun c => !r.faults.contains c)] := by
        rw [State.weighAnswer, hdropped, hx, ← htolerance]
        rfl
      exact ⟨t, hexec, hentries, hpieces, hanswer ▸ hans, hhap⟩
    refine ⟨fun h hle ha => ?_, fun h hle ha => ?_, fun h => ?_, fun h hw => ?_, fun h hw => ?_⟩
    · exact judged (hmass h) (State.weighPiece_agreed hle hlive (hagrees.2 ha))
    · exact judged (hmass h) (State.weighPiece_mismatch hle hlive (mt hagrees.1 ha))
    · rcases h with ⟨h, hlt⟩ | h
      · exact judged (hmass h) (State.weighPiece_overrange (ScaleReport.judged_mass_over hlt) hlive)
      · exact judged (hone (ekind.trans h)) (State.weighPiece_overrange rfl hlive)
    · exact judged (htwo (ekind.trans h)) (State.weighPiece_unweighed hw hlive)
    · exact judged (htwo (ekind.trans h)) (State.weighPiece_expectedUsed hw)
  · obtain ⟨etag, ekind, -⟩ := weighedBytes_fields m htag hkind
    obtain ⟨report, hreport⟩ : ∃ report, scaleReportOf (weighedBytes tag kind m) = some report := by
      obtain ⟨hzero, hone, htwo⟩ := scaleReportOf_eq (pl := weighedBytes tag kind m)
      match kind, hkind with
      | 0, _ => exact ⟨_, hzero ekind⟩
      | 1, _ => exact ⟨_, hone ekind⟩
      | 2, _ => exact ⟨_, htwo ekind⟩
    exact exec_due_unchanged (k := .weighed) (r := refuse .wrongState) hdue rfl rfl
      (weighedBody_wrongState (etag.le.trans htag) hreport hscale)
end

section
/-! SET_STOCK, SET_ENVELOPE, SET_BANDS and SET_SORT: the records in their payloads, and what they replace (R54 to R56,
R59, R119). -/

namespace Sys2Proof.Machine

/-! ### The stock record in its payload (R54, R203) -/

theorem Stock.inRange_iff (k : Stock) : k.inRange = true ↔
    400 ≤ k.grammage ∧ k.grammage ≤ 3000 ∧ 1000 ≤ k.width ∧ k.width ≤ 4500 ∧ 1000 ≤ k.length ∧ k.length ≤ 4500
      ∧ 50 ≤ k.caliper ∧ k.caliper ≤ 500 := by
  simp [Stock.inRange, and_assoc]

@[simp] theorem Stock.bytes_length (k : Stock) (id : Nat) : (k.bytes id).length = 10 := by simp [Stock.bytes]

/-- A stock record in range is read back from its payload (R55). -/
theorem stockOf_bytes {k : Stock} {id : Nat} (hid : id ≤ 3) (h : k.inRange = true) :
    stockOf (k.bytes id) = some (id, k) := by
  have hr := k.inRange_iff.1 h
  have eid : byteAt (k.bytes id) 0 = id := (byteAt_toBytes_one _).trans (Nat.mod_eq_of_lt (by omega))
  have econf : yesNoAt (k.bytes id) 1 = some k.configured := yesNoAt_toBytes k.configured
  have egram : fieldAt (k.bytes id) 2 2 = k.grammage := (fieldAt_toBytes 2 _).trans (Nat.mod_eq_of_lt (by omega))
  have ewidth : fieldAt (k.bytes id) 4 2 = k.width := (fieldAt_toBytes 2 _).trans (Nat.mod_eq_of_lt (by omega))
  have elength : fieldAt (k.bytes id) 6 2 = k.length := (fieldAt_toBytes 2 _).trans (Nat.mod_eq_of_lt (by omega))
  have ecaliper : fieldAt (k.bytes id) 8 2 = k.caliper := (fieldAt_toBytes 2 _).trans (Nat.mod_eq_of_lt (by omega))
  simp only [stockOf, econf, eid, egram, ewidth, elength, ecaliper]
  exact if_pos ⟨hid, hr⟩

/-- A payload that spells a stock record in range is the payload of that record (R55). -/
theorem stockOf_eq_some {pl : List Byte} {id : Nat} {k : Stock} (hlen : pl.length = 10)
    (h : stockOf pl = some (id, k)) : id ≤ 3 ∧ k.inRange = true ∧ pl = k.bytes id := by
  unfold stockOf at h
  split at h
  · cases h
  · next configured hconf =>
    dsimp only at h
    split_ifs at h with hr
    cases h
    refine ⟨hr.1, (Stock.inRange_iff _).2 hr.2, ?_⟩
    simp only [Stock.bytes, ← yesNoAt_eq_some hconf]
    match pl, hlen with
    | [b0, b1, b2, b3, b4, b5, b6, b7, b8, b9], _ =>
      have hword (x y : Byte) : toBytes 2 (beNat [x, y]) = [x, y] := toBytes_beNat [x, y]
      simp [byteAt, fieldAt, toBytes_toNat, hword]

/-! ### The envelope record in its payload (R56, R203) -/

theorem Envelope.inRange_iff (e : Envelope) : e.inRange = true ↔
    1000 ≤ e.width ∧ e.width ≤ 4000 ∧ 800 ≤ e.height ∧ e.height ≤ 3500 ∧ e.clearance ≤ 200 ∧ 500 ≤ e.throat
      ∧ e.throat ≤ 25000 ∧ e.mass ≤ 100000 ∧ 50 ≤ e.caliper ∧ e.caliper ≤ 1000 := by
  simp [Envelope.inRange, and_assoc]

@[simp] theorem Envelope.bytes_length (e : Envelope) : e.bytes.length = 12 := by simp [Envelope.bytes]

theorem envelopeOf_bytes {e : Envelope} (h : e.inRange = true) : envelopeOf e.bytes = some e := by
  have hr := e.inRange_iff.1 h
  have ewidth : fieldAt e.bytes 0 2 = e.width := (fieldAt_toBytes 2 _).trans (Nat.mod_eq_of_lt (by omega))
  have eheight : fieldAt e.bytes 2 2 = e.height := (fieldAt_toBytes 2 _).trans (Nat.mod_eq_of_lt (by omega))
  have eclear : byteAt e.bytes 4 = e.clearance := (byteAt_toBytes_one _).trans (Nat.mod_eq_of_lt (by omega))
  have ethroat : fieldAt e.bytes 5 2 = e.throat := (fieldAt_toBytes 2 _).trans (Nat.mod_eq_of_lt (by omega))
  have emass : fieldAt e.bytes 7 3 = e.mass := (fieldAt_toBytes 3 _).trans (Nat.mod_eq_of_lt (by omega))
  have ecaliper : fieldAt e.bytes 10 2 = e.caliper := (fieldAt_toBytes 2 _).trans (Nat.mod_eq_of_lt (by omega))
  simp only [envelopeOf, ewidth, eheight, eclear, ethroat, emass, ecaliper]
  exact if_pos hr

theorem envelopeOf_eq_some {pl : List Byte} {e : Envelope} (hlen : pl.length = 12) (h : envelopeOf pl = some e) :
    e.inRange = true ∧ pl = e.bytes := by
  unfold envelopeOf at h
  dsimp only at h
  split_ifs at h with hr
  cases h
  refine ⟨(Envelope.inRange_iff _).2 hr, ?_⟩
  match pl, hlen with
  | [b0, b1, b2, b3, b4, b5, b6, b7, b8, b9, b10, b11], _ =>
    have hword (x y : Byte) : toBytes 2 (beNat [x, y]) = [x, y] := toBytes_beNat [x, y]
    have hmass : toBytes 3 (beNat [b7, b8, b9]) = [b7, b8, b9] := toBytes_beNat [b7, b8, b9]
    simp [Envelope.bytes, byteAt, fieldAt, toBytes_toNat, hword, hmass]

/-! ### The sort settings in their payload (R119, R203) -/

theorem SortSettings.inRange_iff (x : SortSettings) : x.inRange = true ↔
    2 ≤ x.fineLength ∧ x.fineLength ≤ 8 ∧ 1 ≤ x.areaLength ∧ x.areaLength < x.fineLength ∧ 1 ≤ x.fineMinimum
      ∧ x.fineMinimum ≤ 1000 ∧ 1 ≤ x.areaMinimum ∧ x.areaMinimum ≤ 1000 ∧ 1 ≤ x.trayPieceLimit
      ∧ x.trayPieceLimit ≤ 1000 ∧ 1000000 ≤ x.trayMassLimit ∧ x.trayMassLimit ≤ 30000000 := by
  simp [SortSettings.inRange, and_assoc]

theorem SortSettings.bytes_eq (x : SortSettings) : x.bytes = toBytes 1 x.fineLength ++ (toBytes 1 x.areaLength
    ++ (toBytes 2 x.fineMinimum ++ (toBytes 2 x.areaMinimum ++ (toBytes 2 x.trayPieceLimit
    ++ toBytes 4 x.trayMassLimit)))) := by
  simp [SortSettings.bytes, answerBytes, SortSettings.values, byteV, wordV, quadV, Value.bytes]

@[simp] theorem SortSettings.bytes_length (x : SortSettings) : x.bytes.length = 12 := by simp [SortSettings.bytes_eq]

theorem sortSettingsOf_bytes {x : SortSettings} (h : x.inRange = true) : sortSettingsOf x.bytes = x := by
  have hr := x.inRange_iff.1 h
  have efine : byteAt x.bytes 0 = x.fineLength := (byteAt_toBytes_one _).trans (Nat.mod_eq_of_lt (by omega))
  have earea : byteAt x.bytes 1 = x.areaLength := (byteAt_toBytes_one _).trans (Nat.mod_eq_of_lt (by omega))
  have efmin : fieldAt x.bytes 2 2 = x.fineMinimum := (fieldAt_toBytes 2 _).trans (Nat.mod_eq_of_lt (by omega))
  have eamin : fieldAt x.bytes 4 2 = x.areaMinimum := (fieldAt_toBytes 2 _).trans (Nat.mod_eq_of_lt (by omega))
  have epiece : fieldAt x.bytes 6 2 = x.trayPieceLimit := (fieldAt_toBytes 2 _).trans (Nat.mod_eq_of_lt (by omega))
  have emass : fieldAt x.bytes 8 4 = x.trayMassLimit := (fieldAt_toBytes 4 _).trans (Nat.mod_eq_of_lt (by omega))
  simp only [sortSettingsOf, efine, earea, efmin, eamin, epiece, emass]

/-- Every payload of the length of SET_SORT is the payload of the settings it spells, in range or not. -/
theorem bytes_sortSettingsOf {pl : List Byte} (hlen : pl.length = 12) : (sortSettingsOf pl).bytes = pl := by
  match pl, hlen with
  | [b0, b1, b2, b3, b4, b5, b6, b7, b8, b9, b10, b11], _ =>
    have hword (x y : Byte) : toBytes 2 (beNat [x, y]) = [x, y] := toBytes_beNat [x, y]
    have hmass : toBytes 4 (beNat [b8, b9, b10, b11]) = [b8, b9, b10, b11] := toBytes_beNat [b8, b9, b10, b11]
    simp [SortSettings.bytes_eq, sortSettingsOf, byteAt, fieldAt, toBytes_toNat, hword, hmass]

/-! ### The band table in its payload (R59, R203) -/

theorem bandsInRange_iff (us : List Nat) : bandsInRange us = true ↔
    1 ≤ us.length ∧ us.length ≤ 8 ∧ (us.all fun u => 1 ≤ u && u ≤ 1048575) = true ∧ strictlyRising us = true := by
  simp only [bandsInRange, Bool.and_eq_true, decide_eq_true_eq, and_assoc]

theorem bandsBytes_length (us : List Nat) : (bandsBytes us).length = 1 + 3 * us.length := by
  simp [bandsBytes, List.length_flatMap, Nat.mul_comm]

/-- The `n` fields of one width that stand in a payload from byte `i` on. -/
def fieldsAt (pl : List Byte) (i width n : Nat) : List Nat :=
  (List.range n).map fun j => fieldAt pl (i + width * j) width

/-- Bytes in number a multiple of a width are the bytes of their fields. -/
theorem flatMap_toBytes_fieldsAt (width n : Nat) {bs : List Byte} (h : bs.length = width * n) :
    (fieldsAt bs 0 width n).flatMap (toBytes width) = bs := by
  induction n generalizing bs with
  | zero => simpa [fieldsAt, eq_comm] using List.length_eq_zero_iff.1 h
  | succ n ih =>
    have hlen : bs.length = width * n + width := h
    have hhead : toBytes width (fieldAt bs 0 width) = bs.take width := by
      simpa [fieldAt, hlen] using toBytes_beNat (bs.take width)
    have htail : (List.range n).map (fun j => fieldAt bs (width * (j + 1)) width)
        = fieldsAt (bs.drop width) 0 width n := by
      refine List.map_congr_left fun j _ => ?_
      rw [fieldAt, fieldAt, List.drop_drop, Nat.zero_add, Nat.mul_succ, Nat.add_comm]
    calc (fieldsAt bs 0 width (n + 1)).flatMap (toBytes width)
        = toBytes width (fieldAt bs 0 width)
            ++ ((List.range n).map fun j => fieldAt bs (width * (j + 1)) width).flatMap (toBytes width) := by
          simp [fieldsAt, List.range_succ_eq_map, Function.comp_def]
      _ = bs.take width ++ bs.drop width := by rw [hhead, htail, ih (by simp [hlen])]
      _ = bs := List.take_append_drop _ _

/-- A band table in range is read back from its payload (R59). -/
theorem bandsOf_bytes {us : List Nat} (h : bandsInRange us = true) : bandsOf (bandsBytes us) = some us := by
  obtain ⟨hone, height, hall, hrise⟩ := (bandsInRange_iff us).1 h
  have ecount : byteAt (bandsBytes us) 0 = us.length := (byteAt_toBytes_one _).trans (Nat.mod_eq_of_lt (by omega))
  have elimits : fieldsAt (bandsBytes us) 1 3 us.length = us := by
    refine List.ext_getElem (by simp [fieldsAt]) fun i _ hi => ?_
    have hu := List.all_eq_true.1 hall us[i] (List.getElem_mem hi)
    have hdrop : (bandsBytes us).drop (1 + 3 * i) = (us.flatMap (toBytes 3)).drop (3 * i) := by
      rw [Nat.add_comm]
      rfl
    simp only [Bool.and_eq_true, decide_eq_true_eq] at hu
    simp only [fieldsAt, List.getElem_map, List.getElem_range, fieldAt, hdrop,
      block_flatMap (toBytes 3) (toBytes_length 3) us hi, beNat_toBytes]
    omega
  simp only [bandsOf, ecount, bandsBytes_length]
  rw [fieldsAt] at elimits
  rw [elimits]
  exact if_pos ⟨hone, height, trivial, hall, hrise⟩

/-- A payload that spells a band table in range is the payload of that table (R59). -/
theorem bandsOf_eq_some {pl : List Byte} {us : List Nat} (h : bandsOf pl = some us) :
    bandsInRange us = true ∧ pl = bandsBytes us := by
  unfold bandsOf at h
  dsimp only at h
  split_ifs at h with hr
  obtain ⟨hone, height, hlen, hall, hrise⟩ := hr
  have hus : fieldsAt pl 1 3 (byteAt pl 0) = us := Option.some.inj h
  have hn : us.length = byteAt pl 0 := by simp [← hus, fieldsAt]
  obtain ⟨b, rest, rfl⟩ := List.exists_cons_of_length_pos (l := pl) (by omega)
  have hrest : rest.length = 3 * b.toNat := by
    simp only [List.length_cons, byteAt, List.getD_cons_zero] at hlen
    omega
  have hfields : fieldsAt rest 0 3 b.toNat = us := by
    rw [← hus]
    refine List.map_congr_left fun j _ => ?_
    rw [Nat.zero_add, Nat.add_comm]
    rfl
  refine ⟨(bandsInRange_iff us).2 ⟨by omega, by omega, ?_, ?_⟩, ?_⟩
  · rw [← hus]; exact hall
  · rw [← hus]; exact hrise
  · rw [bandsBytes, hn, ← hfields, flatMap_toBytes_fieldsAt 3 _ hrest]
    exact congrArg (· ++ rest) (toBytes_toNat b).symm

/-! ### What the records replace (R55, R56, R59, R119) -/

section
variable {k : RequestKind} {pl : List Byte} {s : State}

/-- A request of the plan port that replaces a part of the active profile, and nothing else. -/
theorem exec_due_replaces {f : Profile → Profile} {answer : List Value} (hdue : Due k .plan pl s)
    (hp : k.permitted .plan = true) (hl : k.lengthAllowed pl.length = true)
    (hb : k.body .plan pl (s.dropFrame .plan) = ((s.dropFrame .plan).onActive f, done answer)) :
    ∃ t, (exec (k.command .plan) s = .next t ∧ Answered .plan k .done answer s t ∧ t.profile = f s.profile)
      ∧ Happened [] [] 0 (requestBlocks .plan ++ [.active]) s t := by
  have heff : Effects [] [] 0 [.active] (s.dropFrame .plan) ((s.dropFrame .plan).onActive f) :=
    Effects.of_changesOnly (State.onActive_changes _ _) (by simp) (by simp)
  obtain ⟨hexec, hans, hhap⟩ := exec_due_effects hdue hp hl hb heff (by decide)
  exact ⟨_, ⟨hexec, hans, rfl⟩, hhap⟩

theorem State.withStock_effects (id : Nat) (x : Stock) (s : State) :
    Effects [] [] 0 [.active, .sheetMass] s (s.withStock id x) := by
  refine Effects.of_changesOnly (fun b hb => ?_) (by simp) (by simp)
  cases b <;> first | rfl | simp at hb

theorem stockSheetMass_eq (x : Stock) :
    stockSheetMass x = (2 * (x.grammage * x.width * x.length) + 1000000) / 2000000 :=
  divHalfUp_eq _ (by decide)

/-- The refusal of a payload that spells no record: BAD_ARG, for its length or by the body. -/
theorem exec_due_badArg (hdue : Due k .plan pl s) (hp : k.permitted .plan = true)
    (hb : k.lengthAllowed pl.length = true →
      k.body .plan pl (s.dropFrame .plan) = (s.dropFrame .plan, refuse .badArg)) :
    ∃ t, exec (k.command .plan) s = .next t ∧ Answered .plan k .badArg [] s t
      ∧ Happened [] [] 0 (requestBlocks .plan) s t := by
  cases hl : k.lengthAllowed pl.length with
  | false => exact exec_due_wrongLength hdue hp hl
  | true => exact exec_due_unchanged (r := refuse .badArg) hdue hp hl (hb hl)

end

/-! ### The bodies of the requests -/

section
variable {pl : List Byte} {s : State}

theorem setStockBody_wrongState (h : s.run.runState ≠ .closed) : setStockBody pl s = (s, refuse .wrongState) := by
  simp [setStockBody, h]

theorem setEnvelopeBody_wrongState (h : s.run.runState ≠ .closed) :
    setEnvelopeBody pl s = (s, refuse .wrongState) := by
  simp [setEnvelopeBody, h]

theorem setBandsBody_wrongState (h : s.run.runState ≠ .closed) : setBandsBody pl s = (s, refuse .wrongState) := by
  simp [setBandsBody, h]

theorem setStockBody_badArg (h : s.run.runState = .closed) (hof : stockOf pl = none) :
    setStockBody pl s = (s, refuse .badArg) := by
  simp [setStockBody, h, hof]

theorem setEnvelopeBody_badArg (h : s.run.runState = .closed) (hof : envelopeOf pl = none) :
    setEnvelopeBody pl s = (s, refuse .badArg) := by
  simp [setEnvelopeBody, h, hof]

/-- SET_BANDS is refused when it spells no band table, or one whose last limit is below the mass ceiling (R59). -/
theorem setBandsBody_badArg (h : s.run.runState = .closed)
    (hof : ∀ us, bandsOf pl = some us → us.getLast?.getD 0 < s.profile.limits.massCeiling) :
    setBandsBody pl s = (s, refuse .badArg) := by
  cases hbands : bandsOf pl with
  | none => simp [setBandsBody, h, hbands]
  | some us => simp [setBandsBody, h, hbands, hof us hbands]

theorem setStockBody_taken {id : Nat} {x : Stock} (h : s.run.runState = .closed) (hof : stockOf pl = some (id, x)) :
    setStockBody pl s = (s.withStock id x, done [.code .sheetMass (stockSheetMass x),
      foldPlanV (foldPlan x s.profile.envelope s.profile.limits.foldLimit)]) := by
  have hplan : (s.withStock id x).profile.foldPlanOf id
      = foldPlan x s.profile.envelope s.profile.limits.foldLimit := by
    simp [Profile.foldPlanOf, State.withStock]
  simp [setStockBody, h, hof, hplan]

theorem setEnvelopeBody_taken {x : Envelope} (h : s.run.runState = .closed) (hof : envelopeOf pl = some x)
    (hfree : ∀ r ∈ s.run.pieces, r.planned.thickness ≤ x.throat) :
    setEnvelopeBody pl s = (s.onActive fun f => { f with envelope := x },
      done ({ s.profile with envelope := x } : Profile).foldPlansV) := by
  have hnone : (s.run.pieces.any fun r => x.throat < r.planned.thickness) = false := by simpa using hfree
  simp only [setEnvelopeBody, h, hof, hnone]
  rfl

theorem setEnvelopeBody_inUse {x : Envelope} (h : s.run.runState = .closed) (hof : envelopeOf pl = some x)
    (hused : ∃ r ∈ s.run.pieces, x.throat < r.planned.thickness) : setEnvelopeBody pl s = (s, refuse .inUse) := by
  simp [setEnvelopeBody, h, hof, hused]

theorem setBandsBody_taken {us : List Nat} (h : s.run.runState = .closed) (hof : bandsOf pl = some us)
    (hhigh : s.profile.limits.massCeiling ≤ us.getLast?.getD 0) :
    setBandsBody pl s = (s.onActive fun f => { f with bands := us }, done) := by
  simp [setBandsBody, h, hof, Nat.not_lt.2 hhigh]

theorem State.traysExceed_iff {x : SortSettings} : s.traysExceed x = true ↔
    ∃ y ∈ s.heldTrays, x.trayPieceLimit < y.count + y.reserved ∨ x.trayMassLimit < y.mass + y.reservedMass := by
  simp [State.traysExceed]

theorem setSortBody_wrongState (hopen : s.run.runState ≠ .closed) (hne : sortSettingsOf pl ≠ s.profile.sort) :
    setSortBody pl s = (s, refuse .wrongState) := by
  simp [setSortBody, hopen, hne]

/-- In CLOSED, or with the settings held, SET_SORT goes on to the ranges and the trays held (R119). -/
theorem setSortBody_judges (hmay : s.run.runState = .closed ∨ sortSettingsOf pl = s.profile.sort) :
    setSortBody pl s =
      if (sortSettingsOf pl).inRange = false then (s, refuse .badArg)
      else if s.traysExceed (sortSettingsOf pl) then (s, refuse .inUse)
      else (s.onActive fun f => { f with sort := sortSettingsOf pl }, done (sortSettingsOf pl).values) := by
  have hpass : (s.run.runState != .closed && sortSettingsOf pl != s.profile.sort) = false := by
    rcases hmay with h | h <;> simp [h]
  simp only [setSortBody, hpass, Bool.not_eq_true', Bool.false_eq_true, if_false]

theorem setSortBody_badArg (hclosed : s.run.runState = .closed) (hr : (sortSettingsOf pl).inRange = false) :
    setSortBody pl s = (s, refuse .badArg) := by
  rw [setSortBody_judges (.inl hclosed), if_pos hr]

theorem setSortBody_inUse {x : SortSettings} (hx : x.inRange = true) (hclosed : s.run.runState = .closed)
    (hused : s.traysExceed x = true) : setSortBody x.bytes s = (s, refuse .inUse) := by
  rw [setSortBody_judges (.inl hclosed), sortSettingsOf_bytes hx, if_neg (by simp [hx]), if_pos hused]

theorem setSortBody_taken {x : SortSettings} (hx : x.inRange = true)
    (hmay : s.run.runState = .closed ∨ x = s.profile.sort) (hfree : s.traysExceed x = false) :
    setSortBody x.bytes s = (s.onActive fun f => { f with sort := x }, done x.values) := by
  rw [setSortBody_judges (by rwa [sortSettingsOf_bytes hx]), sortSettingsOf_bytes hx, if_neg (by simp [hx]),
    if_neg (by simp [hfree])]

end

end Sys2Proof.Machine

open Sys2Proof Sys2Proof.Machine

/-- Settles O55: each request reads its record back from the payload (the stock, the envelope, the bands, the sort
settings), judges it in the order of its rule, and replaces the one held. -/
theorem recordsOfSettingsAreReplaced : Obligations.RecordsOfSettingsAreReplaced := by
  intro s refused replaced
  have hstock (x : Stock) (id : Nat) : RequestKind.setStock.lengthAllowed (x.bytes id).length = true := by
    rw [Stock.bytes_length]; rfl
  have henvelope (x : Envelope) : RequestKind.setEnvelope.lengthAllowed x.bytes.length = true := by
    rw [Envelope.bytes_length]; rfl
  have hsort (x : SortSettings) : RequestKind.setSort.lengthAllowed x.bytes.length = true := by
    rw [SortSettings.bytes_length]; rfl
  have hbands {us : List Nat} (h : bandsInRange us = true) :
      RequestKind.setBands.lengthAllowed (bandsBytes us).length = true := by
    obtain ⟨-, height, -⟩ := (bandsInRange_iff us).1 h
    simp only [bandsBytes_length, RequestKind.lengthAllowed, Bool.and_eq_true, decide_eq_true_eq]
    omega
  refine ⟨fun id x hid hx hdue hclosed => ?_, fun x hx hdue hclosed hfree => ?_,
    fun us hus hdue hclosed hhigh => ?_, fun x hx hdue hmay hfree => ?_, fun pl hclosed => ?_,
    fun x hx hdue hclosed hused => ?_, fun x hx hdue hclosed hused => ?_, fun hopen => ?_⟩
  · intro mass
    have hb := setStockBody_taken (s := s.dropFrame .plan) hclosed (stockOf_bytes hid hx)
    rw [stockSheetMass_eq] at hb
    obtain ⟨hexec, hans, hhap⟩ := exec_due_effects (k := .setStock) hdue rfl (hstock x id) hb
      (State.withStock_effects _ _ _) (by decide)
    exact ⟨_, ⟨hexec, hans, rfl⟩, congrArg (setNth s.sheetMass id) (stockSheetMass_eq x), hhap⟩
  · exact exec_due_replaces (k := .setEnvelope) hdue rfl (henvelope x)
      (setEnvelopeBody_taken (s := s.dropFrame .plan) hclosed (envelopeOf_bytes hx) hfree)
  · exact exec_due_replaces (k := .setBands) hdue rfl (hbands hus)
      (setBandsBody_taken (s := s.dropFrame .plan) hclosed (bandsOf_bytes hus) hhigh)
  · have hexceed : (s.dropFrame .plan).traysExceed x = false := by
      rw [← Bool.not_eq_true, State.traysExceed_iff]
      rintro ⟨y, hy, hover⟩
      have hwithin := hfree y hy
      omega
    exact exec_due_replaces (k := .setSort) hdue rfl (hsort x)
      (setSortBody_taken (s := s.dropFrame .plan) hx hmay hexceed)
  · refine ⟨fun hdue hpl => ?_, fun hdue hpl => ?_, fun hdue hpl => ?_, fun hdue hpl => ?_⟩
    · refine exec_due_badArg (k := .setStock) hdue rfl fun hlen =>
        setStockBody_badArg (s := s.dropFrame .plan) hclosed ?_
      refine Option.eq_none_iff_forall_not_mem.2 fun ⟨id, x⟩ hof => ?_
      obtain ⟨hid, hx, hbytes⟩ := stockOf_eq_some (by simpa [RequestKind.lengthAllowed] using hlen) hof
      exact hpl id x hid hx hbytes
    · refine exec_due_badArg (k := .setEnvelope) hdue rfl fun hlen =>
        setEnvelopeBody_badArg (s := s.dropFrame .plan) hclosed ?_
      refine Option.eq_none_iff_forall_not_mem.2 fun x hof => ?_
      obtain ⟨hx, hbytes⟩ := envelopeOf_eq_some (by simpa [RequestKind.lengthAllowed] using hlen) hof
      exact hpl x hx hbytes
    · refine exec_due_badArg (k := .setBands) hdue rfl fun _ =>
        setBandsBody_badArg (s := s.dropFrame .plan) hclosed fun us hof => ?_
      obtain ⟨hus, hbytes⟩ := bandsOf_eq_some hof
      exact Nat.lt_of_not_le fun hhigh => hpl us hus hhigh hbytes
    · refine exec_due_badArg (k := .setSort) hdue rfl fun hlen => ?_
      refine setSortBody_badArg (s := s.dropFrame .plan) hclosed (Bool.eq_false_iff.2 fun hx => ?_)
      exact hpl _ hx (bytes_sortSettingsOf (by simpa [RequestKind.lengthAllowed] using hlen)).symm
  · exact exec_due_unchanged (k := .setEnvelope) (r := refuse .inUse) hdue rfl (henvelope x)
      (setEnvelopeBody_inUse (s := s.dropFrame .plan) hclosed (envelopeOf_bytes hx) hused)
  · exact exec_due_unchanged (k := .setSort) (r := refuse .inUse) hdue rfl (hsort x)
      (setSortBody_inUse (s := s.dropFrame .plan) hx hclosed (State.traysExceed_iff.2 hused))
  · refine ⟨fun id x _ _ hdue => ?_, fun x _ hdue => ?_, fun us hus hdue => ?_, fun x hx hne hdue => ?_⟩
    · exact exec_due_unchanged (k := .setStock) (r := refuse .wrongState) hdue rfl (hstock x id)
        (setStockBody_wrongState (s := s.dropFrame .plan) hopen)
    · exact exec_due_unchanged (k := .setEnvelope) (r := refuse .wrongState) hdue rfl (henvelope x)
        (setEnvelopeBody_wrongState (s := s.dropFrame .plan) hopen)
    · exact exec_due_unchanged (k := .setBands) (r := refuse .wrongState) hdue rfl (hbands hus)
        (setBandsBody_wrongState (s := s.dropFrame .plan) hopen)
    · exact exec_due_unchanged (k := .setSort) (r := refuse .wrongState) hdue rfl (hsort x)
        (setSortBody_wrongState (s := s.dropFrame .plan) hopen (by rwa [sortSettingsOf_bytes hx]))
end

section
/-! The tag and the feeders a FOLD verdict takes, the state of a feeder, and a report of its head (R80, R81, R83, R86,
R101). -/

namespace Sys2Proof.Machine

/-! ### The tag issued next (R101) -/

/-- The tags in the order the allocator tries them are all different. -/
theorem tagOrder_nodup (a : Nat) : ((List.range 64).map fun i => (a + i) % 64).Nodup := by
  refine List.Nodup.map_on (fun i hi j hj hij => ?_) List.nodup_range
  rw [List.mem_range] at hi hj
  omega

/-- Fewer than 64 entries leave one of the tags free, so the search for a tag ends at the first free one (R101). -/
theorem TrackQueue.nextTag_first {q : TrackQueue} (h : q.entries.length < 64) :
    ∃ k, k < 64 ∧ q.nextTag = (q.allocator + k) % 64 ∧ (∀ e ∈ q.entries, e.tag ≠ q.nextTag)
      ∧ ∀ j < k, ∃ e ∈ q.entries, e.tag = (q.allocator + j) % 64 := by
  let order := (List.range 64).map fun i => (q.allocator + i) % 64
  let free (t : Nat) : Bool := !q.entries.any fun e => e.tag == t
  have hsome : (order.find? free).isSome := by
    by_contra hnone
    have hheld : order ⊆ q.entries.map TrackEntry.tag := by
      intro t ht
      have := List.find?_eq_none.1 (Option.not_isSome_iff_eq_none.1 hnone) t ht
      simpa [free] using this
    have hlength := (List.subperm_of_subset (tagOrder_nodup q.allocator) hheld).length_le
    simp only [List.length_map, List.length_range] at hlength
    omega
  obtain ⟨t, ht⟩ := Option.isSome_iff_exists.1 hsome
  have hnext : q.nextTag = t := congrArg (Option.getD · q.allocator) ht
  obtain ⟨hfree, k, hk, hkt, hbefore⟩ := List.find?_eq_some_iff_getElem.1 ht
  simp only [order, List.length_map, List.length_range, List.getElem_map, List.getElem_range] at hk hkt
  refine ⟨k, hk, hnext.trans hkt.symm, by simpa [hnext, free] using hfree, fun j hj => ?_⟩
  simpa [order, free] using hbefore j hj

/-! ### The feeder chosen for a code (R80, R86) -/

/-- A search over the feeders finds the lowest-numbered one that passes. -/
theorem find_feederNumbers_iff {p : Nat → Bool} {k : Nat} :
    feederNumbers.find? p = some k
      ↔ (k ∈ feederNumbers ∧ p k = true) ∧ ∀ j < k, ¬ (j ∈ feederNumbers ∧ p j = true) := by
  constructor
  · intro h
    refine ⟨⟨List.mem_of_find?_eq_some h, List.find?_some h⟩, fun j hjk ⟨hj, hpj⟩ => ?_⟩
    obtain ⟨-, before, after, hsplit, hbefore⟩ := List.find?_eq_some_iff_append.1 h
    have hsorted : feederNumbers.Pairwise (· < ·) := by decide
    rw [hsplit, List.pairwise_append, List.pairwise_cons] at hsorted
    obtain ⟨-, ⟨hafter, -⟩, -⟩ := hsorted
    rw [hsplit, List.mem_append, List.mem_cons] at hj
    rcases hj with hj | rfl | hj
    · simpa [hpj] using hbefore j hj
    · exact Nat.lt_irrefl j hjk
    · exact Nat.lt_asymm hjk (hafter j hj)
  · rintro ⟨⟨hk, hpk⟩, hmin⟩
    exact find_feederNumbers hk hpk fun j hj hjk => Bool.eq_false_iff.2 fun hpj => hmin j hjk ⟨hj, hpj⟩

/-- Feeder `k` is in state READY or LOW and carries the code `c`. -/
def State.Offers (s : State) (k c : Nat) : Prop :=
  k ∈ feederNumbers ∧ (s.feeder k).state ∈ [FeederState.ready, .low] ∧ (s.profile.feeder k).code = c

section
variable {s : State} {k c : Nat}

/-- The test of the search at release is that of a usable feeder with the code (R80, R86). -/
theorem State.offers_iff (hc : c ≠ 0) : s.Offers k c
    ↔ k ∈ feederNumbers ∧ (decide (0 < k) && s.usable k && s.profile.carries k c && true) = true := by
  have hpos : k ∈ feederNumbers → 0 < k := fun hk => (mem_feederNumbers.1 hk).1
  simp only [State.Offers, State.usable, Profile.carries, Bool.and_eq_true, Bool.or_eq_true, beq_iff_eq, bne_iff_ne,
    decide_eq_true_eq, List.mem_cons, List.not_mem_nil, or_false, and_true]
  constructor
  · rintro ⟨hk, hstate, hcode⟩
    exact ⟨hk, ⟨hpos hk, hstate, hcode ▸ hc⟩, hcode, hc⟩
  · rintro ⟨hk, ⟨-, hstate, -⟩, hcode, -⟩
    exact ⟨hk, hstate, hcode⟩

theorem State.findFeeder_eq_some_iff (hc : c ≠ 0) : s.findFeeder 0 c (fun _ => true) = some k
    ↔ s.Offers k c ∧ ∀ j < k, ¬ s.Offers j c := by
  simp only [State.offers_iff hc]
  exact find_feederNumbers_iff

theorem State.findFeeder_isNone_iff (hc : c ≠ 0) : (s.findFeeder 0 c fun _ => true).isNone = true
    ↔ ∀ k, ¬ s.Offers k c := by
  simp only [State.offers_iff hc, not_and, Option.isNone_iff_eq_none]
  exact List.find?_eq_none

variable {r : Piece}

/-- The pull set names, for each code of the insert list, the feeder chosen for it (R86). -/
theorem State.mem_pullSet : (k, c) ∈ s.pullSet r
    ↔ (∃ i ∈ r.inserts, i.code = c) ∧ s.findFeeder 0 c (fun _ => true) = some k := by
  simp only [State.pullSet, List.mem_flatMap, List.mem_filter, List.mem_filterMap, Option.map_eq_some_iff,
    Prod.mk.injEq, beq_iff_eq]
  constructor
  · rintro ⟨-, -, ⟨i, hi, j, hfind, rfl, rfl⟩, -⟩
    exact ⟨⟨i, hi, rfl⟩, hfind⟩
  · rintro ⟨⟨i, hi, rfl⟩, hfind⟩
    exact ⟨k, List.mem_of_find?_eq_some hfind, ⟨i, hi, k, hfind, rfl, rfl⟩, rfl⟩

/-- The pull set stands in feeder order (R86). -/
theorem State.pullSet_sorted (s : State) (r : Piece) : (s.pullSet r).Pairwise fun x y => x.1 ≤ y.1 := by
  have hsorted : feederNumbers.Pairwise (· < ·) := by decide
  refine List.pairwise_flatMap.2 ⟨fun k _ => List.pairwise_filter.2 (List.pairwise_of_forall ?_),
    hsorted.imp fun hlt x hx y hy => ?_⟩
  · intro x y hx hy
    rw [beq_iff_eq] at hx hy
    exact (hx.trans hy.symm).le
  · have hxk := (List.mem_filter.1 hx).2
    have hyk := (List.mem_filter.1 hy).2
    rw [beq_iff_eq] at hxk hyk
    omega

/-- The codes for which no feeder is chosen, of the entries of an insert list that pass a further test. -/
theorem State.mem_unchosen (p : InsertEntry → Bool) (hcodes : ∀ i ∈ r.inserts, i.code ≠ 0) :
    c ∈ (r.inserts.filter fun i => p i && (s.findFeeder 0 i.code fun _ => true).isNone).map InsertEntry.code
      ↔ (∃ i ∈ r.inserts, i.code = c ∧ p i = true) ∧ ∀ k, ¬ s.Offers k c := by
  simp only [List.mem_map, List.mem_filter, Bool.and_eq_true]
  constructor
  · rintro ⟨i, ⟨hi, hp, hnone⟩, rfl⟩
    exact ⟨⟨i, hi, rfl, hp⟩, (State.findFeeder_isNone_iff (hcodes i hi)).1 hnone⟩
  · rintro ⟨⟨i, hi, rfl, hp⟩, hnone⟩
    exact ⟨i, ⟨hi, hp, (State.findFeeder_isNone_iff (hcodes i hi)).2 hnone⟩, rfl⟩

end

/-! ### The state of a feeder (R80) -/

/-- The head of feeder `k` is PRESENT and `w` is the last status word it reported. -/
def State.Shows (s : State) (k : Nat) (w : Half) : Prop :=
  ∃ a, s.profile.feederHead k = some a ∧ (s.head a).state = .present ∧ (s.head a).lastStatus = some w

section
variable {s : State} {k : Nat} {w : Half}

theorem State.derivedFeederState_disabled (h : (s.profile.feeder k).enabled ≠ true) :
    s.derivedFeederState k = .disabled := by
  simp [State.derivedFeederState, h]

/-- A feeder whose head shows no status word is OFFLINE: its head is not mapped, not PRESENT, or has not reported. -/
theorem State.derivedFeederState_offline (h : (s.profile.feeder k).enabled = true) (hw : ∀ w, ¬ s.Shows k w) :
    s.derivedFeederState k = .offline := by
  simp only [State.derivedFeederState, h, Bool.not_true, Bool.false_eq_true, if_false, State.feederHeadEntry]
  cases ha : s.profile.feederHead k with
  | none => rfl
  | some a =>
    by_cases hpresent : (s.head a).state = .present
    · cases hlast : (s.head a).lastStatus with
      | some w => exact absurd ⟨a, ha, hpresent, hlast⟩ (hw w)
      | none => simp [show (nth s.heads.table a).lastStatus = none from hlast]
    · simp [show (nth s.heads.table a).state ≠ .present from hpresent]

/-- The state of an enabled feeder whose head shows the word `w`: the rows below OFFLINE (R80). -/
theorem State.derivedFeederState_shown (h : (s.profile.feeder k).enabled = true) (hw : s.Shows k w) :
    s.derivedFeederState k = if w.getLsbD 0 = true then .jammed
      else if w.getLsbD 1 = true ∨ (s.feeder k).missRun = 3 then .empty
      else if w.getLsbD 2 = true then .low else .ready := by
  obtain ⟨a, ha, hpresent, hlast⟩ := hw
  simp only [State.head] at hpresent hlast
  simp [State.derivedFeederState, h, State.feederHeadEntry, ha, hpresent, hlast, statusJam, statusEmpty, statusLow]

end

/-! ### A report of a feeder's head (R81, R83) -/

/-- The refill count of the last report of feeder `k`, after a report that shows a word or none (R83). -/
def State.refillSeen (s : State) (k : Nat) (w : Option Half) : Nat :=
  w.elim (s.feeder k).lastRefill fun x => x.toNat / 16 % 16

/-- Taking note of the refill count a report shows: another count than the last one makes the miss run 0 (R83). -/
def State.noteRefill (k : Nat) (w : Option Half) (s : State) : State :=
  s.onFeeder k fun f =>
    { f with lastRefill := s.refillSeen k w, missRun := if s.refillSeen k w = f.lastRefill then f.missRun else 0 }

section
variable {k : Nat} {s : State}

/-- A change of a feeder is known by what it makes of the record the feeder has. -/
theorem State.onFeeder_congr {f g : Feeder → Feeder} (h : f (s.feeder k) = g (s.feeder k)) :
    s.onFeeder k f = s.onFeeder k g :=
  congrArg (fun x => s.onFeeders fun v => setNth v (k - 1) x) h

/-- Writing back the record a feeder has changes nothing. -/
theorem State.onFeeder_same {f : Feeder → Feeder} (h : f (s.feeder k) = s.feeder k) : s.onFeeder k f = s := by
  have hset : setNth s.feeders (k - 1) (nth s.feeders (k - 1)) = s.feeders := by simp [setNth, nth]
  exact (State.onFeeder_congr (g := id) h).trans (congrArg (fun v => { s with feeders := v }) hset)

/-- A report of a feeder's head notes the refill count, and then the state is derived again (R81, R83). -/
theorem State.feederReport_eq (k : Nat) (w : Option Half) (s : State) :
    s.feederReport k w = (s.noteRefill k w).derive k := by
  cases w with
  | none => exact congrArg (State.derive k) (State.onFeeder_same (by simp [State.refillSeen])).symm
  | some w =>
    refine congrArg (State.derive k) ?_
    have hseen : s.refillSeen k (some w) = statusRefill w := rfl
    simp only [State.noteRefill, hseen]
    by_cases hsame : (s.feeder k).lastRefill = statusRefill w
    · rw [if_pos (beq_iff_eq.2 hsame)]
      exact (State.onFeeder_same (by simp [← hsame])).symm
    · rw [if_neg (mt beq_iff_eq.1 hsame)]
      exact State.onFeeder_congr (by simp [Ne.symm hsame])

end

end Sys2Proof.Machine

open Sys2Proof Sys2Proof.Machine

/-- Settles O32: a free tag is among the 64 tried, the search of the feeders is that of R86, and a report of a head is
a refill count noted before the state is derived. -/
theorem releaseChoosesTagAndFeeders : Obligations.ReleaseChoosesTagAndFeeders := by
  refine ⟨fun q hlength _ => q.nextTag_first (by omega), fun r s hcodes => ?_, fun k s _ => ?_, fun k w s hk => ?_⟩
  · intro carries
    refine ⟨fun k c => ?_, s.pullSet_sorted r, fun c => State.mem_unchosen InsertEntry.required hcodes, fun c => ?_⟩
    · rw [State.mem_pullSet]
      refine and_congr_right fun ⟨i, hi, hic⟩ => ?_
      exact State.findFeeder_eq_some_iff (hic ▸ hcodes i hi)
    · have hoptional := State.mem_unchosen (s := s) (c := c) (fun i => !i.required) hcodes
      simp only [Bool.not_eq_true'] at hoptional
      exact hoptional
  · intro enabled shows
    refine ⟨State.derivedFeederState_disabled, State.derivedFeederState_offline, fun w henabled hshows => ?_⟩
    intro jam empty low
    rw [State.derivedFeederState_shown henabled hshows]
    exact ⟨fun hj => if_pos hj, fun hj he => (if_neg hj).trans (if_pos he),
      fun hj he hl => (if_neg hj).trans ((if_neg he).trans (if_pos hl)),
      fun hj he hl => (if_neg hj).trans ((if_neg he).trans (if_neg hl))⟩
  · intro t refill
    have ht : t = (s.noteRefill k w).derive k := s.feederReport_eq k w
    have hnoted : (s.noteRefill k w).feeder k = { s.feeder k with
        lastRefill := refill
        missRun := if refill = (s.feeder k).lastRefill then (s.feeder k).missRun else 0 } := s.onFeeder_feeder _
    have hframe : (s.noteRefill k w).checker = s.checker := by simp [State.noteRefill]
    obtain ⟨htk, htj, -, -⟩ := State.derive_values hk (s.noteRefill k w)
    rw [← ht] at htk htj
    have hderived : t.derivedFeederState k = (s.noteRefill k w).derivedFeederState k :=
      State.derivedFeederState_congr (by simp [ht]) (by simp [ht]) (by rw [htk])
    have hsilent : Effects [] [] 0 [.feeders, .releaseHold] s (s.noteRefill k w) :=
      Effects.of_changesOnly ((State.onFeeder_changes _ _ _).mono (by simp)) (by simp) (by simp)
    refine ⟨by rw [htk, hnoted, hderived], fun j hj hne => ?_,
      derive_between hk (by simp) hsilent (by rw [hnoted]) (by rw [hframe])
        (ht ▸ Effects.refl _ _) (by rw [ht]) (by rw [ht]) (by rw [ht])⟩
    rw [htj j hj hne]
    exact s.onFeeder_feeder_ne _ hk hj hne
end

section
/-! Station reports that are refused: out of order, against the gate decision, for no pull that is waiting, or with an
argument outside its range (R88, R102 to R107, R110). -/

namespace Sys2Proof.Machine

/-! ### The entry a report has to name (R102, R103) -/

/-- A stage event misnames its entry: the oldest one short of the stage `target` has another tag, or does not stand at
the stage `before`. -/
def State.Misnames (s : State) (tag : Nat) (target before : Stage) : Prop :=
  ∀ pre e post, s.track.entries = pre ++ e :: post → (∀ x ∈ pre, target.rank ≤ x.stage.rank) →
    e.stage.rank < target.rank → e.tag ≠ tag ∨ e.stage ≠ before

section
variable {s : State} {target st : Stage} {tag : Nat}

theorem State.expectedEntry_eq (s : State) (target : Stage) :
    s.expectedEntry target = s.track.entries.find? fun x => decide (x.stage.rank < target.rank) := by
  simp only [State.expectedEntry, Stage.reached, ← decide_not, not_le]

/-- A stage event that misnames its entry moves none. -/
theorem State.movable_of_misnames (h : s.Misnames tag target (s.precedingStage target)) :
    s.movable target tag = none := by
  unfold State.movable
  cases hexpected : s.expectedEntry target with
  | none => rfl
  | some e =>
    rw [State.expectedEntry_eq] at hexpected
    obtain ⟨hshort, pre, post, hsplit, hpre⟩ := List.find?_eq_some_iff_append.1 hexpected
    have hwrong := h pre e post hsplit (by simpa using hpre) (by simpa using hshort)
    exact if_neg (by simpa only [Bool.and_eq_true, beq_iff_eq, not_and_or] using hwrong)

/-- No entry under a tag at a stage, when the entry under the tag stands at another one. -/
theorem State.entryAt_eq_none (h : ∀ e, s.entry? tag = some e → e.stage ≠ st) :
    ((s.entry? tag).filter fun e => e.stage == st) = none := by
  cases hentry : s.entry? tag with
  | none => rfl
  | some e => simp [h e hentry]

end

/-! ### The operands (R203) -/

section
variable {pl : List Byte} {n : Nat}

theorem pullResultOf_eq_none (h : n = 0 ∨ 4 < n) : pullResultOf n = none := by
  match n, h with
  | 0, _ => rfl
  | n + 5, _ => rfl

theorem pullResultOf_isSome (h1 : 1 ≤ n) (h4 : n ≤ 4) : ∃ res, pullResultOf n = some res := by
  match n, h1, h4 with
  | 1, _, _ => exact ⟨_, rfl⟩
  | 2, _, _ => exact ⟨_, rfl⟩
  | 3, _, _ => exact ⟨_, rfl⟩
  | 4, _, _ => exact ⟨_, rfl⟩

theorem scaleReportOf_eq_none (h : 2 < byteAt pl 1) : scaleReportOf pl = none := by
  unfold scaleReportOf
  split
  · omega
  · omega
  · omega
  · rfl

theorem scaleReportOf_isSome (h : byteAt pl 1 ≤ 2) : ∃ report, scaleReportOf pl = some report := by
  obtain ⟨hmass, hover, hno⟩ := scaleReportOf_eq (pl := pl)
  have hkind : byteAt pl 1 = 0 ∨ byteAt pl 1 = 1 ∨ byteAt pl 1 = 2 := by omega
  rcases hkind with h0 | h1 | h2
  · exact ⟨_, hmass h0⟩
  · exact ⟨_, hover h1⟩
  · exact ⟨_, hno h2⟩

/-- No outcome is spelled by another outcome byte than 0 and 1, or by BIN with a bin that is none of the six. -/
theorem exitOutcomeOf_eq_none (h : 1 < byteAt pl 1 ∨ byteAt pl 1 = 1 ∧ (byteAt pl 2 = 0 ∨ 6 < byteAt pl 2)) :
    exitOutcomeOf pl = none := by
  unfold exitOutcomeOf
  split
  · omega
  · exact if_neg (by omega)
  · rfl

end

/-! ### The bodies that refuse -/

section
variable {pl : List Byte} {s : State} {report : ScaleReport} {res : PullResult} {reported d : GateDecision}
  {e : TrackEntry} {es : List TrackEntry} {r : Piece}

theorem foldedBody_outOfOrder (h : ¬ (63 < byteAt pl 0 ∨ byteAt pl 1 = 0 ∨ 4 < byteAt pl 1))
    (hm : s.movable .folded (byteAt pl 0) = none) : foldedBody pl s = s.refuseOrder .folded := by
  simp only [foldedBody, if_neg h, hm]

theorem envelopedBody_outOfOrder (h : byteAt pl 0 ≤ 63) (hm : s.movable .enveloped (byteAt pl 0) = none) :
    envelopedBody pl s = s.refuseOrder .enveloped := by
  simp only [envelopedBody, if_neg (Nat.not_lt.2 h), hm]

theorem weighedBody_outOfOrder (h : byteAt pl 0 ≤ 63) (hreport : scaleReportOf pl = some report)
    (hscale : s.profile.limits.scaleInLine = true) (hm : s.movable .weighed (byteAt pl 0) = none) :
    weighedBody pl s = s.refuseOrder .weighed := by
  simp [weighedBody, hreport, Nat.not_lt.2 h, hscale, hm]

theorem atGateBody_outOfOrder (h : byteAt pl 0 ≤ 63)
    (hgate : ∀ e, s.entry? (byteAt pl 0) = some e → e.stage ≠ .atGate)
    (hm : s.movable .atGate (byteAt pl 0) = none) : atGateBody pl s = s.refuseOrder .atGate := by
  simp only [atGateBody, if_neg (Nat.not_lt.2 h), State.entryAt_eq_none hgate, hm]

/-- EXITED names another entry than the gated queue head, or there is none (R110). -/
theorem exitedBody_outOfOrder (hout : exitOutcomeOf pl = some reported) (h : byteAt pl 0 ≤ 63)
    (hhead : ∀ e es, s.track.entries = e :: es → e.tag ≠ byteAt pl 0 ∨ e.stage ≠ .gated) :
    exitedBody pl s = (s.raise .outOfOrder, refuse .outOfOrder (expectedEntryV s.track.entries.head?)) := by
  simp only [exitedBody, hout, if_neg (Nat.not_lt.2 h)]
  cases hentries : s.track.entries with
  | nil => rfl
  | cons e es =>
    simp only [List.head?_cons]
    cases e.decision with
    | none => rfl
    | some d =>
      refine if_pos ?_
      simpa only [Bool.or_eq_true, bne_iff_ne] using hhead e es hentries

/-- EXITED reports another outcome than the gate decided (R110). -/
theorem exitedBody_contradicts (hout : exitOutcomeOf pl = some reported) (h : byteAt pl 0 ≤ 63)
    (hentries : s.track.entries = e :: es) (htag : e.tag = byteAt pl 0) (hstage : e.stage = .gated)
    (hd : e.decision = some d) (hagrees : exitAgrees reported d = false) :
    exitedBody pl s = (s, refuse .badArg) := by
  simp [exitedBody, hout, Nat.not_lt.2 h, hentries, htag, hstage, hd, hagrees]

theorem pullResultBody_outOfOrder (hres : pullResultOf (byteAt pl 2) = some res)
    (h : ¬ (63 < byteAt pl 0 ∨ byteAt pl 1 = 0 ∨ 8 < byteAt pl 1))
    (hfolded : ∀ e, s.entry? (byteAt pl 0) = some e → e.stage ≠ .folded) :
    pullResultBody pl s = (s.raise .outOfOrder, refuse .outOfOrder) := by
  simp only [pullResultBody, hres, if_neg h, State.entryAt_eq_none hfolded]

/-- PULL_RESULT for a feeder that no PENDING entry of the pull list names (R88). -/
theorem pullResultBody_notPlanned (hres : pullResultOf (byteAt pl 2) = some res)
    (h : ¬ (63 < byteAt pl 0 ∨ byteAt pl 1 = 0 ∨ 8 < byteAt pl 1)) (he : s.entry? (byteAt pl 0) = some e)
    (hstage : e.stage = .folded) (hr : s.piece? e.piece = some r)
    (hpulls : ∀ x ∈ r.pulls, x.feeder = byteAt pl 1 → x.result ≠ .pending) :
    pullResultBody pl s = (s, refuse .notPlanned) := by
  have hnone : r.pendingPull (byteAt pl 1) = none :=
    List.find?_eq_none.2 fun x hx => by simpa using hpulls x hx
  simp only [pullResultBody, hres, if_neg h, he, Option.filter_some, hstage, beq_self_eq_true, if_true, hr,
    Option.bind_some, hnone]

theorem foldedBody_badArg (h : 63 < byteAt pl 0 ∨ byteAt pl 1 = 0 ∨ 4 < byteAt pl 1) :
    foldedBody pl s = (s, refuse .badArg) := if_pos h

theorem envelopedBody_badArg (h : 63 < byteAt pl 0) : envelopedBody pl s = (s, refuse .badArg) := if_pos h

theorem atGateBody_badArg (h : 63 < byteAt pl 0) : atGateBody pl s = (s, refuse .badArg) := if_pos h

theorem weighedBody_badArg (h : 63 < byteAt pl 0 ∨ 2 < byteAt pl 1) : weighedBody pl s = (s, refuse .badArg) := by
  unfold weighedBody
  split
  · rfl
  · next report hreport =>
    refine if_pos (h.resolve_right fun hkind => ?_)
    simp [scaleReportOf_eq_none hkind] at hreport

theorem exitedBody_badArg (h : 63 < byteAt pl 0 ∨ 1 < byteAt pl 1
      ∨ byteAt pl 1 = 1 ∧ (byteAt pl 2 = 0 ∨ 6 < byteAt pl 2)) : exitedBody pl s = (s, refuse .badArg) := by
  unfold exitedBody
  split
  · rfl
  · next reported hout =>
    refine if_pos (h.resolve_right fun houtcome => ?_)
    simp [exitOutcomeOf_eq_none houtcome] at hout

theorem pullResultBody_badArg (h : 63 < byteAt pl 0 ∨ byteAt pl 1 = 0 ∨ 8 < byteAt pl 1 ∨ byteAt pl 2 = 0
      ∨ 4 < byteAt pl 2) : pullResultBody pl s = (s, refuse .badArg) := by
  unfold pullResultBody
  dsimp only
  split
  · rfl
  · next res hres =>
    refine if_pos ?_
    have hresult : ¬ (byteAt pl 2 = 0 ∨ 4 < byteAt pl 2) := fun hn => by simp [pullResultOf_eq_none hn] at hres
    omega

end

/-! ### The refusals at the port (R186) -/

section
variable {k : RequestKind} {pl : List Byte} {s : State}

/-- A body that refuses OUT_OF_ORDER raises the sticky flag, and nothing else changes. -/
theorem exec_due_outOfOrder {answer : List Value} (hdue : Due k .track pl s) (hp : k.permitted .track = true)
    (hl : k.lengthAllowed pl.length = true)
    (hb : k.body .track pl (s.dropFrame .track)
      = ((s.dropFrame .track).raise .outOfOrder, refuse .outOfOrder answer)) :
    ∃ t, exec (k.command .track) s = .next t ∧ Answered .track k .outOfOrder answer s t
      ∧ Happened [] [] StickyFlag.outOfOrder.bit (requestBlocks .track) s t :=
  ⟨_, exec_due_effects hdue hp hl hb (State.raise_effects _ _) (by simp)⟩

/-- A stage event refused OUT_OF_ORDER names the oldest entry short of its stage (R103). -/
theorem exec_due_refuseOrder {target : Stage} (hdue : Due k .track pl s) (hp : k.permitted .track = true)
    (hl : k.lengthAllowed pl.length = true)
    (hb : k.body .track pl (s.dropFrame .track) = (s.dropFrame .track).refuseOrder target) :
    ∃ t, exec (k.command .track) s = .next t
      ∧ Answered .track k .outOfOrder (expectedEntryV (s.track.entries.find? fun x =>
          decide (x.stage.rank < target.rank))) s t
      ∧ Happened [] [] StickyFlag.outOfOrder.bit (requestBlocks .track) s t := by
  rw [← State.expectedEntry_eq]
  exact exec_due_outOfOrder hdue hp hl hb

/-- A request of the track port whose argument is out of range is refused BAD_ARG, for its length or by its body. -/
theorem exec_track_badArg (hdue : Due k .track pl s) (hp : k.permitted .track = true)
    (hb : k.body .track pl (s.dropFrame .track) = (s.dropFrame .track, refuse .badArg)) :
    ∃ t, exec (k.command .track) s = .next t ∧ Answered .track k .badArg [] s t
      ∧ Happened [] [] 0 (requestBlocks .track) s t := by
  cases hl : k.lengthAllowed pl.length with
  | false => exact exec_due_wrongLength hdue hp hl
  | true => exact exec_due_unchanged (r := refuse .badArg) hdue hp hl hb

end

end Sys2Proof.Machine

open Sys2Proof Sys2Proof.Machine

/-- Settles O36: a report that names another entry than the one expected moves none, and the ranges are tested before
the order is. -/
theorem stationReportsOutOfOrderAreRefused : Obligations.StationReportsOutOfOrderAreRefused := by
  refine ⟨fun tag s htag => ?_, fun tag s htag => ⟨fun pl hpl hdue hhead => ?_,
    fun b e es d hb hdue hentries hetag hstage hd hne => ?_⟩, fun tag k res s htag hk1 hk8 hres1 hres4 hdue => ?_,
    fun k pl s hdue hrange => ?_⟩
  · intro misnamed refused
    have moves {target before : Stage} (h : misnamed target before) (hbefore : before = s.precedingStage target)
        {n : Nat} (hn : n = tag) : (s.dropFrame .track).movable target n = none :=
      State.movable_of_misnames (s := s.dropFrame .track) (hn ▸ hbefore ▸ h)
    refine ⟨fun n hn1 hn4 hdue hmis => ?_, fun hdue hmis => ?_, fun kind m hkind hdue hscale hmis => ?_,
      fun hdue hmis hgate => ?_⟩
    · have hzero := byteAt_tag htag (toBytes 1 n)
      have hone : byteAt (toBytes 1 tag ++ toBytes 1 n) 1 = n :=
        (byteAt_toBytes_one n).trans (Nat.mod_eq_of_lt (by omega))
      exact exec_due_refuseOrder (k := .folded) hdue rfl rfl (foldedBody_outOfOrder (by omega) (moves hmis rfl hzero))
    · have hzero : byteAt (toBytes 1 tag) 0 = tag := byteAt_tag htag []
      exact exec_due_refuseOrder (k := .enveloped) hdue rfl rfl
        (envelopedBody_outOfOrder (by omega) (moves hmis rfl hzero))
    · obtain ⟨hzero, hone, -⟩ := weighedBytes_fields m htag hkind
      obtain ⟨report, hreport⟩ := scaleReportOf_isSome (hone.le.trans hkind)
      exact exec_due_refuseOrder (k := .weighed) hdue rfl rfl
        (weighedBody_outOfOrder (hzero.le.trans htag) hreport hscale (moves hmis rfl hzero))
    · have hzero : byteAt (toBytes 1 tag) 0 = tag := byteAt_tag htag []
      exact exec_due_refuseOrder (k := .atGate) hdue rfl rfl
        (atGateBody_outOfOrder (by omega) (by rw [hzero]; exact hgate) (moves hmis rfl hzero))
  · have hzero := byteAt_tag htag pl
    rw [← hzero] at hhead
    rcases hpl with rfl | ⟨b, hb, rfl⟩
    · exact exec_due_outOfOrder (k := .exited) hdue rfl rfl
        (exitedBody_outOfOrder (s := s.dropFrame .track) (reported := .divert) rfl (by omega) hhead)
    · exact exec_due_outOfOrder (k := .exited) hdue rfl rfl
        (exitedBody_outOfOrder (s := s.dropFrame .track) (exitOutcomeOf_bin hb) (by omega) hhead)
  · have hzero : byteAt (toBytes 1 tag ++ [1] ++ toBytes 1 b) 0 = tag := byteAt_tag htag _
    have hagrees : exitAgrees (.bin b) d = false := by simp [exitAgrees, Ne.symm hne]
    exact exec_due_unchanged (k := .exited) (r := refuse .badArg) hdue rfl rfl
      (exitedBody_contradicts (s := s.dropFrame .track) (exitOutcomeOf_bin hb) (by omega) hentries
        (hetag.trans hzero.symm) hstage hd hagrees)
  · set pl := toBytes 1 tag ++ toBytes 1 k ++ toBytes 1 res
    have hzero : byteAt pl 0 = tag := byteAt_tag htag _
    have hone : byteAt pl 1 = k := (byteAt_toBytes_one k).trans (Nat.mod_eq_of_lt (by omega))
    have htwo : byteAt pl 2 = res := (byteAt_toBytes_one res).trans (Nat.mod_eq_of_lt (by omega))
    obtain ⟨result, hresult⟩ := pullResultOf_isSome hres1 hres4
    rw [← htwo] at hresult
    refine ⟨fun hfolded => ?_, fun e r he hstage hr hpulls => ?_⟩
    · exact exec_due_outOfOrder (k := .pullResult) hdue rfl rfl
        (pullResultBody_outOfOrder (s := s.dropFrame .track) hresult (by omega) (by rw [hzero]; exact hfolded))
    · exact exec_due_unchanged (k := .pullResult) (r := refuse .notPlanned) hdue rfl rfl
        (pullResultBody_notPlanned (s := s.dropFrame .track) hresult (by omega) (by rw [hzero]; exact he) hstage hr
          (by rw [hone]; exact hpulls))
  · rcases hrange with ⟨rfl, h⟩ | ⟨rfl, h⟩ | ⟨rfl | rfl, h⟩ | ⟨rfl, h⟩ | ⟨rfl, h⟩
    · exact exec_track_badArg hdue rfl (foldedBody_badArg h)
    · exact exec_track_badArg hdue rfl (pullResultBody_badArg h)
    · exact exec_track_badArg hdue rfl (envelopedBody_badArg h)
    · exact exec_track_badArg hdue rfl (atGateBody_badArg h)
    · exact exec_track_badArg hdue rfl (weighedBody_badArg h)
    · exact exec_track_badArg hdue rfl (exitedBody_badArg h)
end

section
/-! What keeps the track queue bounded and in stage order: the operations that leave the queue and the stall alone. -/

namespace Sys2Proof.Machine

/-- From `s` to `t` the bounds of the track queue stand, and within them its stage order (R99 to R102, R107, R151). -/
structure State.KeepsTrack (s t : State) : Prop where
  bounded : TrackBounded s → TrackBounded t
  ordered : TrackBounded s → StagesOrdered s → StagesOrdered t

section
variable {s t u : State}

theorem State.KeepsTrack.trans (h : s.KeepsTrack t) (h' : t.KeepsTrack u) : s.KeepsTrack u :=
  ⟨fun hb => h'.bounded (h.bounded hb), fun hb ho => h'.ordered (h.bounded hb) (h.ordered hb ho)⟩

/-- The bounds and the stage order speak of the queue and of the stall alone. -/
theorem State.KeepsTrack.of_eq (ht : t.track = s.track) (hs : t.bins.stall = s.bins.stall) : s.KeepsTrack t :=
  ⟨fun hb => by simpa only [TrackBounded, ht] using hb, fun _ ho => by simpa only [StagesOrdered, ht, hs] using ho⟩

theorem State.KeepsTrack.of_promises (ht : t.track = s.track) (hp : t.bins.promises = s.bins.promises) :
    s.KeepsTrack t := .of_eq ht (BinManager.stall_eq_of_promises hp)

theorem State.KeepsTrack.refl (s : State) : s.KeepsTrack s := .of_eq rfl rfl

/-- Entries that leave the queue leave it within its bounds. -/
theorem TrackBounded.of_sublist (h : TrackBounded s)
    (ht : List.Sublist (t.track.entries.map TrackEntry.tag) (s.track.entries.map TrackEntry.tag))
    (ha : t.track.allocator = s.track.allocator) : TrackBounded t := by
  obtain ⟨hlength, hnodup, htags, halloc⟩ := h
  refine ⟨by simpa using ht.length_le.trans (by simpa using hlength), ht.nodup hnodup, fun e he => ?_, ha ▸ halloc⟩
  obtain ⟨e', he', heq⟩ := List.mem_map.1 (ht.subset (List.mem_map_of_mem he))
  exact heq ▸ htags e' he'

/-- A queue emptied, with no entry stalled, is bounded and in order. -/
theorem State.KeepsTrack.of_empty (ht : t.track.entries = []) (ha : t.track.allocator ≤ s.track.allocator)
    (hs : t.bins.stall = none) : s.KeepsTrack t :=
  ⟨fun ⟨_, _, _, h⟩ => by simp only [TrackBounded, ht]; exact ⟨by simp, by simp, by simp, ha.trans h⟩,
    fun _ _ => by simp [StagesOrdered, ht, hs]⟩

end

/-! ### The Bin Manager told of the sorter head (R141, R142) -/

section
variable (s : State)

@[simp] theorem State.applyStatusToBin_promises (w : Half) (b : Nat) :
    (s.applyStatusToBin w b).bins.promises = s.bins.promises := by
  unfold State.applyStatusToBin
  dsimp only
  (repeat' split) <;> simp

@[simp] theorem State.applySorterStatus_promises (w : Half) :
    (s.applySorterStatus w).bins.promises = s.bins.promises :=
  foldl_keeps _ (fun s => s.bins.promises) (by simp) binNumbers s

@[simp] theorem State.sorterLost_promises : s.sorterLost.bins.promises = s.bins.promises :=
  foldl_keeps _ (fun s => s.bins.promises) (fun s b => by split <;> simp) binNumbers s

@[simp] theorem State.sorterReturned_promises (w : Half) :
    (s.sorterReturned w).bins.promises = s.bins.promises :=
  (State.applySorterStatus_promises _ w).trans
    (foldl_keeps _ (fun s => s.bins.promises) (fun s b => by split <;> simp) binNumbers s)

@[simp] theorem State.sorterMoved_promises (old : Option Nat) :
    (s.sorterMoved old).bins.promises = s.bins.promises := by
  unfold State.sorterMoved
  (repeat' split) <;> simp

@[simp] theorem State.tellOwner_promises (change : HeadChange) (a : Nat) :
    (s.tellOwner change a).bins.promises = s.bins.promises := by
  unfold State.tellOwner State.sorterReport
  (repeat' split) <;> simp

@[simp] theorem State.dispatch_promises (change : HeadChange) (a : Nat) :
    (s.dispatch change a).bins.promises = s.bins.promises := by simp [State.dispatch]

/-- The end of a transaction reaches the bins by way of the dispatch alone (R166, R173). -/
@[simp] theorem State.endOf_promises (x : Transaction) (o : LineOutcome) (data : Option Half) :
    (s.endOf x o data).bins.promises = s.bins.promises := by
  have hsilence (u : State) (a : Nat) : (u.silence a).bins.promises = u.bins.promises := by simp [State.silence]
  have hfailed (u : State) (a : Nat) : (u.pollFailed a).bins.promises = u.bins.promises := by
    unfold State.pollFailed
    dsimp only
    split <;> simp [hsilence]
  have hread (u : State) (a : Nat) (w : Half) : (u.statusRead a w).bins.promises = u.bins.promises := by
    unfold State.statusRead
    dsimp only
    split <;> simp
  have hpoll (u : State) (a : Nat) (w : Option Half) : (u.statusPollEnd a w).bins.promises = u.bins.promises := by
    unfold State.statusPollEnd
    split <;> simp [hfailed, hread]
  have hidentify (u : State) (a : Nat) (w : Half) : (u.identify a w).bins.promises = u.bins.promises := by
    unfold State.identify
    dsimp only
    (repeat' split) <;> simp
  have hidentity (u : State) (a : Nat) (w : Option Half) : (u.identityReadEnd a w).bins.promises = u.bins.promises := by
    unfold State.identityReadEnd
    split <;> simp [hidentify]
  unfold State.endOf
  (repeat' split) <;> simp [hpoll, hidentity]

@[simp] theorem State.withHeadMap_promises (m : Vector HeadKind 16) (enable : Bool) :
    (s.withHeadMap m enable).bins.promises = s.bins.promises := by
  unfold State.withHeadMap
  dsimp only
  split <;> simp

end

/-! ### Runs and collations -/

section
variable (s : State)

theorem State.closeNow_promises : s.closeNow.bins.promises = s.bins.promises := by
  simp [State.closeNow, State.closeAllTrays_promises]

theorem State.closeRun_promises : s.closeRun.bins.promises = s.bins.promises := by
  unfold State.closeRun
  dsimp only
  split
  · exact (State.closeNow_promises _).trans (State.finishAll_promises _ _ _)
  · exact State.finishAll_promises _ _ _

theorem State.amend_promises (a : Amendment) (m : MakeUp) (r : Piece) :
    (s.amend a m r).bins.promises = s.bins.promises := by
  unfold State.amend
  dsimp only
  split <;> simp

theorem State.judgeSheet_promises (sh : SheetReport) : (s.judgeSheet sh).1.bins.promises = s.bins.promises := by
  have hstart (u : State) : (u.startSheet sh).1.bins.promises = u.bins.promises := by
    unfold State.startSheet
    (repeat' split) <;> simp [State.finishAll_promises]
  unfold State.judgeSheet
  (repeat' split) <;> simp [hstart]

theorem State.resyncTo_promises (id : PieceId) : (s.resyncTo id).bins.promises = s.bins.promises := by
  simp [State.resyncTo, State.finishAll_promises]

theorem State.emptyReady_promises : s.emptyReady.bins.promises = s.bins.promises := State.drainTest_promises _

/-- An exit changes the reservations, and not the stall (R153, R154). -/
theorem State.applyExit_stall (e : TrackEntry) (d reported : GateDecision) :
    (s.applyExit e d reported).bins.stall = s.bins.stall := by
  have hfinish (u : State) (id : PieceId) (d : Disposition) : (u.finish id d).bins.stall = u.bins.stall :=
    BinManager.stall_eq_of_promises State.finish_promises
  have hclose (u : State) (b : Nat) : (u.closeIfEmptied b).bins.stall = u.bins.stall :=
    BinManager.stall_eq_of_promises (State.closeIfEmptied_promises _ _)
  unfold State.applyExit State.exitIntoBin State.exitDiverted State.releaseReservation
  (repeat' split) <;> simp [hfinish, hclose] <;> rfl

end

/-! ### The gate decision leaves the stall -/

section
variable (s : State)

theorem State.reserve_stall (b tag m : Nat) : (s.reserve b tag m).bins.stall = s.bins.stall := by
  unfold State.reserve
  dsimp only
  split
  · exact (BinManager.stall_eq_of_promises (State.beginClosing_promises _ _ _)).trans rfl
  · rfl

theorem State.openOrStall_stall (g : TrayGroup) (tag m : Nat) :
    (s.openOrStall g tag m).1.bins.stall = s.bins.stall := by
  unfold State.openOrStall
  split
  · exact (State.reserve_stall _ _ _ _).trans
      ((BinManager.stall_eq_of_promises (State.setBinState_promises _ _ _)).trans rfl)
  · rfl

theorem State.placeInTray_stall (g : TrayGroup) (tag m : Nat) :
    (s.placeInTray g tag m).1.bins.stall = s.bins.stall := by
  have hclose (b : Nat) (reason : CloseReason) : (s.beginClosing b reason).bins.stall = s.bins.stall :=
    BinManager.stall_eq_of_promises (State.beginClosing_promises _ _ _)
  unfold State.placeInTray
  (repeat' split) <;> simp only [State.openOrStall_stall, State.reserve_stall, hclose]

theorem State.decideEntry_stall (e : TrackEntry) : (s.decideEntry e).1.bins.stall = s.bins.stall := by
  unfold State.decideEntry State.gateDecision
  (repeat' split)
  · rfl
  · rw [State.placeInTray_stall, State.levelAnswer_bins]
  · rfl

end

end Sys2Proof.Machine
end

section
/-! The stage order at the gate (R102, R107, R109, R151, R152): stage reports, the hand-on, the stall and the
re-evaluation keep it. -/

namespace Sys2Proof.Machine

theorem Stage.rank_le_gated (st : Stage) : st.rank ≤ Stage.gated.rank := by cases st <;> decide

/-! ### The tags stand -/

section
variable (s : State)

@[simp] theorem State.setGated_tags (tag : Nat) (d : GateDecision) :
    (s.setGated tag d).track.entries.map TrackEntry.tag = s.track.entries.map TrackEntry.tag :=
  State.onEntry_tags fun _ => rfl

@[simp] theorem State.setStage_tags (tag : Nat) (st : Stage) :
    (s.setStage tag st).track.entries.map TrackEntry.tag = s.track.entries.map TrackEntry.tag :=
  State.onEntry_tags fun _ => rfl

@[simp] theorem State.recordStall_tags (tag : Nat) (g : TrayGroup) :
    (s.recordStall tag g).track.entries.map TrackEntry.tag = s.track.entries.map TrackEntry.tag := by
  unfold State.recordStall
  rw [(State.notifyBoth_fields _ _).2.2.2.2.1]
  exact State.onEntry_tags fun _ => rfl

@[simp] theorem State.handOn_tags (ts : List Nat) :
    (s.handOn ts).track.entries.map TrackEntry.tag = s.track.entries.map TrackEntry.tag :=
  (State.handOn_gateKeeps ts).1

end

/-! ### Queues with GATED entries in front -/

section
variable {s t u : State} {older rest : List TrackEntry} {e : TrackEntry} {d : GateDecision}

/-- Later stages stand in front (R102). -/
def StagesFall (es : List TrackEntry) : Prop := es.Pairwise fun x y => y.stage.rank ≤ x.stage.rank

/-- GATED entries may stand in front of a queue in stage order. -/
theorem StagesFall.append (hold : ∀ x ∈ older, x.stage = .gated) (h : StagesFall rest) :
    StagesFall (older ++ rest) := by
  have hfront (x) (hx : x ∈ older) (y : TrackEntry) : y.stage.rank ≤ x.stage.rank := by
    rw [hold x hx]
    exact y.stage.rank_le_gated
  have hold : StagesFall older :=
    List.pairwise_iff_forall_sublist.2 fun {x y} hxy => hfront x (hxy.subset (by simp)) y
  exact List.pairwise_append.2 ⟨hold, h, fun x hx y _ => hfront x hx y⟩

/-- With no entry stalled, GATED entries in front of others in order make a queue in order. -/
theorem StagesOrdered.of_front (h : s.track.entries = older ++ rest) (hold : ∀ x ∈ older, x.stage = .gated)
    (hrest : StagesFall rest) (hs : s.bins.stall = none) : StagesOrdered s :=
  ⟨h ▸ hrest.append hold, fun w hw => by simp [hs] at hw⟩

/-- The first entry behind GATED ones may stall at the gate (R107, R151). -/
theorem StagesOrdered.recordStall {g : TrayGroup} (h : s.track.entries = older ++ e :: rest)
    (hn : (s.track.entries.map TrackEntry.tag).Nodup) (hold : ∀ x ∈ older, x.stage = .gated)
    (hrest : StagesFall (e :: rest)) (he : e.stage = .atGate) : StagesOrdered (s.recordStall e.tag g) := by
  have hentries : (s.recordStall e.tag g).track.entries = older ++ { e with stalled := true } :: rest := by
    unfold State.recordStall
    rw [(State.notifyBoth_fields _ _).2.2.2.2.1]
    exact State.onEntry_of_split _ h hn
  have hstall : (s.recordStall e.tag g).bins.stall = some ⟨e.tag, g⟩ := by
    unfold State.recordStall
    rw [(State.notifyBoth_fields _ _).2.2.2.2.2.2.1]
    rfl
  obtain ⟨hhead, htail⟩ := List.pairwise_cons.1 hrest
  refine ⟨hentries ▸ StagesFall.append hold (List.pairwise_cons.2 ⟨hhead, htail⟩), fun w hw => ?_⟩
  rw [hstall] at hw
  cases hw
  exact ⟨older, _, rest, hentries, rfl, he, rfl, hold⟩

/-- The hand-on behind GATED entries keeps the stage order: each entry it decides is GATED in its turn, and one that
stalls has GATED entries alone in front of it (R109). -/
theorem State.handOn_ordered (h : s.track.entries = older ++ rest) (hn : (s.track.entries.map TrackEntry.tag).Nodup)
    (hold : ∀ x ∈ older, x.stage = .gated) (hrest : StagesFall rest) (hs : s.bins.stall = none) :
    StagesOrdered (s.handOn (rest.map TrackEntry.tag)) := by
  induction rest generalizing s older with
  | nil => exact .of_front h hold hrest hs
  | cons x rest ih =>
    have hstall : (s.decideEntry x).1.bins.stall = none := (State.decideEntry_stall s x).trans hs
    have htrack : (s.decideEntry x).1.track = s.track := by simp
    simp only [List.map_cons, State.handOn, State.entry?_of_split h hn]
    split
    · next hgate =>
      obtain ⟨hstage, -⟩ := by simpa only [Bool.and_eq_true, beq_iff_eq] using hgate
      split
      · next d _ =>
        have hnext : (((s.decideEntry x).1.setGated x.tag d).notify .track (.gateGo x.tag d)).track.entries
            = (older ++ [x.gate d]) ++ rest := by
          rw [(State.notify_fields _ _ _).2.2.2.2.1,
            State.setGated_of_split d (by rw [htrack]; exact h) (by rw [htrack]; exact hn)]
          simp
        refine ih hnext ?_ ?_ (List.pairwise_cons.1 hrest).2 (by simpa using hstall)
        · rw [hnext]
          simpa [h, TrackEntry.gate] using hn
        · simpa [or_imp, forall_and, TrackEntry.gate] using hold
      · exact .recordStall (by rw [htrack]; exact h) (by rw [htrack]; exact hn) hold hrest hstage
    · exact .of_front h hold hrest hs

/-- The queue of a state in which an entry has been GATED. -/
theorem State.gated_values (h : s.track.entries = older ++ e :: rest)
    (hn : (s.track.entries.map TrackEntry.tag).Nodup)
    (ht : t.track.entries = (s.setGated e.tag d).track.entries) :
    t.track.entries = (older ++ [e.gate d]) ++ rest ∧ (t.track.entries.map TrackEntry.tag).Nodup
      ∧ t.younger e.tag = rest.map TrackEntry.tag := by
  have hnodup : (t.track.entries.map TrackEntry.tag).Nodup := by rwa [ht, State.setGated_tags]
  rw [State.setGated_of_split d h hn] at ht
  exact ⟨by simpa using ht, hnodup, State.younger_of_split (e := e.gate d) ht hnodup⟩

/-- The hand-on that follows a decision: the entry decided is GATED, and those behind it follow (R109). -/
theorem State.handOn_behind_ordered (h : s.track.entries = older ++ e :: rest)
    (hn : (s.track.entries.map TrackEntry.tag).Nodup) (hold : ∀ x ∈ older, x.stage = .gated) (hrest : StagesFall rest)
    (ht : t.track.entries = (s.setGated e.tag d).track.entries) (hs : t.bins.stall = none) :
    StagesOrdered (t.handOn (rest.map TrackEntry.tag)) := by
  obtain ⟨hentries, hnodup, -⟩ := State.gated_values h hn ht
  exact State.handOn_ordered hentries hnodup (by simpa [or_imp, forall_and, TrackEntry.gate] using hold) hrest hs

end

/-! ### The re-evaluation (R152) -/

section
variable {s : State} {a : Bool}

/-- The stall ends with a decision: the entry is GATED, and the decision sent as GATE_GO when it is to be announced
(R108, R152). -/
def State.endStallAs (announce : Bool) (tag : Nat) (d : GateDecision) (s : State) : State :=
  let s1 := (s.onBins fun m => { m with stall := none }).setGated tag d
  if announce then s1.notify .track (.gateGo tag d) else s1

theorem State.endStallAs_values (tag : Nat) (d : GateDecision) :
    (s.endStallAs a tag d).track.entries = (s.setGated tag d).track.entries
      ∧ (s.endStallAs a tag d).bins = { s.bins with stall := none } := by
  unfold State.endStallAs
  cases a <;> simp [State.setGated, State.onEntry]

/-- What a re-evaluation can do: nothing, the level answer of an entry that stalls again, or a decision and the hand-on
behind it (R152). -/
theorem State.reevaluate_cases (a : Bool) (s : State) :
    (s.reevaluate a = (s, none)) ∨ (∃ x e g, s.bins.stall = some x ∧ s.entry? x.tag = some e
        ∧ (s.decideEntry e).2 = .stall g ∧ s.reevaluate a = (s.levelAsked e, none))
      ∨ ∃ x e d, s.bins.stall = some x ∧ s.entry? x.tag = some e ∧ (s.decideEntry e).2 = .decided d
        ∧ s.reevaluate a = (((s.decideEntry e).1.endStallAs a x.tag d).handOn
            (((s.decideEntry e).1.endStallAs a x.tag d).younger x.tag), some d) := by
  cases hx : s.bins.stall with
  | none => exact .inl (State.reevaluate_of_no_stall a hx)
  | some x =>
    cases he : s.entry? x.tag with
    | none => exact .inl (by simp only [State.reevaluate, hx, he])
    | some e =>
      cases hd : (s.decideEntry e).2 with
      | stall g => exact .inr (.inl ⟨x, e, g, rfl, he, hd, by simp only [State.reevaluate, hx, he, hd]⟩)
      | decided d => exact .inr (.inr ⟨x, e, d, rfl, he, hd, by simp only [State.reevaluate, hx, he, hd]; rfl⟩)

theorem State.reevaluate_tags (a : Bool) (s : State) :
    (s.reevaluate a).1.track.entries.map TrackEntry.tag = s.track.entries.map TrackEntry.tag := by
  rcases s.reevaluate_cases a with h | ⟨x, e, g, -, -, -, h⟩ | ⟨x, e, d, -, -, -, h⟩ <;> rw [h]
  · simp
  · simp [State.endStallAs_values]

theorem State.reevaluate_keepsTrack (a : Bool) (s : State) : s.KeepsTrack (s.reevaluate a).1 := by
  refine ⟨fun hb => hb.of_sublist (by rw [State.reevaluate_tags]) (State.reevaluate_allocator _ _), fun hb ho => ?_⟩
  rcases s.reevaluate_cases a with h | ⟨x, e, g, -, -, -, h⟩ | ⟨x, e, d, hx, he, hd, h⟩ <;> rw [h]
  · exact ho
  · exact (State.KeepsTrack.of_eq (by simp) (by rw [State.levelAsked_bins])).ordered hb ho
  · obtain ⟨hfall, hstalled⟩ := ho
    obtain ⟨-, hn, -⟩ := hb
    obtain ⟨older, e', rest, hsplit, htag, hstage, -, hold⟩ := hstalled x hx
    have htrack : (s.decideEntry e).1.track = s.track := by simp
    rw [← htag] at he ⊢
    obtain ⟨-, htail, -⟩ := List.pairwise_append.1 (hsplit ▸ hfall)
    obtain ⟨hentries, hbins⟩ := State.endStallAs_values (s := (s.decideEntry e).1) (a := a) e'.tag d
    rw [← htrack] at hsplit hn
    rw [(State.gated_values hsplit hn hentries).2.2]
    exact State.handOn_behind_ordered hsplit hn hold (List.pairwise_cons.1 htail).2 hentries (by rw [hbins])

theorem State.afterEvent_keepsTrack (s before : State) : s.KeepsTrack (s.afterEvent before) := by
  unfold State.afterEvent
  split
  · exact s.reevaluate_keepsTrack true
  · exact .refl s

end

/-! ### A stage report (R102, R103) -/

section
variable {s : State} {st : Stage} {tag : Nat} {e : TrackEntry}

/-- The entry a stage report moves: the oldest one short of the stage, at the stage before it (R103). -/
theorem State.movable_spec (h : s.movable st tag = some e) :
    e.tag = tag ∧ e.stage = s.precedingStage st ∧ ∃ pre post, s.track.entries = pre ++ e :: post
      ∧ (∀ x ∈ pre, st.rank ≤ x.stage.rank) ∧ e.stage.rank < st.rank := by
  unfold State.movable at h
  cases hexpected : s.expectedEntry st with
  | none => simp [hexpected] at h
  | some e' =>
    simp only [hexpected] at h
    split at h
    · next hnamed =>
      cases h
      obtain ⟨htag, hstage⟩ := by simpa only [Bool.and_eq_true, beq_iff_eq] using hnamed
      rw [State.expectedEntry_eq] at hexpected
      obtain ⟨hshort, pre, post, hsplit, hpre⟩ := List.find?_eq_some_iff_append.1 hexpected
      exact ⟨htag, hstage, pre, post, hsplit, by simpa using hpre, by simpa using hshort⟩
    · cases h

/-- Of two different entries of a queue, one that is not in front of the other stands behind it. -/
theorem split_behind {pre post pre' post' : List TrackEntry} {e' : TrackEntry}
    (h : pre ++ e :: post = pre' ++ e' :: post') (hne : e ≠ e') (hout : e ∉ pre') :
    ∃ between, pre = pre' ++ e' :: between ∧ post' = between ++ e :: post := by
  rcases List.append_eq_append_iff.1 h with ⟨c, rfl, hc⟩ | ⟨c, rfl, hc⟩
  · cases c with
    | nil => exact absurd (List.cons.inj hc).1 hne
    | cons x c =>
      obtain ⟨rfl, -⟩ := List.cons.inj hc
      exact absurd (by simp) hout
  · cases c with
    | nil => exact absurd (List.cons.inj hc).1.symm hne
    | cons x c =>
      obtain ⟨rfl, rfl⟩ := List.cons.inj hc
      exact ⟨c, rfl, rfl⟩

/-- A stalled entry stands in front of one that has not reached the gate. -/
theorem StagesOrdered.stalled_before (ho : StagesOrdered s) {pre post : List TrackEntry}
    (h : s.track.entries = pre ++ e :: post) (he : e.stage.rank < Stage.atGate.rank) {w : Stall}
    (hw : s.bins.stall = some w) : ∃ older e' between, pre = older ++ e' :: between ∧ e'.tag = w.tag
      ∧ e'.stage = .atGate ∧ e'.stalled = true ∧ ∀ x ∈ older, x.stage = .gated := by
  obtain ⟨older, e', rest, hsplit, htag, hstage, hstalled, hold⟩ := ho.2 w hw
  have hne : e ≠ e' := by
    rintro rfl
    simp [hstage] at he
  have hout : e ∉ older := fun hmem => by simp [hold e hmem, Stage.rank] at he
  obtain ⟨between, hpre, -⟩ := split_behind (h.symm.trans hsplit) hne hout
  exact ⟨older, e', between, hpre, htag, hstage, hstalled, hold⟩

theorem State.setStage_keepsTrack (h : s.movable st tag = some e) (hst : st.rank ≤ Stage.atGate.rank) :
    s.KeepsTrack (s.setStage tag st) := by
  obtain ⟨htag, -, pre, post, hsplit, hpre, hshort⟩ := State.movable_spec h
  refine ⟨fun hb => hb.of_sublist (by rw [State.setStage_tags]) rfl, fun hb ho => ?_⟩
  obtain ⟨-, hn, -⟩ := hb
  have hentries : (s.setStage tag st).track.entries = pre ++ { e with stage := st } :: post := by
    rw [← htag]
    exact State.onEntry_of_split _ hsplit hn
  have hfall := ho.1
  rw [hsplit] at hfall
  obtain ⟨hfront, hrest, hcross⟩ := List.pairwise_append.1 hfall
  obtain ⟨hbehind, htail⟩ := List.pairwise_cons.1 hrest
  refine ⟨?_, fun w hw => ?_⟩
  · rw [hentries]
    refine List.pairwise_append.2 ⟨hfront, List.pairwise_cons.2 ⟨fun y hy => (hbehind y hy).trans hshort.le, htail⟩,
      fun x hx y hy => ?_⟩
    rcases List.mem_cons.1 hy with rfl | hy
    · exact hpre x hx
    · exact hcross x hx y (List.mem_cons_of_mem _ hy)
  · obtain ⟨older, e', between, rfl, hrest⟩ := ho.stalled_before hsplit (hshort.trans_le hst) hw
    exact ⟨older, e', between ++ { e with stage := st } :: post, by simpa using hentries, hrest⟩

end

/-! ### AT_GATE (R107, R108) -/

section
variable {s : State} {tag : Nat} {e : TrackEntry}

/-- The entries in front of one, when they are all GATED. -/
theorem State.olderGated_of_split {pre post : List TrackEntry} (h : s.track.entries = pre ++ e :: post)
    (hn : (s.track.entries.map TrackEntry.tag).Nodup) :
    s.olderGated e.tag = true ↔ ∀ x ∈ pre, x.stage = .gated := by
  rw [h, List.map_append, List.map_cons, List.nodup_middle, List.nodup_cons, ← List.map_append, List.mem_map] at hn
  have hold : ∀ x ∈ pre, (x.tag != e.tag) = true := fun x hx => by
    simpa using fun hxe => hn.1 ⟨x, List.mem_append_left _ hx, hxe⟩
  simp [State.olderGated, h, List.takeWhile_append_of_pos hold]

theorem State.decideAtGate_tags (tag : Nat) (s : State) :
    (s.decideAtGate tag).1.track.entries.map TrackEntry.tag = s.track.entries.map TrackEntry.tag
      ∧ (s.decideAtGate tag).1.track.allocator = s.track.allocator := by
  unfold State.decideAtGate
  split
  · exact ⟨rfl, rfl⟩
  · dsimp only
    split
    · exact ⟨by simp, by simp⟩
    · exact ⟨by simp, by simp⟩

theorem State.decideAtGate_ordered {older rest : List TrackEntry} (h : s.track.entries = older ++ e :: rest)
    (hn : (s.track.entries.map TrackEntry.tag).Nodup) (hold : ∀ x ∈ older, x.stage = .gated)
    (hrest : StagesFall (e :: rest)) (he : e.stage = .atGate) (hs : s.bins.stall = none) :
    StagesOrdered (s.decideAtGate e.tag).1 := by
  have htrack : (s.decideEntry e).1.track = s.track := by simp
  have hstall : (s.decideEntry e).1.bins.stall = none := (State.decideEntry_stall s e).trans hs
  simp only [State.decideAtGate, State.entry?_of_split h hn]
  rw [← htrack] at h hn
  split
  · next d _ =>
    rw [State.younger_of_split h hn]
    exact State.handOn_behind_ordered (d := d) h hn hold (List.pairwise_cons.1 hrest).2 rfl (by simpa using hstall)
  · exact .recordStall h hn hold hrest he

theorem State.reachGate_keepsTrack (h : s.movable .atGate tag = some e) : s.KeepsTrack (s.reachGate tag).1 := by
  have hmove := State.setStage_keepsTrack h le_rfl
  unfold State.reachGate
  split
  · next hgated =>
    refine ⟨fun hb => (hmove.bounded hb).of_sublist (by rw [(State.decideAtGate_tags _ _).1])
      (State.decideAtGate_tags _ _).2, fun hb ho => ?_⟩
    obtain ⟨htag, -, pre, post, hsplit, -, hshort⟩ := State.movable_spec h
    have hn := hb.2.1
    subst htag
    rw [State.olderGated_of_split hsplit hn] at hgated
    have hnone : s.bins.stall = none := by
      cases hw : s.bins.stall with
      | none => rfl
      | some w =>
        obtain ⟨older, e', between, rfl, -, hstage, -⟩ := ho.stalled_before hsplit hshort hw
        simp [hgated e' (by simp)] at hstage
    have hentries : (s.setStage e.tag .atGate).track.entries = pre ++ { e with stage := .atGate } :: post :=
      State.onEntry_of_split _ hsplit hn
    have hfall := (hmove.ordered hb ho).1
    rw [hentries] at hfall
    exact State.decideAtGate_ordered (e := { e with stage := .atGate }) hentries (hmove.bounded hb).2.1 hgated
      (List.pairwise_append.1 hfall).2.1 rfl hnone
  · exact hmove

theorem State.repeatGate_keepsTrack (e : TrackEntry) (s : State) : s.KeepsTrack (s.repeatGate e).1 := by
  unfold State.repeatGate
  split
  · exact s.reevaluate_keepsTrack false
  · exact .refl s

end

end Sys2Proof.Machine
end

section
/-! Every command keeps the track queue bounded and in stage order (R99 to R102, R107, R151). -/

namespace Sys2Proof.Machine

/-! ### Entries that join and leave (R100, R101, R111, R114) -/

section
variable {s : State}

/-- The GATED entry of a tag leaves the queue (R111). -/
theorem State.removeEntry_keepsTrack {e : TrackEntry} (he : e ∈ s.track.entries) (hg : e.stage = .gated) :
    s.KeepsTrack (s.removeEntry e.tag) := by
  have hsub : List.Sublist (s.removeEntry e.tag).track.entries s.track.entries := List.filter_sublist
  refine ⟨fun hb => hb.of_sublist (hsub.map _) rfl, fun hb ho => ⟨ho.1.sublist hsub, fun w hw => ?_⟩⟩
  obtain ⟨pre, x, post, hsplit, htag, hstage, hstalled, hpre⟩ := ho.2 w hw
  have hne : x.tag ≠ e.tag := fun h => by
    have hxe : x = e := List.inj_on_of_nodup_map hb.2.1 (by simp [hsplit]) he h
    simp [hxe, hg] at hstage
  refine ⟨pre.filter fun y => y.tag != e.tag, x, post.filter fun y => y.tag != e.tag, ?_, htag, hstage, hstalled,
    fun y hy => hpre y (List.mem_of_mem_filter hy)⟩
  simp [State.removeEntry, hsplit, hne]

theorem State.exitReport_keepsTrack {e : TrackEntry} (d reported : GateDecision) (he : e ∈ s.track.entries)
    (hg : e.stage = .gated) : s.KeepsTrack (s.exitReport e d reported) := by
  have htrack : (s.applyExit e d reported).track = s.track := by simp
  have hexit : s.KeepsTrack (s.applyExit e d reported) := .of_eq htrack (s.applyExit_stall e d reported)
  have hleave := State.removeEntry_keepsTrack (s := s.applyExit e d reported) (by rwa [htrack]) hg
  unfold State.exitReport
  refine (hexit.trans hleave).trans (.of_promises (by simp) ?_)
  rw [State.drainTest_promises, (State.testTrackHold_frame _).2.2.2.2.2.1]

theorem State.purgeAll_keepsTrack : s.KeepsTrack s.purgeAll := by
  have htrack : s.purgeAll.track = (s.endStall.purgeEntries s.track.entries).track := by simp [State.purgeAll]
  rw [State.purgeEntries_track] at htrack
  refine .of_empty ?_ (by rw [htrack]; rfl) State.purgeAll_promises.1
  rw [htrack, List.filter_eq_nil_iff]
  intro x hx
  obtain ⟨y, hy, rfl⟩ := List.mem_map.1 hx
  simpa using ⟨y, hy, rfl⟩

/-- A FOLD verdict appends a RELEASED entry under a free tag, while the queue has room (R46, R100, R101). -/
theorem State.foldPiece_keepsTrack (r : Piece) (h : s.track.entries.length < 32) : s.KeepsTrack (s.foldPiece r) := by
  obtain ⟨k, -, hnext, hfree, -⟩ := TrackQueue.nextTag_first (q := s.track) (by omega)
  have htrack : (s.foldPiece r).track
      = ⟨s.track.entries ++ [⟨s.track.nextTag, r.id, .released, false, none⟩],
        if s.track.nextTag == 63 then 0 else s.track.nextTag + 1⟩ := by
    simp [State.foldPiece]
  have hstall : (s.foldPiece r).bins.stall = s.bins.stall :=
    (BinManager.stall_eq_of_promises (State.emptyReady_promises _)).trans (by simp)
  have htag : s.track.nextTag ≤ 63 := by omega
  refine ⟨fun ⟨_, hn, htags, _⟩ => ?_, fun _ ⟨hfall, hstalled⟩ => ⟨?_, fun w hw => ?_⟩⟩
  · simp only [TrackBounded, htrack, List.length_append, List.length_singleton, List.map_append, List.map_cons,
      List.map_nil, List.mem_append, List.mem_singleton]
    refine ⟨h, List.nodup_append.2 ⟨hn, by simp, ?_⟩, ?_, ?_⟩
    · simpa using hfree
    · rintro e (he | rfl)
      · exact htags e he
      · exact htag
    · split
      · exact Nat.zero_le _
      · next hne =>
        rw [beq_iff_eq] at hne
        omega
  · rw [htrack]
    exact List.pairwise_append.2 ⟨hfall, List.pairwise_singleton _ _, fun x _ y hy => by
      simp [List.mem_singleton.1 hy, Stage.rank]⟩
  · obtain ⟨pre, e, post, hsplit, hrest⟩ := hstalled w (hstall ▸ hw)
    exact ⟨pre, e, post ++ [⟨s.track.nextTag, r.id, .released, false, none⟩], by simp [htrack, hsplit], hrest⟩

theorem State.releaseVerdict_keepsTrack (c : Collation) : s.KeepsTrack (s.releaseVerdict c).1 := by
  have hempty (u : State) : u.KeepsTrack u.emptyReady := .of_promises (by simp [State.emptyReady]) u.emptyReady_promises
  have hfinish (u : State) (id : PieceId) (d : Disposition) : u.KeepsTrack (u.finish id d) :=
    .of_promises (by simp) State.finish_promises
  have hcause (u : State) (id : PieceId) (x : Cause) : u.KeepsTrack (u.addCause id x) := .of_eq rfl rfl
  have hclean (r : Piece) (n : Nat) : s.KeepsTrack (s.releaseClean r n).1 := by
    unfold State.releaseClean
    split
    · split
      · exact .of_eq rfl rfl
      · exact ((hcause _ _ _).trans (hfinish _ _ _)).trans (hempty _)
    · split
      · exact .of_eq rfl rfl
      · exact State.foldPiece_keepsTrack r (by omega)
  unfold State.releaseVerdict
  split
  · exact hempty _
  · split
    · exact hempty _
    · split
      · exact (hfinish _ _ _).trans (hempty _)
      · exact hclean _ _

theorem State.runReset_keepsTrack : s.KeepsTrack s.runReset := by
  have htrack : s.runReset.track = TrackQueue.powerOn := by simp [State.runReset]
  have hclear (u : State) : u.clearBins.testAllCleared.bins.promises = u.bins.promises := by
    have hone (v : State) (b : Nat) : (v.clearBin b).bins.promises = v.bins.promises := by
      unfold State.clearBin
      split <;> simp
    have htwo (v : State) (b : Nat) : (v.testCleared b).bins.promises = v.bins.promises := by
      unfold State.testCleared
      split <;> simp
    exact (foldl_keeps _ (fun s => s.bins.promises) htwo _ _).trans (foldl_keeps _ (fun s => s.bins.promises) hone _ _)
  have hstall : s.runReset.bins.stall = none := by
    have hbins (u : State) : u.resetBins.bins.stall = none := by
      rw [State.resetBins, BinManager.stall_eq_of_promises (hclear _)]
      rfl
    have hfeeders (u : State) : u.resetFeeders.bins = u.bins := by simp [State.resetFeeders]
    simp only [State.runReset, (State.notifyBoth_fields _ _).2.2.2.2.2.2.1, hfeeders, hbins]
  exact .of_empty (by rw [htrack]; rfl) (by rw [htrack]; exact Nat.zero_le _) hstall

end

/-! ### Request bodies -/

section
variable (pl : List Byte) (s : State)

theorem State.refuseOrder_keepsTrack (st : Stage) : s.KeepsTrack (s.refuseOrder st).1 := .of_eq rfl rfl

theorem sheetBody_keepsTrack : s.KeepsTrack (sheetBody pl s).1 := by
  unfold sheetBody
  split
  · exact .refl s
  · split
    · exact .refl s
    · exact (State.KeepsTrack.of_promises (by simp) (s.judgeSheet_promises _)).trans (State.afterEvent_keepsTrack _ _)

theorem releaseBody_keepsTrack : s.KeepsTrack (releaseBody pl s).1 := by
  have hverdict (u : State) (c : Collation) : u.KeepsTrack ((u.releaseVerdict c).1.afterEvent s) :=
    (State.releaseVerdict_keepsTrack c).trans (State.afterEvent_keepsTrack _ _)
  have hflush (c : Collation) : s.KeepsTrack (s.flushForming c) := .of_eq (by simp) (by simp)
  unfold releaseBody
  dsimp only
  split
  · exact .refl s
  · split
    · exact hverdict _ _
    · split
      · exact .refl s
      · split
        · split
          · exact (hflush _).trans (hverdict _ _)
          · exact hflush _
        · exact .refl s

theorem resyncBody_keepsTrack : s.KeepsTrack (resyncBody pl s).1 := by
  have hresync (id : PieceId) : s.KeepsTrack (s.resyncTo id) := .of_promises (by simp) (s.resyncTo_promises id)
  unfold resyncBody
  (repeat' split)
  · exact .refl s
  · exact .refl s
  · exact (hresync _).trans (State.afterEvent_keepsTrack _ _)
  · exact .refl s

theorem foldedBody_keepsTrack : s.KeepsTrack (foldedBody pl s).1 := by
  unfold foldedBody
  dsimp only
  split
  · exact .refl s
  · split
    · exact s.refuseOrder_keepsTrack _
    · next e he =>
      have hmove := State.setStage_keepsTrack he (by decide)
      rw [← (State.movable_spec he).1] at hmove
      unfold State.foldReport
      dsimp only
      split
      · exact hmove
      · exact hmove.trans (.of_eq rfl rfl)

theorem envelopedBody_keepsTrack : s.KeepsTrack (envelopedBody pl s).1 := by
  unfold envelopedBody
  split
  · exact .refl s
  · split
    · exact s.refuseOrder_keepsTrack _
    · next e he =>
      have hmove := State.setStage_keepsTrack he (by decide)
      rw [← (State.movable_spec he).1] at hmove
      unfold State.envelopeReport
      dsimp only
      split
      · exact hmove
      · exact hmove.trans (.of_eq rfl rfl)

theorem weighedBody_keepsTrack : s.KeepsTrack (weighedBody pl s).1 := by
  unfold weighedBody
  split
  · exact .refl s
  · split
    · exact .refl s
    · split
      · exact .refl s
      · split
        · exact s.refuseOrder_keepsTrack _
        · next e he =>
          have hmove := State.setStage_keepsTrack he (by decide)
          rw [← (State.movable_spec he).1] at hmove
          unfold State.weighReport
          dsimp only
          split
          · exact hmove
          · exact hmove.trans (.of_eq rfl rfl)

theorem atGateBody_keepsTrack : s.KeepsTrack (atGateBody pl s).1 := by
  unfold atGateBody
  dsimp only
  split
  · exact .refl s
  · split
    · exact (s.repeatGate_keepsTrack _).trans (State.afterEvent_keepsTrack _ _)
    · split
      · exact s.refuseOrder_keepsTrack _
      · next e he => exact (State.reachGate_keepsTrack he).trans (State.afterEvent_keepsTrack _ _)

theorem exitedBody_keepsTrack : s.KeepsTrack (exitedBody pl s).1 := by
  have hraise : s.KeepsTrack (s.raise .outOfOrder) := .of_eq rfl rfl
  unfold exitedBody
  split
  · exact .refl s
  · next reported _ =>
    split
    · exact .refl s
    · dsimp only
      split
      · exact hraise
      · next e he =>
        split
        · exact hraise
        · next d _ =>
          split
          · exact hraise
          · next hnamed =>
            split
            · have hstage : e.stage = .gated := by
                simp only [Bool.or_eq_true, bne_iff_ne, not_or, not_not] at hnamed
                exact hnamed.2
              exact (State.exitReport_keepsTrack d reported (List.mem_of_head? he) hstage).trans
                (State.afterEvent_keepsTrack _ _)
            · exact .refl s

theorem purgeBody_keepsTrack : s.KeepsTrack (purgeBody pl s).1 := by
  unfold purgeBody
  split
  · exact State.purgeAll_keepsTrack.trans (State.afterEvent_keepsTrack _ _)
  · exact .refl s

theorem openRunBody_keepsTrack : s.KeepsTrack (openRunBody pl s).1 := by
  have hopen (n : Nat) : s.KeepsTrack (s.openRunWith n) := .of_eq (by simp) (by simp [State.openRunWith])
  unfold openRunBody
  (repeat' split)
  · exact .refl s
  · exact .refl s
  · exact hopen _

theorem closeRunBody_keepsTrack : s.KeepsTrack (closeRunBody pl s).1 := by
  have hclose : s.KeepsTrack s.closeRun := .of_promises (by simp) s.closeRun_promises
  unfold closeRunBody
  dsimp only
  split
  · exact hclose.trans (State.afterEvent_keepsTrack _ _)
  · exact .refl s

theorem loadPiecesBody_keepsTrack : s.KeepsTrack (loadPiecesBody pl s).1 := by
  have happend (ms : List (PieceSpec × MakeUp)) : s.KeepsTrack (s.appendAll ms) :=
    .of_promises (by simp) (s.appendAll_promises ms)
  unfold loadPiecesBody
  (repeat' split)
  · exact .refl s
  · exact .refl s
  · exact .refl s
  · exact (happend _).trans (State.afterEvent_keepsTrack _ _)

theorem amendPieceBody_keepsTrack : s.KeepsTrack (amendPieceBody pl s).1 := by
  have hamend (a : Amendment) (m : MakeUp) (r : Piece) : s.KeepsTrack (s.amend a m r) :=
    .of_promises (by simp) (s.amend_promises a m r)
  unfold amendPieceBody
  dsimp only
  (repeat' split)
  · exact .refl s
  · exact .refl s
  · exact .of_eq rfl rfl
  · exact .refl s
  · exact (hamend _ _ _).trans (State.afterEvent_keepsTrack _ _)

theorem State.setCancelPending_keepsTrack (id : PieceId) : s.KeepsTrack (s.setCancelPending id) := by
  have hpend : s.KeepsTrack (s.pendPiece id) := by
    unfold State.pendPiece
    split
    · exact .of_eq (by simp) (by simp)
    · exact .of_eq (by simp) (by simp)
  rw [State.setCancelPending_eq]
  split
  · exact hpend.trans (State.reevaluate_keepsTrack _ _)
  · exact hpend

theorem cancelPieceBody_keepsTrack : s.KeepsTrack (cancelPieceBody pl s).1 := by
  have hfinish (id : PieceId) : s.KeepsTrack (s.finish id .cancelled) := .of_promises (by simp) State.finish_promises
  unfold cancelPieceBody
  split
  · exact .refl s
  · split
    · exact .refl s
    · exact (hfinish _).trans (State.afterEvent_keepsTrack _ _)
    all_goals
      split
      · exact .refl s
      · split
        · exact .refl s
        · exact (s.setCancelPending_keepsTrack _).trans (State.afterEvent_keepsTrack _ _)

theorem ackTraysBody_keepsTrack : s.KeepsTrack (ackTraysBody pl s).1 := by
  have hdeliver (n : Nat) : s.KeepsTrack (s.ackDelivered n) :=
    .of_promises (State.ackDelivered_frame n s).1 (State.deliverWaiting_promises _ _)
  unfold ackTraysBody
  dsimp only
  split
  · exact .refl s
  · rw [State.ackTrays_eq]
    exact (hdeliver _).trans (State.reevaluate_keepsTrack _ _)

theorem setHeadMapBody_keepsTrack : s.KeepsTrack (setHeadMapBody pl s).1 := by
  have hmap (m : Vector HeadKind 16) (enable : Bool) : s.KeepsTrack (s.withHeadMap m enable) :=
    .of_promises (by simp) (by simp)
  unfold setHeadMapBody
  dsimp only
  (repeat' split)
  · exact .refl s
  · exact .refl s
  · exact (hmap _ _).trans (State.afterEvent_keepsTrack _ _)

theorem runResetBody_keepsTrack : s.KeepsTrack (runResetBody pl s).1 := by
  unfold runResetBody
  split
  · dsimp only
    exact State.runReset_keepsTrack
  · exact .refl s

end

/-- Every request body keeps the track queue bounded and in stage order. -/
theorem RequestKind.body_keepsTrack (k : RequestKind) (p : Port) (pl : List Byte) (s : State) :
    s.KeepsTrack (k.body p pl s).1 := by
  cases k
  case sheet => exact sheetBody_keepsTrack pl s
  case release => exact releaseBody_keepsTrack pl s
  case resync => exact resyncBody_keepsTrack pl s
  case folded => exact foldedBody_keepsTrack pl s
  case enveloped => exact envelopedBody_keepsTrack pl s
  case weighed => exact weighedBody_keepsTrack pl s
  case atGate => exact atGateBody_keepsTrack pl s
  case exited => exact exitedBody_keepsTrack pl s
  case purge => exact purgeBody_keepsTrack pl s
  case openRun => exact openRunBody_keepsTrack pl s
  case closeRun => exact closeRunBody_keepsTrack pl s
  case loadPieces => exact loadPiecesBody_keepsTrack pl s
  case amendPiece => exact amendPieceBody_keepsTrack pl s
  case cancelPiece => exact cancelPieceBody_keepsTrack pl s
  case ackTrays => exact ackTraysBody_keepsTrack pl s
  case setHeadMap => exact setHeadMapBody_keepsTrack pl s
  case runReset => exact runResetBody_keepsTrack pl s
  all_goals exact .of_eq (by simp [RequestKind.body, readBody]) (by simp [RequestKind.body, readBody])

/-! ### Commands and steps -/

section
variable {s t : State}

theorem State.endTransaction_keepsTrack (x : Transaction) (o : LineOutcome) (data : Option Half) (s : State) :
    s.KeepsTrack (s.endTransaction x o data) := by
  have hend : s.KeepsTrack ((s.onHeads fun h => { h with line := none }).endOf x o data) :=
    .of_promises (by simp) (by simp)
  unfold State.endTransaction
  exact (hend.trans (State.afterEvent_keepsTrack _ s)).trans (.of_eq (by simp) (by simp))

theorem serve_keepsTrack (k : RequestKind) (p : Port) (s : State) : s.KeepsTrack (serve k p (k.body p) s) := by
  have hdrop : s.KeepsTrack (s.dropFrame p) := .of_eq rfl rfl
  rcases serve_cases (body := k.body p) k p s with h | ⟨f, -, ⟨r, h⟩ | h⟩ <;> rw [h]
  · exact .refl s
  · exact hdrop.trans (.of_eq (by simp) (by simp))
  · exact (hdrop.trans (k.body_keepsTrack p (framePayload f) _)).trans (.of_eq (by simp) (by simp))

/-- The outcome of a command that is no request: the queue and the stall as they were, a power-on event, or the end of
a transaction on the head line. -/
theorem exec_event_track {c : Instr} (h : exec c s = .next t) (hc : ¬ ∃ k p, c = RequestKind.command k p) :
    (t.track = s.track ∧ t.bins.stall = s.bins.stall) ∨ t = s.powerOnReset ∨ t = s.loadEnd
      ∨ (∃ bs, t = s.headReply bs) ∨ t = s.windowExpiry := by
  rcases command_or_event c with ⟨k, p, rfl⟩ | ⟨p, bs, rfl⟩ | ⟨p, n, rfl⟩ | ⟨p, code, n, rfl⟩ | ⟨p, rfl⟩ | ⟨p, rfl⟩
    | ⟨r, rfl⟩ | rfl | rfl | ⟨bs, rfl⟩ | rfl
  case inl => exact absurd ⟨k, p, rfl⟩ hc
  all_goals simp only [exec, execSend, execFetch, execStatusTransfer, execBadFrame, execUnknownRequestKind, execSaveEnd,
    execPowerOnReset, execPowerOnLoadEnd, execHeadReply, execReplyWindowExpiry] at h
  · cases h
    refine .inl ⟨?_, by simp⟩
    unfold State.sendTransfer State.joinIntake
    dsimp only
    (repeat' split) <;> simp [State.shiftOut]
  · cases h
    refine .inl ⟨?_, by simp⟩
    unfold State.fetchTransfer
    dsimp only
    (repeat' split) <;> simp [State.shiftOut]
  · split at h <;> cases h <;> exact .inl (by simp [State.statusTransfer, State.shiftOut])
  · cases h
    refine .inl ⟨?_, by simp⟩
    unfold State.answerBroken
    (repeat' split) <;> simp
  · cases h
    refine .inl ⟨?_, by simp⟩
    unfold State.answerUnknown
    (repeat' split) <;> simp
  · cases h
    exact .inl (by simp)
  · cases h
    exact .inr (.inl rfl)
  · cases h
    exact .inr (.inr (.inl rfl))
  · split at h <;> cases h
    · exact .inr (.inr (.inr (.inl ⟨bs, rfl⟩)))
    · exact .inl (by simp)
  · cases h
    exact .inr (.inr (.inr (.inr rfl)))

/-- Every command keeps the track queue bounded and in stage order. -/
theorem exec_keepsTrack {c : Instr} (h : exec c s = .next t) : s.KeepsTrack t := by
  by_cases hc : ∃ k p, c = RequestKind.command k p
  · obtain ⟨k, p, rfl⟩ := hc
    rw [exec_command] at h
    cases h
    exact serve_keepsTrack k p s
  · have hreset (f : Profile) (fl : FlagSet) : s.KeepsTrack (s.powerOnValues f fl) :=
      .of_empty rfl (Nat.zero_le _) rfl
    rcases exec_event_track h hc with ⟨ht, hb⟩ | rfl | rfl | ⟨bs, rfl⟩ | rfl
    · exact .of_eq ht hb
    · exact (hreset s.profile 0).trans (.of_eq (by simp [State.powerOnReset]) (by simp [State.powerOnReset]))
    · unfold State.loadEnd
      split
      · exact (hreset (loadedProfile s.settings.stored) (loadFlags s.settings.stored)).trans
          (.of_eq (by simp) (by simp))
      · exact .refl s
    · unfold State.headReply
      split
      · exact .refl s
      · exact s.endTransaction_keepsTrack _ _ _
    · unfold State.windowExpiry
      split
      · exact .refl s
      · exact s.endTransaction_keepsTrack _ _ _

/-- Every step keeps the track queue bounded and in stage order. -/
theorem step_keepsTrack (h : step s = .next t) : s.KeepsTrack t := by
  unfold step at h
  split at h
  · cases h
    exact .refl s
  · next rest _ =>
    have hrest : s.KeepsTrack (s.withPending rest) := .of_eq rfl rfl
    exact hrest.trans (exec_keepsTrack h)

end

end Sys2Proof.Machine

open Sys2Proof Sys2Proof.Machine

/-- Settles O12: every request body, the end of a head-line transaction and power-on keep the queue bounded and in stage
order (`step_keepsTrack`). -/
theorem everyStepKeepsTheTrackBounded : Obligations.EveryStepKeepsTheTrackBounded :=
  ⟨fun _ _ hb h => (step_keepsTrack h).bounded hb, fun _ _ hb ho h => (step_keepsTrack h).ordered hb ho⟩
end

section
/-! FOLDED moves the oldest entry not yet folded (R103, R104). -/

namespace Sys2Proof.Machine

section
variable {s : State} {e : TrackEntry} {r : Piece}

/-- FOLDED of an entry: its stage is FOLDED, and its piece has FOLD_MISMATCH when the panels are not those planned
(R104). -/
theorem State.foldReport_values (n : Nat) (hr : s.piece? e.piece = some r) :
    (s.foldReport e n).2 = done [byteV r.planned.panels, byteV n, flagV (decide (n ≠ r.planned.panels))]
      ∧ (s.foldReport e n).1.track.entries
          = s.track.entries.map (fun x => if x.tag = e.tag then { x with stage := .folded } else x)
      ∧ (s.foldReport e n).1.run.pieces = s.run.pieces.map (fun x =>
          if x.id = e.piece ∧ n ≠ r.planned.panels then x.addCause .foldMismatch else x)
      ∧ Effects [] [] 0 [.entries, .pieces] s (s.foldReport e n).1 := by
  by_cases h : r.planned.panels = n
  · have hvalue : s.foldReport e n =
        (s.setStage e.tag .folded, done [byteV r.planned.panels, byteV n, flagV false]) := by
      simp [State.foldReport, hr, h]
    rw [hvalue]
    exact ⟨by simp [h], by simp [State.setStage, State.onEntry], by simp [h],
      (State.onEntry_effects _ _).mono (by simp)⟩
  · have hvalue : s.foldReport e n = ((s.setStage e.tag .folded).onPiece e.piece (Piece.addCause .foldMismatch),
        done [byteV r.planned.panels, byteV n, flagV true]) := by
      simp [State.foldReport, hr, h, State.addCause, bne_iff_ne.2 h]
    rw [hvalue]
    exact ⟨by simp [Ne.symm h], by simp [State.setStage, State.onEntry], by simp [State.onPiece_pieces, Ne.symm h],
      State.setStage_onPiece_effects _ _ _ _ _⟩

theorem foldedBody_movable {n : Nat} (htag : e.tag ≤ 63) (hn : 1 ≤ n) (hn4 : n ≤ 4)
    (h : s.movable .folded e.tag = some e) :
    foldedBody (toBytes 1 e.tag ++ toBytes 1 n) s = s.foldReport e n := by
  have hpanels : byteAt (toBytes 1 e.tag ++ toBytes 1 n) 1 = n := by
    simp only [byteAt, toBytes, List.cons_append, List.nil_append, List.getD_cons_succ, List.getD_cons_zero,
      BitVec.toNat_ofNat]
    omega
  have hrange : ¬ (63 < e.tag ∨ n = 0 ∨ 4 < n) := by omega
  simp only [foldedBody, byteAt_tag htag, hpanels, if_neg hrange, h]

end

end Sys2Proof.Machine

open Sys2Proof Sys2Proof.Machine

/-- Settles O35: the entry is the one FOLDED may move, and its report changes its stage and its causes alone. -/
theorem foldedMovesTheEntry : Obligations.FoldedMovesTheEntry := by
  intro n pre post e r s hn hn4 htag hdue hsplit hpre hstage hr
  have hmovable : (s.dropFrame .track).movable .folded e.tag = some e :=
    State.movable_of_split (by simpa using hsplit)
      (fun x hx => by
        have hx := hpre x hx
        cases hst : x.stage <;> simp_all [Stage.rank])
      (by rw [hstage]; decide) hstage
  obtain ⟨hanswer, hentries, hpieces, heff⟩ :=
    State.foldReport_values (s := s.dropFrame .track) n (by simpa [State.piece?] using hr)
  have hbody : foldedBody (toBytes 1 e.tag ++ toBytes 1 n) (s.dropFrame .track) =
      (((s.dropFrame .track).foldReport e n).1,
        done [byteV r.planned.panels, byteV n, flagV (decide (n ≠ r.planned.panels))]) :=
    (foldedBody_movable htag hn hn4 hmovable).trans (Prod.ext rfl hanswer)
  obtain ⟨hexec, hans, hhap⟩ := exec_due_effects hdue rfl rfl hbody heff (by decide)
  exact ⟨_, hexec, hans, by simpa using hentries, by simpa using hpieces, hhap⟩
end

section
/-! The reset state (R99, R100, R127, R157, R183, R186, R192, R194, R195). -/

open Sys2Proof Sys2Proof.Machine

/-- Settles O9: every queue and table of the reset state is empty, and its outputs are computed. -/
theorem resetMeetsTheInvariants : Obligations.ResetMeetsTheInvariants := by
  have hports : PortsBounded State.reset := fun p => by cases p <;> decide
  have houtputs : OutputsFollow State.reset := by
    unfold OutputsFollow
    decide
  have htrack : TrackBounded State.reset :=
    ⟨Nat.zero_le _, List.nodup_nil, by simp [State.reset, TrackQueue.powerOn], Nat.zero_le _⟩
  have hstages : StagesOrdered State.reset := ⟨List.Pairwise.nil, fun w hw => by cases hw⟩
  exact ⟨hports, houtputs, htrack, hstages, ⟨Nat.zero_le _, Nat.zero_le _, Nat.zero_le _⟩, List.nodup_nil⟩
end

section
/-! The gate decision (R146): the level answer it asks for (R132, R133), the fit test and the reservation (R148, R150),
and the bin in which a tray opens (R149). -/

namespace Sys2Proof.Machine

/-! ### States the gate decision cannot tell apart -/

/-- The two states agree on what a gate decision reads beside the census (R146 to R150). -/
structure State.SameGate (s u : State) : Prop where
  pieces : u.run.pieces = s.run.pieces
  runNumber : u.run.runNumber = s.run.runNumber
  profile : u.profile = s.profile
  table : u.bins.table = s.bins.table
  closedTrays : u.bins.closedTrays = s.bins.closedTrays
  reservations : u.bins.reservations = s.bins.reservations
  trayCounter : u.bins.trayCounter = s.bins.trayCounter

section
variable {s t u : State} {tr pl : List Notice} {fl : FlagSet} {e : TrackEntry} {r : Piece}

theorem State.SameGate.of_effects (h : Effects tr pl fl [.entries, .stall, .census] s u) : s.SameGate u where
  pieces := h.frame .pieces (by simp)
  runNumber := h.frame .runNumber (by simp)
  profile := h.frame .active (by simp)
  table := h.frame .bins (by simp)
  closedTrays := h.frame .closedTrays (by simp)
  reservations := h.frame .reservations (by simp)
  trayCounter := h.frame .trayCounter (by simp)

theorem State.SameGate.trans (h : s.SameGate t) (h' : t.SameGate u) : s.SameGate u where
  pieces := h'.pieces.trans h.pieces
  runNumber := h'.runNumber.trans h.runNumber
  profile := h'.profile.trans h.profile
  table := h'.table.trans h.table
  closedTrays := h'.closedTrays.trans h.closedTrays
  reservations := h'.reservations.trans h.reservations
  trayCounter := h'.trayCounter.trans h.trayCounter

theorem State.SameGate.dropFrame (s : State) (p : Port) : s.SameGate (s.dropFrame p) :=
  ⟨rfl, rfl, rfl, rfl, rfl, rfl, rfl⟩

theorem State.SameGate.bin (h : s.SameGate u) (b : Nat) : u.bin b = s.bin b := State.bin_eq_of_table h.table

theorem State.SameGate.piece? (h : s.SameGate u) (id : PieceId) : u.piece? id = s.piece? id := by
  simp only [State.piece?, RunTable.piece?, h.pieces]

theorem State.SameGate.heldTrays (h : s.SameGate u) : u.heldTrays = s.heldTrays := by
  simp only [State.heldTrays, h.bin, h.closedTrays]

/-- The new tray depends on what the gate decision reads alone (R145). -/
theorem State.SameGate.newTray (h : s.SameGate u) (b : Nat) (g : TrayGroup) : u.newTray b g = s.newTray b g := by
  simp only [State.newTray, State.nextContinuation, h.heldTrays, h.runNumber, h.trayCounter]

end

/-! ### The level answer (R132, R133) -/

/-- What a level answer does to a state: it gives it a census and raises flags (R132, R133). -/
def State.withCensus (c : List CensusEntry) (fl : FlagSet) (s : State) : State :=
  { s with census := c, flags := s.flags ||| fl }

theorem State.withCensus_effects (c : List CensusEntry) (fl : FlagSet) (s : State) :
    Effects [] [] fl [.census] s (s.withCensus c fl) where
  toTrack := rfl
  toPlan := rfl
  flags := by simp [State.withCensus]
  frame := fun b hb => by cases b <;> first | rfl | simp at hb

section
variable (s : State)

/-- The answer for a COARSE entry, and what it does, depend on the census and the profile alone: an area entry it
creates, or CENSUS_FULL. -/
theorem State.areaAnswer_eq (a : List Nat) : ∃ c fl g, ∀ u : State, u.census = s.census → u.profile = s.profile →
    u.areaAnswer a = (u.withCensus c fl, g) := by
  have hkeep (u : State) : u = u.withCensus u.census 0 := by simp [State.withCensus]
  cases harea : findArea s.census a with
  | some l =>
    refine ⟨s.census, 0, match l with | .area => .area a | .mixed => .mixed, fun u hc hp => ?_⟩
    cases l <;> simp only [State.areaAnswer, hc, harea] <;> rw [← hc, ← hkeep]
  | none =>
    by_cases hroom : s.census.length < censusCapacity
    · by_cases hmin : s.profile.sort.areaMinimum ≤ s.eligible a
      · refine ⟨insertEntry ⟨a, .area .area⟩ s.census, 0, .area a, fun u hc hp => ?_⟩
        simp_all [State.areaAnswer, State.eligible, State.withCensus, State.onCensus]
      · refine ⟨insertEntry ⟨a, .area .mixed⟩ s.census, 0, .mixed, fun u hc hp => ?_⟩
        simp_all [State.areaAnswer, State.eligible, State.withCensus, State.onCensus]
    · refine ⟨s.census, StickyFlag.censusFull.bit, .mixed, fun u hc hp => ?_⟩
      simp_all [State.areaAnswer, State.withCensus, State.raise, State.onFlags]

/-- A fine entry takes its level (R133). -/
def State.setFineLevel (d : List Nat) (l : FineLevel) (s : State) : State :=
  s.onCensus (onFine d (CensusEntry.setLevel l))

/-- The level answer of a piece whose fine entry the census holds. -/
theorem State.levelAnswer_counted {r : Piece} {n : Nat} {l : FineLevel} (hr : r.census = .counted)
    (hfine : findFine s.census (s.profile.sort.finePrefix r.key) = some (n, l)) :
    s.levelAnswer r = if decidedLevel s.profile.sort.fineMinimum n l = .coarse then
        (s.setFineLevel (s.profile.sort.finePrefix r.key) (decidedLevel s.profile.sort.fineMinimum n l)).areaAnswer
          (s.profile.sort.areaPrefix r.key)
      else (s.setFineLevel (s.profile.sort.finePrefix r.key) (decidedLevel s.profile.sort.fineMinimum n l),
        .fine (s.profile.sort.finePrefix r.key)) := by
  simp only [State.levelAnswer, hr, hfine, State.setFineLevel, beq_iff_eq]

/-- The level answer depends on the census and the profile alone, and changes the census and raises CENSUS_FULL at
most. -/
theorem State.levelAnswer_eq (r : Piece) : ∃ c fl g, ∀ u : State, u.census = s.census → u.profile = s.profile →
    u.levelAnswer r = (u.withCensus c fl, g) := by
  have hquiet (g : TrayGroup)
      (h : ∀ u : State, u.census = s.census → u.profile = s.profile → u.levelAnswer r = (u, g)) :
      ∃ c fl g, ∀ u : State, u.census = s.census → u.profile = s.profile → u.levelAnswer r = (u.withCensus c fl, g) :=
    ⟨s.census, 0, g, fun u hc hp => (h u hc hp).trans (by rw [← hc]; simp [State.withCensus])⟩
  cases hr : r.census with
  | ruled k => exact hquiet (.rule k) fun u _ _ => by simp [State.levelAnswer, hr]
  | reprint => exact hquiet .mixed fun u _ _ => by simp [State.levelAnswer, hr]
  | uncounted => exact hquiet .mixed fun u _ _ => by simp [State.levelAnswer, hr]
  | counted =>
    cases hfine : findFine s.census (s.profile.sort.finePrefix r.key) with
    | none => exact hquiet .mixed fun u hc hp => by simp [State.levelAnswer, hr, hc, hp, hfine]
    | some x =>
      obtain ⟨n, l⟩ := x
      have hcounted (u : State) (hc : u.census = s.census) (hp : u.profile = s.profile) :=
        u.levelAnswer_counted (n := n) (l := l) hr (by rw [hc, hp]; exact hfine)
      generalize hd : s.profile.sort.finePrefix r.key = d at hcounted
      generalize hlevel : decidedLevel s.profile.sort.fineMinimum n l = level at hcounted
      have hset (u : State) (hc : u.census = s.census) :
          (u.setFineLevel d level).census = (s.setFineLevel d level).census :=
        congrArg (onFine d (CensusEntry.setLevel level)) hc
      by_cases hcoarse : level = .coarse
      · obtain ⟨c, fl, g, harea⟩ := (s.setFineLevel d level).areaAnswer_eq (s.profile.sort.areaPrefix r.key)
        refine ⟨c, fl, g, fun u hc hp => ?_⟩
        rw [hcounted u hc hp, hp, hlevel, if_pos hcoarse, hd]
        exact harea _ (hset u hc) hp
      · refine ⟨(s.setFineLevel d level).census, 0, .fine d, fun u hc hp => ?_⟩
        rw [hcounted u hc hp, hp, hlevel, if_neg hcoarse, hd, ← hset u hc]
        simp [State.withCensus, State.setFineLevel, State.onCensus]

/-- A level answer asked in another state of the same census and profile: the same answer and census, and the same flags
raised. -/
theorem State.SameGate.levelAnswer {s u : State} (h : s.SameGate u) (hc : u.census = s.census) (r : Piece) :
    ∃ w fl, u.levelAnswer r = (w, (s.levelAnswer r).2) ∧ w.census = (s.levelAnswer r).1.census
      ∧ (s.levelAnswer r).1.flags = s.flags ||| fl ∧ Effects [] [] fl [.census] u w ∧ s.SameGate w := by
  obtain ⟨c, fl, g, heq⟩ := s.levelAnswer_eq r
  have heff := u.withCensus_effects c fl
  rw [heq s rfl rfl, heq u hc h.profile]
  exact ⟨_, fl, rfl, rfl, rfl, heff, h.trans (.of_effects (heff.mono (by simp)))⟩

end

end Sys2Proof.Machine
end

section
/-! A place for a piece at the gate: the OPEN tray of its group, or a new tray in the bin R149 chooses (R145 to
R150). -/

namespace Sys2Proof.Machine

/-! ### The bin of a tray (R146, R149) -/

/-- The lowest bin with a property. -/
theorem find?_binNumbers {p : Nat → Bool} {b : Nat} (hb : b ∈ binNumbers) (hp : p b = true)
    (hfirst : ∀ j ∈ binNumbers, j < b → p j = false) : binNumbers.find? p = some b := by
  obtain ⟨as, bs, hsplit⟩ := List.append_of_mem hb
  have hsorted : binNumbers.Pairwise (· < ·) := by decide
  refine List.find?_eq_some_iff_append.2 ⟨hp, as, bs, hsplit, fun j hj => ?_⟩
  rw [hsplit, List.pairwise_append] at hsorted
  have hmem : j ∈ binNumbers := by
    rw [hsplit]
    exact List.mem_append_left _ hj
  rw [hfirst j hmem (hsorted.2.2 j hj b List.mem_cons_self)]
  rfl

/-- The key rule slot a bin has to be dedicated to for a tray of the group; a bin of no slot takes the other groups
(R149). -/
def TrayGroup.slot : TrayGroup → Option Nat
  | .rule k => some k
  | .fine _ | .area _ | .mixed => none

section
variable {s : State} {b tag m : Nat} {g : TrayGroup} {y : Tray} {reason : CloseReason}

theorem State.binForTray_eq (s : State) (g : TrayGroup) : s.binForTray g = binNumbers.find? fun b =>
    s.profile.dedicatedSlot b == g.slot && (s.bin b).state == .free := by
  have hnone (x : Option Nat) : x.isNone = (x == none) := by cases x <;> rfl
  cases g with
  | rule k => rfl
  | fine d => simp only [State.binForTray, TrayGroup.slot, hnone]
  | area a => simp only [State.binForTray, TrayGroup.slot, hnone]
  | mixed => simp only [State.binForTray, TrayGroup.slot, hnone]

theorem State.binForTray_first (hb : b ∈ binNumbers) (hd : s.profile.dedicatedSlot b = g.slot)
    (hfree : (s.bin b).state = .free)
    (hfirst : ∀ j ∈ binNumbers, j < b → s.profile.dedicatedSlot j = g.slot → (s.bin j).state ≠ .free) :
    s.binForTray g = some b := by
  rw [State.binForTray_eq]
  refine find?_binNumbers hb (by simp [hd, hfree]) fun j hj hlt => ?_
  simpa [← imp_iff_not_or] using hfirst j hj hlt

theorem State.binForTray_none
    (h : ∀ j ∈ binNumbers, s.profile.dedicatedSlot j = g.slot → (s.bin j).state ≠ .free) : s.binForTray g = none := by
  rw [State.binForTray_eq]
  exact List.find?_eq_none.2 fun j hj => by simpa using h j hj

/-- The bin found holds an OPEN tray of the group. -/
theorem State.openTrayBin_spec (h : s.openTrayBin g = some b) :
    b ∈ binNumbers ∧ ∃ y, (s.bin b).tray = some y ∧ y.group = g ∧ y.state = .opened := by
  refine ⟨List.mem_of_find?_eq_some h, ?_⟩
  have hfound := List.find?_some h
  cases hy : (s.bin b).tray with
  | none => simp [hy] at hfound
  | some y => exact ⟨y, rfl, by simpa [hy] using hfound⟩

/-! ### A place reserved (R150) -/

/-- The tray with one more place reserved. -/
def Tray.reserve (m : Nat) (y : Tray) : Tray :=
  { y with reserved := y.reserved + 1, reservedMass := y.reservedMass + m }

/-- A place taken in the tray of bin `b`, before the tray is tested for being full. -/
def State.takePlace (b tag id m : Nat) (s : State) : State :=
  (s.onTray b (Tray.reserve m)).onBins fun x => { x with reservations := x.reservations ++ [⟨tag, id, m⟩] }

theorem State.takePlace_bin (id : Nat) (hy : (s.bin b).tray = some y) :
    (s.takePlace b tag id m).bin b = ⟨(s.bin b).state, some (y.reserve m)⟩ := by
  have htray : (s.onTray b (Tray.reserve m)).bin b = ⟨(s.bin b).state, some (y.reserve m)⟩ := by
    rw [State.onTray_bin, hy]
    rfl
  exact htray

theorem State.takePlace_effects (b tag id m : Nat) (s : State) :
    Effects [] [] 0 [.bins, .reservations] s (s.takePlace b tag id m) := by
  refine Effects.of_changesOnly (fun c hc => ?_) (by simp) (by simp)
  cases c <;> first | rfl | simp at hc

theorem State.reserve_eq (hy : (s.bin b).tray = some y) : s.reserve b tag m =
    if y.count + y.reserved + 1 = s.profile.sort.trayPieceLimit then
      (s.takePlace b tag y.id m).beginClosing b .fullCount
    else s.takePlace b tag y.id m := by
  have hid : (s.bin b).tray.elim 0 Tray.id = y.id := by rw [hy]; rfl
  have hbin := State.takePlace_bin (tag := tag) (m := m) y.id hy
  have htest : ((s.takePlace b tag y.id m).bin b).tray.elim false
      (fun t => t.count + t.reserved == s.profile.sort.trayPieceLimit) = true
        ↔ y.count + y.reserved + 1 = s.profile.sort.trayPieceLimit := by
    rw [hbin]
    exact beq_iff_eq
  unfold State.reserve
  rw [hid]
  exact if_congr htest rfl rfl

/-- An OPEN tray in which a place is reserved begins closing, and is not yet emptied (R155, R156). -/
theorem State.beginClosing_reserved (hb : b ∈ binNumbers) (hy : (s.bin b).tray = some y) (ho : y.state = .opened)
    (hr : 0 < y.reserved) : s.beginClosing b reason = s.startClosing b reason := by
  rw [State.beginClosing_opened hy ho]
  exact State.closeIfEmptied_stays (State.startClosing_tray hb hy) (.inr hr)

/-- A place reserved in the OPEN tray of bin `b`: the tray begins closing when this fills it. -/
theorem State.reserve_spec (tag m : Nat) (hb : b ∈ binNumbers) (hy : (s.bin b).tray = some y) (ho : y.state = .opened)
    {fills : Prop} [Decidable fills] (hf : fills ↔ y.count + y.reserved + 1 = s.profile.sort.trayPieceLimit)
    {ns : List Notice} (hn : ns = if fills then (s.bin b).closingNotices b y else []) :
    (s.reserve b tag m).bin b
        = (if fills then (s.bin b).closing .fullCount (y.reserve m) else ⟨(s.bin b).state, some (y.reserve m)⟩)
      ∧ (∀ j ∈ binNumbers, j ≠ b → (s.reserve b tag m).bin j = s.bin j)
      ∧ (s.reserve b tag m).bins.reservations = s.bins.reservations ++ [⟨tag, y.id, m⟩]
      ∧ Effects ns ns 0 [.bins, .reservations] s (s.reserve b tag m) := by
  have hbin := State.takePlace_bin (tag := tag) (m := m) y.id hy
  have hother : ∀ j ∈ binNumbers, j ≠ b → (s.takePlace b tag y.id m).bin j = s.bin j :=
    fun j hj hne => State.onTray_bin_ne _ _ hb hj hne
  have heff := s.takePlace_effects b tag y.id m
  rw [State.reserve_eq hy]
  by_cases h : fills
  · rw [if_pos h] at hn
    rw [if_pos h, if_pos (hf.1 h),
      State.beginClosing_reserved hb (congrArg Bin.tray hbin) ho (Nat.succ_pos y.reserved)]
    obtain ⟨hstart, hstartOther, hstartEff⟩ :=
      State.startClosing_values (reason := .fullCount) hb (congrArg Bin.tray hbin)
    rw [hbin] at hstart hstartEff
    refine ⟨hstart, fun j hj hne => (hstartOther j hj hne).trans (hother j hj hne),
      hstartEff.frame .reservations (by simp), ?_⟩
    rw [hn]
    exact heff.after (hstartEff.mono (by simp))
  · rw [if_neg h] at hn
    rw [if_neg h, if_neg (mt hf.2 h), hn]
    exact ⟨hbin, hother, rfl, heff⟩

/-- A tray that opens in bin `b` with a place reserved in it; with a tray piece limit of 1 it begins closing at once
(R145, R150). -/
theorem State.openTray_reserve_spec (g : TrayGroup) (tag m : Nat) (hb : b ∈ binNumbers) {id : Nat}
    (hid : id = s.bins.trayCounter) {ns : List Notice} (hn : ns = [.binState b .opened (some id)]
      ++ if s.profile.sort.trayPieceLimit = 1 then [.binState b .fullWait (some id)] else [])
    {v : State} (hv : v = (s.openTray b g).reserve b tag m) :
    v.bin b = (if s.profile.sort.trayPieceLimit = 1 then
          (⟨.opened, none⟩ : Bin).closing .fullCount ((s.newTray b g).reserve m)
        else ⟨.opened, some ((s.newTray b g).reserve m)⟩)
      ∧ (∀ j ∈ binNumbers, j ≠ b → v.bin j = s.bin j)
      ∧ v.bins.trayCounter = (if id = 65535 then 1 else id + 1)
      ∧ v.bins.reservations = s.bins.reservations ++ [⟨tag, id, m⟩]
      ∧ Effects ns ns 0 [.bins, .trayCounter, .reservations] s v := by
  obtain ⟨hopen, hopenOther, hcounter, hopenEff⟩ := State.openTray_values (s := s) (g := g) hb
  have hlimit : s.profile.sort.trayPieceLimit = 1 ↔ (s.newTray b g).count + (s.newTray b g).reserved + 1
      = (s.openTray b g).profile.sort.trayPieceLimit := by
    rw [show (s.openTray b g).profile = s.profile from hopenEff.frame .active (by simp)]
    exact eq_comm
  obtain ⟨hbin, hother, hreservations, heff⟩ :=
    State.reserve_spec tag m hb (congrArg Bin.tray hopen) rfl hlimit rfl
  rw [hopen] at hbin heff
  subst hv hid
  refine ⟨hbin, fun j hj hne => (hother j hj hne).trans (hopenOther j hj hne),
    (heff.frame .trayCounter (by simp)).trans hcounter,
    hreservations.trans (congrArg (· ++ _) (hopenEff.frame .reservations (by simp))), ?_⟩
  exact ((hopenEff.mono (by simp)).trans (heff.mono (by simp))).congr hn.symm hn.symm (by simp)

/-! ### The fit test (R148) -/

theorem State.placeInTray_fits (hb : s.openTrayBin g = some b) (hy : (s.bin b).tray = some y)
    (hcount : y.count + y.reserved + 1 ≤ s.profile.sort.trayPieceLimit)
    (hmass : y.mass + y.reservedMass + m ≤ s.profile.sort.trayMassLimit) :
    s.placeInTray g tag m = (s.reserve b tag m, .decided (.bin b)) := by
  simp [State.placeInTray, hb, hy, Tray.fitsCount, Tray.fitsMass, hcount, hmass]

theorem State.placeInTray_new (hb : s.openTrayBin g = none) : s.placeInTray g tag m = s.openOrStall g tag m := by
  simp [State.placeInTray, hb]

/-- A piece that does not fit the OPEN tray of its group: that tray begins closing first (R148, R155). -/
theorem State.placeInTray_unfit (hb : s.openTrayBin g = some b) (hy : (s.bin b).tray = some y)
    (hunfit : s.profile.sort.trayPieceLimit < y.count + y.reserved + 1
      ∨ s.profile.sort.trayMassLimit < y.mass + y.reservedMass + m)
    (hreason : reason = if s.profile.sort.trayPieceLimit < y.count + y.reserved + 1 then .fullCount else .fullMass)
    (hr : 0 < y.reserved) : s.placeInTray g tag m = (s.startClosing b reason).openOrStall g tag m := by
  obtain ⟨hmem, y', hy', -, ho⟩ := State.openTrayBin_spec hb
  obtain rfl : y = y' := Option.some.inj (hy.symm.trans hy')
  rw [← State.beginClosing_reserved hmem hy ho hr, hreason]
  by_cases hcount : s.profile.sort.trayPieceLimit < y.count + y.reserved + 1
  · rw [if_pos hcount]
    simp [State.placeInTray, hb, hy, Tray.fitsCount, hcount.not_ge]
  · have hmass := (hunfit.resolve_left hcount).not_ge
    rw [if_neg hcount]
    rw [not_lt] at hcount
    simp [State.placeInTray, hb, hy, Tray.fitsCount, Tray.fitsMass, hcount, hmass]

end

end Sys2Proof.Machine
end

section
/-! What the gate decides for a sound piece (R146, R148, R149), in every state that agrees with a given one on what the
decision reads. -/

namespace Sys2Proof.Machine

/-- The continuation number depends on the run, the group and the number of each tray held alone (R145). -/
theorem State.nextContinuation_congr {s t : State} {g : TrayGroup} (hr : t.run.runNumber = s.run.runNumber)
    (h : t.heldTrays.map (fun z => (z.run, z.group, z.continuation))
      = s.heldTrays.map fun z => (z.run, z.group, z.continuation)) : t.nextContinuation g = s.nextContinuation g := by
  have hread (u : State) (n : Nat) : (u.heldTrays.filter fun z => z.run == n && z.group == g).map Tray.continuation
      = ((u.heldTrays.map fun z => (z.run, z.group, z.continuation)).filter fun k => k.1 == n && k.2.1 == g).map
          fun k => k.2.2 := by
    rw [List.filter_map, List.map_map]
    rfl
  simp only [State.nextContinuation, hread, hr, h]

section
variable {s u w x : State} {e : TrackEntry} {r : Piece} {g : TrayGroup} {b c tag m : Nat} {y : Tray}
  {closing : List Notice} {others : Nat → Bin}

/-- A piece with faults, or cancel-pending, is diverted (R146). -/
def Piece.Faulty (r : Piece) : Prop := r.faults ≠ [] ∨ r.cancelPending = true

theorem State.decideEntry_sound (hr : s.piece? e.piece = some r) (hsound : ¬ r.Faulty) (hl : s.levelAnswer r = (w, g)) :
    s.decideEntry e = w.placeInTray g e.tag r.finalMass := by
  obtain ⟨hfaults, hcancel⟩ := not_or.1 hsound
  simp [State.decideEntry, State.gateDecision, hr, not_not.1 hfaults, hcancel, hl]

/-! ### The piece fits the OPEN tray of its group -/

/-- A sound piece that fits the OPEN tray of its group takes a place there (R148, R150). -/
theorem State.SameGate.decideEntry_fits (h : s.SameGate u) (hc : u.census = s.census) (hr : s.piece? e.piece = some r)
    (hsound : ¬ r.Faulty) (hg : (s.levelAnswer r).2 = g) (hb : b ∈ binNumbers) (hy : (s.bin b).tray = some y)
    (hyg : y.group = g) (ho : y.state = .opened)
    (honly : ∀ j ∈ binNumbers, ∀ z, (s.bin j).tray = some z → z.group = g → z.state = .opened → j = b)
    (hcount : y.count + y.reserved + 1 ≤ s.profile.sort.trayPieceLimit)
    (hmass : y.mass + y.reservedMass + r.finalMass ≤ s.profile.sort.trayMassLimit) {fills : Prop} [Decidable fills]
    (hf : fills ↔ y.count + y.reserved + 1 = s.profile.sort.trayPieceLimit) {ns : List Notice}
    (hn : ns = if fills then (s.bin b).closingNotices b y else []) :
    ∃ v fl, u.decideEntry e = (v, .decided (.bin b))
      ∧ v.bin b = (if fills then (s.bin b).closing .fullCount (y.reserve r.finalMass)
          else ⟨(s.bin b).state, some (y.reserve r.finalMass)⟩)
      ∧ (∀ j ∈ binNumbers, j ≠ b → v.bin j = s.bin j)
      ∧ v.bins.reservations = s.bins.reservations ++ [⟨e.tag, y.id, r.finalMass⟩]
      ∧ v.census = (s.levelAnswer r).1.census ∧ (s.levelAnswer r).1.flags = s.flags ||| fl
      ∧ Effects ns ns fl [.bins, .reservations, .census] u v := by
  obtain ⟨w, fl, hlevel, hcensus, hflags, hlevelEff, hw⟩ := h.levelAnswer hc r
  rw [hg] at hlevel
  have hbin := hw.bin b
  have hopen : w.openTrayBin g = some b :=
    State.openTrayBin_some hb (by rw [hbin]; exact hy) hyg ho fun j hj z hz => honly j hj z (by rwa [← hw.bin j])
  have hplace := State.placeInTray_fits (tag := e.tag) (m := r.finalMass) hopen (by rw [hbin]; exact hy)
    (by rw [hw.profile]; exact hcount) (by rw [hw.profile]; exact hmass)
  obtain ⟨hres, hother, hreservations, heff⟩ := State.reserve_spec (fills := fills) (ns := ns) e.tag r.finalMass hb
    (by rw [hbin]; exact hy) ho (by rw [hw.profile]; exact hf) (by rw [hbin]; exact hn)
  rw [hbin] at hres
  refine ⟨_, fl, (State.decideEntry_sound ((h.piece? _).trans hr) hsound hlevel).trans hplace, hres,
    fun j hj hne => (hother j hj hne).trans (hw.bin j), by rw [hreservations, hw.reservations],
    (heff.frame .census (by simp)).trans hcensus, hflags, ?_⟩
  exact ((hlevelEff.mono (by simp)).trans (heff.mono (by simp))).congr rfl rfl (by simp)

/-! ### A bin is sought for a new tray -/

/-- From `u` on, a sound piece looks for a bin in `x`: its level answer has been asked, and an OPEN tray of its group
that it does not fit has begun closing (R148, R149). -/
structure State.Seeks (s : State) (r : Piece) (closing : List Notice) (others : Nat → Bin) (u x : State) : Prop where
  bin : ∀ j ∈ binNumbers, x.bin j = others j
  profile : x.profile = s.profile
  trayCounter : x.bins.trayCounter = s.bins.trayCounter
  reservations : x.bins.reservations = s.bins.reservations
  newTray : ∀ b g, x.newTray b g = s.newTray b g
  census : x.census = (s.levelAnswer r).1.census
  effects : ∃ fl, (s.levelAnswer r).1.flags = s.flags ||| fl ∧ Effects closing closing fl [.bins, .census] u x

/-- With no OPEN tray of its group, the piece looks for a bin at once. -/
theorem State.SameGate.seeks (h : s.SameGate u) (hc : u.census = s.census) (hr : s.piece? e.piece = some r)
    (hsound : ¬ r.Faulty) (hg : (s.levelAnswer r).2 = g)
    (hnone : ∀ j ∈ binNumbers, ∀ z, (s.bin j).tray = some z → z.group = g → z.state ≠ .opened) :
    ∃ x, u.decideEntry e = x.openOrStall g e.tag r.finalMass ∧ s.Seeks r [] s.bin u x := by
  obtain ⟨w, fl, hlevel, hcensus, hflags, heff, hw⟩ := h.levelAnswer hc r
  rw [hg] at hlevel
  have hopen : w.openTrayBin g = none := State.openTrayBin_none fun j hj z hz => hnone j hj z (by rwa [← hw.bin j])
  exact ⟨w, (State.decideEntry_sound ((h.piece? _).trans hr) hsound hlevel).trans (State.placeInTray_new hopen),
    fun j _ => hw.bin j, hw.profile, hw.trayCounter, hw.reservations, hw.newTray, hcensus, fl, hflags,
    heff.mono (by simp)⟩

/-- The bins after the OPEN tray `y` of bin `c` has begun closing. -/
def State.closingBins (s : State) (c : Nat) (reason : CloseReason) (y : Tray) (j : Nat) : Bin :=
  if j = c then (s.bin c).closing reason y else s.bin j

/-- A bin whose tray begins closing is not FREE. -/
theorem Bin.closing_state_ne_free (x : Bin) (reason : CloseReason) (y : Tray) : (x.closing reason y).state ≠ .free := by
  unfold Bin.closing
  dsimp only
  split
  · next h => rcases h with h | h <;> simp [h]
  · simp

theorem State.closingBins_free {reason : CloseReason} {j : Nat} :
    (s.closingBins c reason y j).state = .free ↔ j ≠ c ∧ (s.bin j).state = .free := by
  unfold State.closingBins
  split
  · next h => simp [h, Bin.closing_state_ne_free]
  · next h => simp [h]

/-- With an OPEN tray of its group that it does not fit, the piece looks for a bin once that tray is CLOSING. -/
theorem State.SameGate.seeks_unfit (h : s.SameGate u) (hc : u.census = s.census) (hr : s.piece? e.piece = some r)
    (hsound : ¬ r.Faulty) (hg : (s.levelAnswer r).2 = g) (hfind : s.openTrayBin g = some c)
    (hy : (s.bin c).tray = some y) (hreserved : 0 < y.reserved)
    (hunfit : s.profile.sort.trayPieceLimit < y.count + y.reserved + 1
      ∨ s.profile.sort.trayMassLimit < y.mass + y.reservedMass + r.finalMass) {reason : CloseReason}
    (hreason : reason = if s.profile.sort.trayPieceLimit < y.count + y.reserved + 1 then .fullCount else .fullMass) :
    ∃ x, u.decideEntry e = x.openOrStall g e.tag r.finalMass
      ∧ s.Seeks r ((s.bin c).closingNotices c y) (s.closingBins c reason y) u x := by
  obtain ⟨w, fl, hlevel, hcensus, hflags, hlevelEff, hw⟩ := h.levelAnswer hc r
  rw [hg] at hlevel
  have hbin := hw.bin c
  have hopen : w.openTrayBin g = some c := by
    rw [← hfind]
    simp only [State.openTrayBin, hw.bin]
  have hmem := (State.openTrayBin_spec hopen).1
  have hyw : (w.bin c).tray = some y := by rw [hbin]; exact hy
  have hplace := State.placeInTray_unfit (tag := e.tag) (reason := reason) hopen hyw (by rw [hw.profile]; exact hunfit)
    (by rw [hw.profile]; exact hreason) hreserved
  obtain ⟨hclose, hother, heff⟩ := State.startClosing_values (reason := reason) hmem hyw
  rw [hbin] at hclose heff
  have hbins : ∀ j ∈ binNumbers, (w.startClosing c reason).bin j = s.closingBins c reason y j := by
    intro j hj
    unfold State.closingBins
    split
    · next hj => rw [hj, hclose]
    · next hne => rw [hother j hj hne, hw.bin j]
  have hclosed : (w.startClosing c reason).bins.closedTrays = s.bins.closedTrays :=
    (heff.frame .closedTrays (by simp)).trans hw.closedTrays
  have hcounter : (w.startClosing c reason).bins.trayCounter = s.bins.trayCounter :=
    (heff.frame .trayCounter (by simp)).trans hw.trayCounter
  have hnumber : (w.startClosing c reason).run.runNumber = s.run.runNumber :=
    (heff.frame .runNumber (by simp)).trans hw.runNumber
  have hheld : (w.startClosing c reason).heldTrays.map (fun z => (z.run, z.group, z.continuation))
      = s.heldTrays.map fun z => (z.run, z.group, z.continuation) := by
    simp only [State.heldTrays, List.map_append, List.map_filterMap, hclosed]
    refine congrArg (· ++ _) (List.filterMap_congr fun j hj => ?_)
    rw [hbins j hj, State.closingBins]
    split
    · next hj =>
      rw [hj, hy]
      rfl
    · rfl
  refine ⟨w.startClosing c reason,
    (State.decideEntry_sound ((h.piece? _).trans hr) hsound hlevel).trans hplace, hbins,
    (heff.frame .active (by simp)).trans hw.profile, hcounter,
    (heff.frame .reservations (by simp)).trans hw.reservations,
    fun b g => ?_, (heff.frame .census (by simp)).trans hcensus, fl, hflags, ?_⟩
  · simp only [State.newTray, hcounter, hnumber, State.nextContinuation_congr hnumber hheld]
  · exact ((hlevelEff.mono (by simp)).trans (heff.mono (by simp))).congr rfl rfl (by simp)

/-- A tray opens in the lowest FREE bin that takes the group (R145, R149, R150). -/
theorem State.Seeks.opens (h : s.Seeks r closing others u x) (hb : b ∈ binNumbers)
    (hd : s.profile.dedicatedSlot b = g.slot) (hfree : (others b).state = .free)
    (hfirst : ∀ j ∈ binNumbers, j < b → s.profile.dedicatedSlot j = g.slot → (others j).state ≠ .free) {id : Nat}
    (hid : id = s.bins.trayCounter) {fresh : Tray} (hfresh : fresh = (s.newTray b g).reserve m) {ns : List Notice}
    (hn : ns = closing ++ [.binState b .opened (some id)]
      ++ if s.profile.sort.trayPieceLimit = 1 then [.binState b .fullWait (some id)] else []) :
    ∃ v fl, x.openOrStall g tag m = (v, .decided (.bin b))
      ∧ v.bin b = (if s.profile.sort.trayPieceLimit = 1 then (⟨.opened, none⟩ : Bin).closing .fullCount fresh
          else ⟨.opened, some fresh⟩)
      ∧ (∀ j ∈ binNumbers, j ≠ b → v.bin j = others j)
      ∧ v.bins.trayCounter = (if id = 65535 then 1 else id + 1)
      ∧ v.bins.reservations = s.bins.reservations ++ [⟨tag, id, m⟩]
      ∧ v.census = (s.levelAnswer r).1.census ∧ (s.levelAnswer r).1.flags = s.flags ||| fl
      ∧ Effects ns ns fl [.bins, .trayCounter, .reservations, .census] u v := by
  obtain ⟨fl, hflags, hseek⟩ := h.effects
  have hfind : x.binForTray g = some b := by
    refine State.binForTray_first hb (by rw [h.profile]; exact hd) (by rw [h.bin b hb]; exact hfree)
      fun j hj hlt hdj => ?_
    rw [h.bin j hj]
    exact hfirst j hj hlt (by rwa [← h.profile])
  obtain ⟨hbin, hother, hcounter, hreservations, heff⟩ :=
    State.openTray_reserve_spec (s := x) g tag m hb (hid.trans h.trayCounter.symm) rfl rfl
  rw [h.newTray, h.profile, ← hfresh] at hbin
  rw [h.profile] at heff
  refine ⟨_, fl, by rw [State.openOrStall, hfind], hbin, fun j hj hne => (hother j hj hne).trans (h.bin j hj), hcounter,
    hreservations.trans (congrArg (· ++ _) h.reservations), (heff.frame .census (by simp)).trans h.census, hflags, ?_⟩
  exact ((hseek.mono (by simp)).trans (heff.mono (by simp))).congr (by rw [hn, List.append_assoc])
    (by rw [hn, List.append_assoc]) (by simp)

/-- With no FREE bin that takes the group the piece stalls (R149). -/
theorem State.Seeks.stalls (h : s.Seeks r closing others u x)
    (hnone : ∀ j ∈ binNumbers, s.profile.dedicatedSlot j = g.slot → (others j).state ≠ .free) :
    x.openOrStall g tag m = (x, .stall g) := by
  have hfind : x.binForTray g = none := State.binForTray_none fun j hj hd => by
    rw [h.bin j hj]
    exact hnone j hj (by rwa [← h.profile])
  rw [State.openOrStall, hfind]

end

end Sys2Proof.Machine
end

section
/-! AT_GATE (R103, R107, R108): which entry is decided, what its decision does, and the hand-on behind it (R109). -/

namespace Sys2Proof.Machine

section
variable {s u v : State} {pre post : List TrackEntry} {e : TrackEntry} {d : GateDecision} {g : TrayGroup}

/-! ### The entry that is decided -/

/-- The oldest entry short of the gate arrives there (R102, R103). -/
def State.Arrives (s : State) (pre : List TrackEntry) (e : TrackEntry) : Prop :=
  e.stage = s.precedingStage .atGate ∧ e.stalled = false ∧ ∀ x ∈ pre, Stage.atGate.rank ≤ x.stage.rank

/-- AT_GATE is repeated for the entry that is stalled (R108). -/
def State.Repeats (s : State) (e : TrackEntry) : Prop :=
  e.stage = .atGate ∧ e.stalled = true ∧ ∃ g, s.bins.stall = some ⟨e.tag, g⟩

/-- AT_GATE has the entry decided: it arrives behind entries that are all GATED, or it is the stalled one. -/
def State.Decides (s : State) (pre : List TrackEntry) (e : TrackEntry) : Prop :=
  s.Arrives pre e ∧ (∀ x ∈ pre, x.stage = .gated) ∨ s.Repeats e

/-- The state in which the entry is decided: an arriving one is at the gate. -/
def State.toGate (e : TrackEntry) (s : State) : State := if e.stalled then s else s.setStage e.tag .atGate

/-- The entry is GATED, and a stall of it ends. -/
def State.gateEntry (e : TrackEntry) (d : GateDecision) (s : State) : State :=
  (if e.stalled then s.onBins fun m => { m with stall := none } else s).setGated e.tag d

theorem State.setStage_of_split (st : Stage) (h : s.track.entries = pre ++ e :: post)
    (hn : (s.track.entries.map TrackEntry.tag).Nodup) :
    (s.setStage e.tag st).track.entries = pre ++ { e with stage := st } :: post := State.onEntry_of_split _ h hn

theorem State.toGate_effects (e : TrackEntry) (s : State) : Effects [] [] 0 [.entries] s (s.toGate e) := by
  unfold State.toGate
  split
  · exact .refl _ s
  · exact State.onEntry_effects _ _

theorem State.toGate_sameGate (e : TrackEntry) (s : State) : s.SameGate (s.toGate e) :=
  .of_effects ((s.toGate_effects e).mono (by simp))

theorem State.gateEntry_effects (e : TrackEntry) (d : GateDecision) (s : State) :
    Effects [] [] 0 [.entries, .stall] s (s.gateEntry e d) := by
  have hstall : Effects [] [] 0 [.entries, .stall] s
      (if e.stalled then s.onBins fun m => { m with stall := none } else s) := by
    split
    · refine Effects.of_changesOnly (fun b hb => ?_) (by simp) (by simp)
      cases b <;> first | rfl | simp at hb
    · exact .refl _ s
  exact hstall.after ((State.onEntry_effects _ _).mono (by simp))

theorem State.gateEntry_bins (e : TrackEntry) (d : GateDecision) (s : State) :
    (s.gateEntry e d).bins = { s.bins with stall := if e.stalled then none else s.bins.stall } := by
  unfold State.gateEntry
  split <;> simp [State.setGated, State.onEntry]

/-- The queue after a decision taken in the state in which the entry is decided. -/
theorem State.gateEntry_entries (h : s.track.entries = pre ++ e :: post)
    (hn : (s.track.entries.map TrackEntry.tag).Nodup) (hv : (s.toGate e).decideEntry e = (v, .decided d)) :
    (v.gateEntry e d).track.entries = pre ++ e.gate d :: post := by
  have htrack : v.track = (s.toGate e).track := by
    rw [← show ((s.toGate e).decideEntry e).1 = v from congrArg Prod.fst hv]
    simp
  have hgate : (v.gateEntry e d).track.entries = (v.setGated e.tag d).track.entries := by
    unfold State.gateEntry
    split <;> simp [State.setGated, State.onEntry]
  rw [hgate]
  unfold State.toGate at htrack
  split at htrack
  · exact State.setGated_of_split d (by rw [htrack]; exact h) (by rw [htrack]; exact hn)
  · exact State.setGated_of_split (e := { e with stage := .atGate }) d
      (by rw [htrack]; exact State.setStage_of_split _ h hn) (by rw [htrack, State.setStage_tags]; exact hn)

/-! ### The answers -/

/-- AT_GATE of the entry that arrives. -/
theorem atGateBody_arrives (htag : e.tag ≤ 63) (h : s.track.entries = pre ++ e :: post)
    (hn : (s.track.entries.map TrackEntry.tag).Nodup) (ha : s.Arrives pre e) :
    atGateBody (toBytes 1 e.tag) s = ((s.reachGate e.tag).1.afterEvent s, done (s.reachGate e.tag).2.values) := by
  obtain ⟨hstage, -, hpre⟩ := ha
  have hshort : (s.precedingStage .atGate).rank < Stage.atGate.rank := by
    unfold State.precedingStage
    dsimp only
    split <;> decide
  have hmovable := State.movable_of_split h hpre (by rw [hstage]; exact hshort) hstage
  have hnot : ((s.entry? e.tag).filter fun x => x.stage == .atGate) = none := by
    rw [State.entry?_of_split h hn, Option.filter_some, if_neg]
    intro hgate
    rw [← hstage, beq_iff_eq.1 hgate] at hshort
    exact lt_irrefl _ hshort
  have hread : byteAt (toBytes 1 e.tag) 0 = e.tag := (byteAt_toBytes_one _).trans (Nat.mod_eq_of_lt (by omega))
  simp only [atGateBody, hread, if_neg (not_lt.2 htag), hnot, hmovable]

/-- AT_GATE of an entry at the gate. -/
theorem atGateBody_repeats (htag : e.tag ≤ 63) (h : s.track.entries = pre ++ e :: post)
    (hn : (s.track.entries.map TrackEntry.tag).Nodup) (hstage : e.stage = .atGate) :
    atGateBody (toBytes 1 e.tag) s = ((s.repeatGate e).1.afterEvent s, done (s.repeatGate e).2.values) := by
  have hentry : ((s.entry? e.tag).filter fun x => x.stage == .atGate) = some e := by
    rw [State.entry?_of_split h hn, Option.filter_some, if_pos (by simp [hstage])]
  have hread : byteAt (toBytes 1 e.tag) 0 = e.tag := (byteAt_toBytes_one _).trans (Nat.mod_eq_of_lt (by omega))
  simp only [atGateBody, hread, if_neg (not_lt.2 htag), hentry]

/-- An entry that arrives behind one that is not GATED waits (R107). -/
theorem State.reachGate_waits (h : s.track.entries = pre ++ e :: post)
    (hn : (s.track.entries.map TrackEntry.tag).Nodup) (hx : ∃ x ∈ pre, x.stage ≠ .gated) :
    s.reachGate e.tag = (s.setStage e.tag .atGate, .wait) := by
  obtain ⟨x, hx, hstage⟩ := hx
  exact if_neg fun hgated => hstage ((State.olderGated_of_split h hn).1 hgated x hx)

/-- An entry that arrives behind GATED ones is decided (R107). -/
theorem State.reachGate_decides (h : s.track.entries = pre ++ e :: post)
    (hn : (s.track.entries.map TrackEntry.tag).Nodup) (hpre : ∀ x ∈ pre, x.stage = .gated) :
    s.reachGate e.tag = match (s.setStage e.tag .atGate).decideEntry e with
      | (v, .decided d) => ((v.setGated e.tag d).handOn (post.map TrackEntry.tag), .decided d)
      | (v, .stall g) => (v.recordStall e.tag g, .stall) := by
  have hentries := State.setStage_of_split .atGate h hn
  have hn' : ((s.setStage e.tag .atGate).track.entries.map TrackEntry.tag).Nodup := by rwa [State.setStage_tags]
  have hentry : (s.setStage e.tag .atGate).entry? e.tag = some { e with stage := .atGate } :=
    State.entry?_of_split (e := { e with stage := .atGate }) hentries hn'
  have hyounger : ((s.setStage e.tag .atGate).decideEntry e).1.younger e.tag = post.map TrackEntry.tag :=
    State.younger_of_split (e := { e with stage := .atGate }) (by simpa using hentries) (by simpa using hn')
  have hdecide : (s.setStage e.tag .atGate).decideEntry { e with stage := .atGate }
      = (s.setStage e.tag .atGate).decideEntry e := rfl
  rw [State.reachGate, if_pos ((State.olderGated_of_split h hn).2 hpre), State.decideAtGate, hentry]
  dsimp only
  rw [hdecide, hyounger]
  rcases (s.setStage e.tag .atGate).decideEntry e with ⟨v, d | g⟩ <;> rfl

/-- The answer when the gate decides. -/
theorem atGateBody_decided (htag : e.tag ≤ 63) (h : s.track.entries = pre ++ e :: post)
    (hn : (s.track.entries.map TrackEntry.tag).Nodup) (hdecides : s.Decides pre e)
    (hv : (s.toGate e).decideEntry e = (v, .decided d)) :
    atGateBody (toBytes 1 e.tag) s
      = (((v.gateEntry e d).handOn (post.map TrackEntry.tag)).afterEvent s, done [byteV d.code]) := by
  have hentries := State.gateEntry_entries h hn hv
  rcases hdecides with ⟨harrives, hpre⟩ | ⟨hstage, hstalled, g, hstall⟩
  · have hgate : s.toGate e = s.setStage e.tag .atGate := by simp [State.toGate, harrives.2.1]
    have hend : v.gateEntry e d = v.setGated e.tag d := by simp [State.gateEntry, harrives.2.1]
    rw [atGateBody_arrives htag h hn harrives, State.reachGate_decides h hn hpre, ← hgate, hv, hend]
    rfl
  · have hgate : s.toGate e = s := by simp [State.toGate, hstalled]
    have hend : v.gateEntry e d = (v.onBins fun m => { m with stall := none }).setGated e.tag d := by
      simp [State.gateEntry, hstalled]
    have hyounger : (v.gateEntry e d).younger e.tag = post.map TrackEntry.tag :=
      State.younger_of_split (e := e.gate d) hentries (by rw [hentries]; simpa [h, TrackEntry.gate] using hn)
    have hrepeat : s.repeatGate e = ((v.gateEntry e d).handOn ((v.gateEntry e d).younger e.tag), .decided d) := by
      rw [hgate] at hv
      simp only [State.repeatGate, hstalled, if_true, State.reevaluate, hstall, State.entry?_of_split h hn, hv, hend]
      rfl
    rw [atGateBody_repeats htag h hn hstage, hrepeat, hyounger]
    rfl

/-! ### From the body to the command -/

/-- A request that is due is answered with its body's values; no re-evaluation follows an event that frees no bin. -/
theorem exec_atGate {tr pl : List Notice} {fl : FlagSet} {bs : List Block} {ans : List Value} {z : State}
    (hdue : Due .atGate .track (toBytes 1 e.tag) s)
    (hbody : atGateBody (toBytes 1 e.tag) (s.dropFrame .track) = (z.afterEvent (s.dropFrame .track), done ans))
    (heff : Effects tr pl fl bs (s.dropFrame .track) z)
    (hfreed : ∀ j ∈ binNumbers, (z.bin j).state = .free → (s.bin j).state = .free)
    (hbs : .intake .track ∉ bs ∧ .responses .track ∉ bs) :
    ∃ t, exec (.atGate .track) s = .next t ∧ Answered .track .atGate .done ans s t
      ∧ Happened tr pl fl (requestBlocks .track ++ bs) s t
      ∧ t.track = z.track ∧ t.bins = z.bins ∧ t.census = z.census := by
  rw [State.afterEvent_of_none_freed (before := s.dropFrame .track) hfreed] at hbody
  obtain ⟨hexec, hans, hhap⟩ := exec_due_effects hdue rfl rfl hbody heff hbs
  exact ⟨_, hexec, hans, hhap, by simp, by simp, by simp⟩

/-- The hold output follows the stall (R195). -/
theorem Happened.hold_of_stall {tr pl : List Notice} {fl : FlagSet} {bs : List Block} {t : State} {w : Stall}
    (h : Happened tr pl fl bs s t) (hw : t.bins.stall = some w) : t.pins.hold = true := by
  rw [h.outputs]
  simp [State.outputs, State.holdOutput, State.stallCondition, hw]

/-! ### The hand-on over a run of diverted entries (R109) -/

/-- The hand-on over a run of diverted entries goes on with the rest of the queue. -/
theorem State.handOn_run {older run rest : List TrackEntry} (h : s.track.entries = older ++ (run ++ rest))
    (hn : (s.track.entries.map TrackEntry.tag).Nodup)
    (hrun : ∀ x ∈ run, (x.stage = .atGate ∧ x.stalled = false) ∧ s.Diverts x) :
    ∃ u, s.handOn ((run ++ rest).map TrackEntry.tag) = u.handOn (rest.map TrackEntry.tag)
      ∧ u.track.entries = older ++ run.map (TrackEntry.gate .divert) ++ rest ∧ u.bins = s.bins
      ∧ Effects (run.map fun x => .gateGo x.tag .divert) [] 0 [.entries] s u := by
  induction run generalizing s older with
  | nil => exact ⟨s, rfl, by simpa using h, rfl, .refl _ s⟩
  | cons x run ih =>
    obtain ⟨⟨hstage, hstalled⟩, hdiverts⟩ := hrun x List.mem_cons_self
    have heff := State.setGated_notify_effects (s := s) x.tag .divert
    have hstep : s.handOn (((x :: run) ++ rest).map TrackEntry.tag)
        = ((s.setGated x.tag .divert).notify .track (.gateGo x.tag .divert)).handOn
            ((run ++ rest).map TrackEntry.tag) := by
      simp only [List.cons_append, List.map_cons, State.handOn, State.entry?_of_split h hn, hstage, hstalled,
        State.decideEntry_of_diverts hdiverts]
      rfl
    have htrack : ((s.setGated x.tag .divert).notify .track (.gateGo x.tag .divert)).track.entries
        = (s.setGated x.tag .divert).track.entries := by simp
    obtain ⟨hentries, hnodup, -⟩ := State.gated_values (d := .divert) h hn htrack
    have hsame : s.SameGate ((s.setGated x.tag .divert).notify .track (.gateGo x.tag .divert)) :=
      .of_effects (heff.mono (by simp))
    obtain ⟨u, hu, huentries, hbins, hueff⟩ := ih hentries hnodup fun y hy => by
      obtain ⟨hgate, r, hr, hf⟩ := hrun y (List.mem_cons_of_mem _ hy)
      exact ⟨hgate, r, (hsame.piece? _).trans hr, hf⟩
    exact ⟨u, hstep.trans hu, by simp [huentries], by simp [hbins], (heff.trans hueff).congr rfl rfl (by simp)⟩

end

end Sys2Proof.Machine
end

section
/-! AT_GATE: the entry that waits, that is diverted or that is given a place in the OPEN tray of its group, and the
hand-on behind it (R103, R107 to R109, R146 to R152, R155). -/

namespace Sys2Proof.Machine

/-! ### Stalls (R151) -/

/-- What BIN_WAIT says of the dedicated bin of a group: the first bin dedicated to the slot, and its state (R151). -/
def Profile.dedicatedBin (f : Profile) (bin : Nat → Bin) : TrayGroup → Option (Nat × BinState)
  | .rule k => (binNumbers.find? fun j => f.dedicatedSlot j = some k).map fun j => (j, (bin j).state)
  | .fine _ | .area _ | .mixed => none

theorem Profile.dedicatedBin_congr {f : Profile} {bin bin' : Nat → Bin} (h : ∀ j ∈ binNumbers, bin j = bin' j)
    (g : TrayGroup) : f.dedicatedBin bin g = f.dedicatedBin bin' g := by
  cases g with
  | rule k =>
    refine Option.map_congr fun j hj => ?_
    rw [h j (List.mem_of_find?_eq_some hj)]
  | fine d => rfl
  | area a => rfl
  | mixed => rfl

section
variable {s u v : State} {pre post : List TrackEntry} {e : TrackEntry} {d : GateDecision} {g : TrayGroup} {r : Piece}

/-- The stall of an entry recorded, before BIN_WAIT is sent (R151). -/
def State.markStalled (tag : Nat) (g : TrayGroup) (s : State) : State :=
  (s.onEntry tag fun e => { e with stalled := true }).onBins fun m => { m with stall := some ⟨tag, g⟩ }

theorem State.markStalled_effects (tag : Nat) (g : TrayGroup) (s : State) :
    Effects [] [] 0 [.entries, .stall] s (s.markStalled tag g) := by
  refine Effects.of_changesOnly (fun b hb => ?_) (by simp) (by simp)
  cases b <;> first | rfl | simp at hb

theorem State.recordStall_spec (g : TrayGroup) (h : s.track.entries = pre ++ e :: post)
    (hn : (s.track.entries.map TrackEntry.tag).Nodup) {wait : Notice}
    (hw : wait = .binWait e.tag g (s.profile.dedicatedBin s.bin g)) :
    (s.recordStall e.tag g).track.entries = pre ++ { e with stalled := true } :: post
      ∧ (s.recordStall e.tag g).bins = { s.bins with stall := some ⟨e.tag, g⟩ }
      ∧ Effects [wait] [wait] 0 [.entries, .stall] s (s.recordStall e.tag g) := by
  have hrecord : s.recordStall e.tag g = (s.markStalled e.tag g).notifyBoth wait := by
    have hfind (k : Nat) : (fun j => s.profile.dedicatedSlot j == some k)
        = fun j => decide (s.profile.dedicatedSlot j = some k) := by
      funext j
      rw [beq_eq_decide]
    rw [hw]
    cases g with
    | rule k => simp only [State.recordStall, State.markStalled, Profile.dedicatedBin, hfind]
    | fine d => rfl
    | area a => rfl
    | mixed => rfl
  rw [hrecord]
  refine ⟨?_, by simp [State.markStalled],
    (s.markStalled_effects e.tag g).after ((State.notifyBoth_effects _ _).mono (by simp))⟩
  rw [(State.notifyBoth_fields _ _).2.2.2.2.1]
  exact State.onEntry_of_split _ h hn

/-! ### The hand-on to the entry behind (R109) -/

theorem State.handOn_stalls (h : s.track.entries = pre ++ e :: post) (hn : (s.track.entries.map TrackEntry.tag).Nodup)
    (hstage : e.stage = .atGate) (hstalled : e.stalled = false) (hv : s.decideEntry e = (v, .stall g)) :
    s.handOn ((e :: post).map TrackEntry.tag) = v.recordStall e.tag g := by
  simp [State.handOn, State.entry?_of_split h hn, hstage, hstalled, hv]

/-- The hand-on decides the entry behind, and stops before one that does not wait at the gate. -/
theorem State.handOn_decides (h : s.track.entries = pre ++ e :: post) (hn : (s.track.entries.map TrackEntry.tag).Nodup)
    (hstage : e.stage = .atGate) (hstalled : e.stalled = false) (hv : s.decideEntry e = (v, .decided d))
    (hpost : ∀ x, post.head? = some x → x.stage ≠ .atGate) :
    s.handOn ((e :: post).map TrackEntry.tag) = (v.setGated e.tag d).notify .track (.gateGo e.tag d)
      ∧ ((v.setGated e.tag d).notify .track (.gateGo e.tag d)).track.entries = pre ++ e.gate d :: post := by
  have htrack : v.track = s.track := by
    rw [← show (s.decideEntry e).1 = v from congrArg Prod.fst hv]
    simp
  rw [← htrack] at h hn
  obtain ⟨hentries, hnodup, -⟩ :=
    State.gated_values (d := d) (t := (v.setGated e.tag d).notify .track (.gateGo e.tag d)) h hn (by simp)
  refine ⟨?_, by simpa using hentries⟩
  have hstep : s.handOn ((e :: post).map TrackEntry.tag)
      = ((v.setGated e.tag d).notify .track (.gateGo e.tag d)).handOn (post.map TrackEntry.tag) := by
    rw [htrack] at h hn
    simp [State.handOn, State.entry?_of_split h hn, hstage, hstalled, hv]
  rw [hstep]
  exact State.handOn_stops hentries hnodup hpost

end

/-- The flags a state already has may be counted among those raised. -/
theorem Happened.absorb {s t : State} {tr pl : List Notice} {fl : FlagSet} {bs : List Block}
    (h : Happened tr pl fl bs s t) : Happened tr pl (s.flags ||| fl) bs s t where
  toTrack := h.toTrack
  toPlan := h.toPlan
  flags := by rw [← BitVec.or_assoc, BitVec.or_self, h.flags]
  outputs := h.outputs
  frame := h.frame

/-! ### AT_GATE executed -/

section
variable {s v : State} {pre post : List TrackEntry} {e : TrackEntry} {d : GateDecision} {g : TrayGroup} {r : Piece}
  {tr pl : List Notice} {fl : FlagSet} {bs : List Block} (htag : e.tag ≤ 63)
  (hdue : Due .atGate .track (toBytes 1 e.tag) s) (hn : (s.track.entries.map TrackEntry.tag).Nodup)
  (hsplit : s.track.entries = pre ++ e :: post)
include htag hdue hn hsplit

/-- An arrival behind an entry that is not GATED waits (R107). -/
theorem exec_atGate_waits (ha : s.Arrives pre e) (hx : ∃ x ∈ pre, x.stage ≠ .gated) :
    ∃ t, exec (.atGate .track) s = .next t ∧ Answered .track .atGate .done [.code .gateVerdict 1] s t
      ∧ t.track.entries = pre ++ { e with stage := .atGate } :: post
      ∧ Happened [] [] 0 (requestBlocks .track ++ [.entries]) s t := by
  have hbody := atGateBody_arrives (s := s.dropFrame .track) htag hsplit hn ha
  rw [State.reachGate_waits (s := s.dropFrame .track) hsplit hn hx] at hbody
  obtain ⟨t, hexec, hans, hhap, htrack, -, -⟩ :=
    exec_atGate hdue hbody (State.onEntry_effects _ _) (fun _ _ h => h) (by decide)
  exact ⟨t, hexec, hans, by rw [htrack]; exact State.setStage_of_split .atGate hsplit hn, hhap⟩

/-- AT_GATE repeated for an entry that waits changes nothing (R108). -/
theorem exec_atGate_still (hstage : e.stage = .atGate) (hstalled : e.stalled = false) :
    ∃ t, exec (.atGate .track) s = .next t ∧ Answered .track .atGate .done [.code .gateVerdict 1] s t
      ∧ Happened [] [] 0 (requestBlocks .track) s t := by
  have hbody := atGateBody_repeats (s := s.dropFrame .track) htag hsplit hn hstage
  rw [State.repeatGate, if_neg (by simp [hstalled])] at hbody
  obtain ⟨t, hexec, hans, hhap, -⟩ := exec_atGate (bs := []) hdue hbody (.refl _ _) (fun _ _ h => h) (by decide)
  exact ⟨t, hexec, hans, by simpa using hhap⟩

/-- An entry decided, with none waiting at the gate behind it (R107, R108). -/
theorem exec_atGate_gates (hdecides : s.Decides pre e) (hpost : ∀ x ∈ post, x.stage ≠ .atGate)
    (hv : ((s.dropFrame .track).toGate e).decideEntry e = (v, .decided d))
    (heff : Effects tr pl fl bs ((s.dropFrame .track).toGate e) v)
    (hfreed : ∀ j ∈ binNumbers, (v.bin j).state = .free → (s.bin j).state = .free)
    (hbs : .intake .track ∉ bs ∧ .responses .track ∉ bs) :
    ∃ t, exec (.atGate .track) s = .next t ∧ Answered .track .atGate .done [byteV d.code] s t
      ∧ t.track.entries = pre ++ e.gate d :: post
      ∧ t.bins = { v.bins with stall := if e.stalled then none else s.bins.stall } ∧ t.census = v.census
      ∧ Happened tr pl fl (requestBlocks .track ++ ([.entries, .stall] ++ bs)) s t := by
  have hentries := State.gateEntry_entries (s := s.dropFrame .track) hsplit hn hv
  have hnodup : ((v.gateEntry e d).track.entries.map TrackEntry.tag).Nodup := by
    rw [hentries]
    simpa [hsplit, TrackEntry.gate] using hn
  have hbody := atGateBody_decided (s := s.dropFrame .track) htag hsplit hn hdecides hv
  rw [State.handOn_stops (older := pre ++ [e.gate d]) (by simpa using hentries) hnodup
    fun x hx => hpost x (List.mem_of_head? hx)] at hbody
  have hbins := v.gateEntry_bins e d
  have hstall : v.bins.stall = s.bins.stall := by
    rw [← show (((s.dropFrame .track).toGate e).decideEntry e).1 = v from congrArg Prod.fst hv,
      State.decideEntry_stall]
    exact ((s.dropFrame .track).toGate_effects e).frame .stall (by simp)
  have hall : Effects tr pl fl ([.entries, .stall] ++ bs) (s.dropFrame .track) (v.gateEntry e d) :=
    ((((s.dropFrame .track).toGate_effects e).mono (by simp)).after (heff.mono (by simp +contextual))).before
      ((v.gateEntry_effects e d).mono (by simp +contextual))
  obtain ⟨t, hexec, hans, hhap, htrack, htbins, hcensus⟩ := exec_atGate hdue hbody hall
    (fun j hj => by rw [State.bin_eq_of_table (s := v) (by rw [hbins])]; exact hfreed j hj) (by simpa using hbs)
  refine ⟨t, hexec, hans, by rw [htrack, hentries], by rw [htbins, hbins, hstall], ?_, hhap⟩
  exact hcensus.trans ((v.gateEntry_effects e d).frame .census (by simp))

end

end Sys2Proof.Machine
end

section
/-! AT_GATE decides the oldest entry: what it answers and what it leaves, decision by decision (R107 to R109, R146 to
R152). -/

namespace Sys2Proof.Machine

/-- The state in which AT_GATE has the entry decided agrees with the one before on what the decision reads. -/
theorem State.atGate_sameGate (s : State) (e : TrackEntry) : s.SameGate ((s.dropFrame .track).toGate e)
    ∧ ((s.dropFrame .track).toGate e).census = s.census :=
  ⟨(State.SameGate.dropFrame s _).trans ((s.dropFrame .track).toGate_sameGate e),
    ((s.dropFrame .track).toGate_effects e).frame .census (by simp)⟩

section
variable {s : State} {pre post : List TrackEntry} {e : TrackEntry} {g : TrayGroup} {r : Piece} (htag : e.tag ≤ 63)
  (hdue : Due .atGate .track (toBytes 1 e.tag) s) (hn : (s.track.entries.map TrackEntry.tag).Nodup)
  (hsplit : s.track.entries = pre ++ e :: post) (hr : s.piece? e.piece = some r)
include htag hdue hn hsplit hr

/-- A faulted or cancel-pending piece is decided DIVERT (R146). -/
theorem exec_atGate_diverts (hdecides : s.Decides pre e) (hpost : ∀ x ∈ post, x.stage ≠ .atGate) (hfaulty : r.Faulty) :
    ∃ t, exec (.atGate .track) s = .next t ∧ Answered .track .atGate .done [byteV 0] s t
      ∧ t.track.entries = pre ++ e.gate .divert :: post
      ∧ t.bins.stall = (if e.stalled then none else s.bins.stall)
      ∧ Happened [] [] 0 (requestBlocks .track ++ [.entries, .stall]) s t := by
  obtain ⟨hsame, -⟩ := s.atGate_sameGate e
  have hdiverts := State.decideEntry_of_diverts ⟨r, (hsame.piece? _).trans hr, hfaulty⟩
  obtain ⟨t, hexec, hans, hentries, hbins, -, hhap⟩ := exec_atGate_gates (bs := []) htag hdue hn hsplit hdecides hpost
    hdiverts (.refl _ _) (fun j _ => by rw [hsame.bin]; exact id) (by decide)
  exact ⟨t, hexec, hans, hentries, by rw [hbins], hhap⟩

/-- A sound piece that fits the OPEN tray of its group takes a place there (R148, R150, R155). -/
theorem exec_atGate_fits {b : Nat} {y : Tray} (hdecides : s.Decides pre e) (hpost : ∀ x ∈ post, x.stage ≠ .atGate)
    (hsound : ¬ r.Faulty) (hg : (s.levelAnswer r).2 = g) (hb : b ∈ binNumbers) (hy : (s.bin b).tray = some y)
    (hyg : y.group = g) (ho : y.state = .opened)
    (honly : ∀ j ∈ binNumbers, ∀ z, (s.bin j).tray = some z → z.group = g → z.state = .opened → j = b)
    (hcount : y.count + y.reserved + 1 ≤ s.profile.sort.trayPieceLimit)
    (hmass : y.mass + y.reservedMass + r.finalMass ≤ s.profile.sort.trayMassLimit) {fills : Prop} [Decidable fills]
    (hf : fills ↔ y.count + y.reserved + 1 = s.profile.sort.trayPieceLimit) {ns : List Notice}
    (hns : ns = if fills then (s.bin b).closingNotices b y else []) :
    ∃ t, exec (.atGate .track) s = .next t ∧ Answered .track .atGate .done [byteV b] s t
      ∧ t.track.entries = pre ++ e.gate (.bin b) :: post
      ∧ t.bins.stall = (if e.stalled then none else s.bins.stall)
      ∧ t.bin b = (if fills then (s.bin b).closing .fullCount (y.reserve r.finalMass)
          else ⟨(s.bin b).state, some (y.reserve r.finalMass)⟩)
      ∧ (∀ j ∈ binNumbers, j ≠ b → t.bin j = s.bin j)
      ∧ t.bins.reservations = s.bins.reservations ++ [⟨e.tag, y.id, r.finalMass⟩]
      ∧ t.census = (s.levelAnswer r).1.census
      ∧ Happened ns ns (s.levelAnswer r).1.flags
          (requestBlocks .track ++ [.entries, .bins, .reservations, .stall, .census]) s t := by
  obtain ⟨hsame, hc⟩ := s.atGate_sameGate e
  obtain ⟨v, fl, hv, hbin, hother, hreservations, hcensus, hflags, heff⟩ :=
    hsame.decideEntry_fits hc hr hsound hg hb hy hyg ho honly hcount hmass hf hns
  have hfreed : ∀ j ∈ binNumbers, (v.bin j).state = .free → (s.bin j).state = .free := by
    intro j hj hfree
    by_cases hjb : j = b
    · subst hjb
      rw [hbin] at hfree
      split at hfree
      · exact absurd hfree (Bin.closing_state_ne_free _ _ _)
      · exact hfree
    · rwa [← hother j hj hjb]
  obtain ⟨t, hexec, hans, hentries, hbins, htcensus, hhap⟩ :=
    exec_atGate_gates htag hdue hn hsplit hdecides hpost hv heff hfreed (by decide)
  have htable (j : Nat) : t.bin j = v.bin j := State.bin_eq_of_table (by rw [hbins])
  refine ⟨t, hexec, hans, hentries, by rw [hbins], by rw [htable, hbin],
    fun j hj hne => (htable j).trans (hother j hj hne), by rw [hbins, hreservations], htcensus.trans hcensus, ?_⟩
  rw [hflags]
  exact hhap.absorb.mono (by decide)

/-- A repeat whose re-evaluation stalls again leaves what its level answer recorded (R108, R132, R152). -/
theorem exec_atGate_stallsAgain (hrepeats : s.Repeats e) (hsound : ¬ r.Faulty) (hg : (s.levelAnswer r).2 = g)
    (hunfit : ∀ j ∈ binNumbers, ∀ z, (s.bin j).tray = some z → z.group = g → z.state = .opened → 0 < z.reserved
      ∧ (s.profile.sort.trayPieceLimit < z.count + z.reserved + 1
        ∨ s.profile.sort.trayMassLimit < z.mass + z.reservedMass + r.finalMass))
    (hnone : ∀ j ∈ binNumbers, (s.bin j).state = .free → s.profile.dedicatedSlot j ≠ g.slot) :
    ∃ t, exec (.atGate .track) s = .next t ∧ Answered .track .atGate .done [.code .gateVerdict 0] s t
      ∧ t.census = (s.levelAnswer r).1.census
      ∧ Happened [] [] (s.levelAnswer r).1.flags (requestBlocks .track ++ [.census]) s t := by
  obtain ⟨hstage, hstalled, g', hstall⟩ := hrepeats
  have hsame := State.SameGate.dropFrame s .track
  have hverdict : ((s.dropFrame .track).decideEntry e).2 = .stall g := by
    cases hfind : s.openTrayBin g with
    | none =>
      obtain ⟨x, hx, hseeks⟩ := hsame.seeks rfl hr hsound hg fun j hj z hz hzg ho => by
        have hmissed := List.find?_eq_none.1 hfind j hj
        simp [hz, hzg, ho] at hmissed
      rw [hx, hseeks.stalls fun j hj hd hfree => hnone j hj hfree hd]
    | some c =>
      obtain ⟨hc, y, hy, hyg, ho⟩ := State.openTrayBin_spec hfind
      obtain ⟨hreserved, hlimits⟩ := hunfit c hc y hy hyg ho
      obtain ⟨x, hx, hseeks⟩ := hsame.seeks_unfit rfl hr hsound hg hfind hy hreserved hlimits rfl
      rw [hx, hseeks.stalls fun j hj hd hfree => hnone j hj (State.closingBins_free.1 hfree).2 hd]
  obtain ⟨w, fl, hlevel, hcensus, hflags, heff, hw⟩ := hsame.levelAnswer rfl r
  have hasked : (s.dropFrame .track).levelAsked e = w := by
    simp only [State.levelAsked, (hsame.piece? _).trans hr, hlevel]
  have hrepeat : (s.dropFrame .track).repeatGate e = (w, .stall) := by
    simp only [State.repeatGate, hstalled, if_true, State.reevaluate,
      show (s.dropFrame .track).bins.stall = some ⟨e.tag, g'⟩ from hstall,
      State.entry?_of_split (s := s.dropFrame .track) hsplit hn, hverdict, hasked]
    rfl
  have hbody := atGateBody_repeats (s := s.dropFrame .track) htag hsplit hn hstage
  rw [hrepeat] at hbody
  obtain ⟨t, hexec, hans, hhap, -, -, htcensus⟩ :=
    exec_atGate hdue hbody heff (fun j _ => by rw [hw.bin]; exact id) (by decide)
  refine ⟨t, hexec, hans, htcensus.trans hcensus, ?_⟩
  rw [hflags]
  exact hhap.absorb

end

/-! ### A repeat that gates the stalled entry, and the entries behind it (R109) -/

section
variable {s : State} {pre run rest : List TrackEntry} {e : TrackEntry} {r : Piece}

/-- The stalled entry and the run of diverted entries behind it are gated, and the hand-on goes on with the rest. -/
theorem State.handOn_behind_stalled (hn : (s.track.entries.map TrackEntry.tag).Nodup)
    (hsplit : s.track.entries = pre ++ e :: (run ++ rest)) (hr : s.piece? e.piece = some r) (hrepeats : s.Repeats e)
    (hfaulty : r.Faulty)
    (hrun : ∀ x ∈ run, x.stage = .atGate ∧ x.stalled = false ∧ ∃ y, s.piece? x.piece = some y ∧ y.Faulty) :
    ∃ u, (s.toGate e).decideEntry e = (s.toGate e, .decided .divert)
      ∧ ((s.toGate e).gateEntry e .divert).handOn ((run ++ rest).map TrackEntry.tag)
          = u.handOn (rest.map TrackEntry.tag)
      ∧ u.track.entries = pre ++ (e :: run).map (TrackEntry.gate .divert) ++ rest
      ∧ (u.track.entries.map TrackEntry.tag).Nodup ∧ u.bins = { s.bins with stall := none } ∧ s.SameGate u
      ∧ u.census = s.census
      ∧ Effects (run.map fun x => .gateGo x.tag .divert) [] 0 [.entries, .stall] s u := by
  have hsame := s.toGate_sameGate e
  have hdiverts := State.decideEntry_of_diverts ⟨r, (hsame.piece? _).trans hr, hfaulty⟩
  have hentries := State.gateEntry_entries hsplit hn hdiverts
  have hnodup : (((s.toGate e).gateEntry e .divert).track.entries.map TrackEntry.tag).Nodup := by
    rw [hentries]
    simpa [hsplit, TrackEntry.gate] using hn
  have hgate : Effects [] [] 0 [.entries, .stall] s ((s.toGate e).gateEntry e .divert) :=
    ((s.toGate_effects e).mono (by simp)).after ((s.toGate e).gateEntry_effects e .divert)
  have hgateSame : s.SameGate ((s.toGate e).gateEntry e .divert) := .of_effects (hgate.mono (by simp))
  obtain ⟨u, hu, huentries, hubins, hueff⟩ := 
    State.handOn_run (older := pre ++ [e.gate .divert]) (run := run) (rest := rest)
      (by simpa using hentries) hnodup fun x hx => by
      obtain ⟨hstage, hstalled, y, hy, hfaulty⟩ := hrun x hx
      exact ⟨⟨hstage, hstalled⟩, y, (hgateSame.piece? _).trans hy, hfaulty⟩
  have hall : Effects (run.map fun x => .gateGo x.tag .divert) [] 0 [.entries, .stall] s u :=
    hgate.after (hueff.mono (by simp))
  have hfinal : u.track.entries = pre ++ (e :: run).map (TrackEntry.gate .divert) ++ rest := by simp [huentries]
  refine ⟨u, hdiverts, hu, hfinal, ?_, ?_, .of_effects (hall.mono (by simp)), hall.frame .census (by simp), hall⟩
  · rw [hfinal]
    rw [hsplit] at hn
    simpa [TrackEntry.gate, Function.comp_def] using hn
  · rw [hubins, State.gateEntry_bins, if_pos hrepeats.2.1]
    simp [State.toGate, hrepeats.2.1]

end

end Sys2Proof.Machine
end

section
/-! AT_GATE repeated for a stalled entry that is gated, and the hand-on behind it (R108, R109). -/

namespace Sys2Proof.Machine

section
variable {s u : State} {older tail : List TrackEntry} {x : TrackEntry} {y : Piece} {g : TrayGroup}
  (h : s.SameGate u) (hc : u.census = s.census) (hsplit : u.track.entries = older ++ x :: tail)
  (hn : (u.track.entries.map TrackEntry.tag).Nodup) (hstage : x.stage = .atGate) (hstalled : x.stalled = false)
  (hy : s.piece? x.piece = some y) (hsound : ¬ y.Faulty) (hg : (s.levelAnswer y).2 = g)
include h hc hsplit hn hstage hstalled hy hsound hg

/-- The entry behind, of a group that has no OPEN tray and no FREE bin, stalls in its turn (R109, R151). -/
theorem State.SameGate.handOn_stalls
    (hnone : ∀ j ∈ binNumbers, ∀ z, (s.bin j).tray = some z → z.group = g → z.state ≠ .opened)
    (hbusy : ∀ j ∈ binNumbers, s.profile.dedicatedSlot j = g.slot → (s.bin j).state ≠ .free) {wait : Notice}
    (hw : wait = .binWait x.tag g (s.profile.dedicatedBin s.bin g)) :
    ∃ z fl, u.handOn ((x :: tail).map TrackEntry.tag) = z
      ∧ z.track.entries = older ++ { x with stalled := true } :: tail ∧ z.bins.stall = some ⟨x.tag, g⟩
      ∧ (∀ j ∈ binNumbers, z.bin j = s.bin j) ∧ z.census = (s.levelAnswer y).1.census
      ∧ (s.levelAnswer y).1.flags = s.flags ||| fl
      ∧ Effects [wait] [wait] fl ([.entries, .stall] ++ [.census]) u z := by
  obtain ⟨w, fl, hlevel, hcensus, hflags, heff, hsame⟩ := h.levelAnswer hc y
  rw [hg] at hlevel
  have hopen : w.openTrayBin g = none := State.openTrayBin_none fun j hj z hz => hnone j hj z (by rwa [← hsame.bin j])
  have hbin : w.binForTray g = none := State.binForTray_none fun j hj hd => by
    rw [hsame.bin]
    exact hbusy j hj (by rwa [← hsame.profile])
  have hv : u.decideEntry x = (w, .stall g) := by
    rw [State.decideEntry_sound ((h.piece? _).trans hy) hsound hlevel, State.placeInTray_new hopen,
      State.openOrStall, hbin]
  have htrack : w.track = u.track := by
    rw [← show (u.decideEntry x).1 = w from congrArg Prod.fst hv]
    simp
  obtain ⟨hentries, hbins, hrecord⟩ := State.recordStall_spec (s := w) (e := x) (wait := wait) g
    (by rw [htrack]; exact hsplit) (by rw [htrack]; exact hn)
    (by rw [hw, hsame.profile, Profile.dedicatedBin_congr fun j _ => hsame.bin j])
  refine ⟨_, fl, State.handOn_stalls hsplit hn hstage hstalled hv, hentries, by rw [hbins],
    fun j _ => (State.bin_eq_of_table (by rw [hbins])).trans (hsame.bin j),
    (hrecord.frame .census (by simp)).trans hcensus, hflags, ?_⟩
  exact ((heff.mono (by simp)).trans (hrecord.mono (by simp))).congr rfl rfl (by simp)

/-- The entry behind takes a place in the OPEN tray of its group, and the hand-on ends there (R109, R150). -/
theorem State.SameGate.handOn_fits {b : Nat} {z : Tray} (hb : b ∈ binNumbers)
    (htail : ∀ w, tail.head? = some w → w.stage ≠ .atGate) (hz : (s.bin b).tray = some z) (hzg : z.group = g)
    (ho : z.state = .opened)
    (honly : ∀ j ∈ binNumbers, ∀ z, (s.bin j).tray = some z → z.group = g → z.state = .opened → j = b)
    (hcount : z.count + z.reserved + 1 < s.profile.sort.trayPieceLimit)
    (hmass : z.mass + z.reservedMass + y.finalMass ≤ s.profile.sort.trayMassLimit) :
    ∃ v fl, u.handOn ((x :: tail).map TrackEntry.tag) = v ∧ v.track.entries = older ++ x.gate (.bin b) :: tail
      ∧ v.bins.stall = u.bins.stall ∧ v.bin b = ⟨(s.bin b).state, some (z.reserve y.finalMass)⟩
      ∧ (∀ j ∈ binNumbers, j ≠ b → v.bin j = s.bin j)
      ∧ v.bins.reservations = s.bins.reservations ++ [⟨x.tag, z.id, y.finalMass⟩]
      ∧ v.census = (s.levelAnswer y).1.census ∧ (s.levelAnswer y).1.flags = s.flags ||| fl
      ∧ Effects [.gateGo x.tag (.bin b)] [] fl ([.entries, .stall] ++ [.bins, .reservations, .census]) u v := by
  obtain ⟨v, fl, hv, hbin, hother, hreservations, hcensus, hflags, heff⟩ :=
    h.decideEntry_fits (fills := False) hc hy hsound hg hb hz hzg ho honly hcount.le hmass
      (iff_of_false id hcount.ne) (by rw [if_neg id])
  obtain ⟨hhand, hentries⟩ := State.handOn_decides hsplit hn hstage hstalled hv htail
  have hgate := State.setGated_notify_effects (s := v) x.tag (.bin b)
  have hbins : ((v.setGated x.tag (.bin b)).notify .track (.gateGo x.tag (.bin b))).bins = v.bins := by simp
  have hstall : v.bins.stall = u.bins.stall := heff.frame .stall (by simp)
  refine ⟨_, fl, hhand, hentries, by rw [hbins, hstall], by rw [State.bin_congr _ hbins, hbin, if_neg id],
    fun j hj hne => (State.bin_congr _ hbins).trans (hother j hj hne), by rw [hbins, hreservations],
    (hgate.frame .census (by simp)).trans hcensus, hflags, ?_⟩
  exact ((heff.mono (by simp)).trans (hgate.mono (by simp))).congr rfl rfl (by simp)

end

/-- A repeat that gates the stalled entry: the diverted entries behind it follow with their GATE_GO, and what the
hand-on does to the rest happens behind them (R108, R109). -/
theorem exec_atGate_handsOn {s : State} {pre run rest : List TrackEntry} {e : TrackEntry} {r : Piece}
    (htag : e.tag ≤ 63) (hdue : Due .atGate .track (toBytes 1 e.tag) s)
    (hn : (s.track.entries.map TrackEntry.tag).Nodup) (hsplit : s.track.entries = pre ++ e :: (run ++ rest))
    (hr : s.piece? e.piece = some r) (hrepeats : s.Repeats e)
    (hfaulty : r.Faulty)
    (hrun : ∀ x ∈ run, x.stage = .atGate ∧ x.stalled = false ∧ ∃ y, s.piece? x.piece = some y ∧ y.Faulty) :
    ∃ u : State, u.track.entries = pre ++ (e :: run).map (TrackEntry.gate .divert) ++ rest
      ∧ (u.track.entries.map TrackEntry.tag).Nodup ∧ u.bins.stall = none ∧ s.SameGate u ∧ u.census = s.census
      ∧ ∀ {z : State} {tr pl : List Notice} {fl : FlagSet} {bs : List Block}, u.handOn (rest.map TrackEntry.tag) = z →
          Effects tr pl fl ([.entries, .stall] ++ bs) u z →
          (∀ j ∈ binNumbers, (z.bin j).state = .free → (s.bin j).state = .free) →
          .intake .track ∉ bs ∧ .responses .track ∉ bs →
        ∃ t, exec (.atGate .track) s = .next t ∧ Answered .track .atGate .done [byteV 0] s t
          ∧ t.track = z.track ∧ t.bins = z.bins ∧ t.census = z.census
          ∧ Happened ((run.map fun x => .gateGo x.tag .divert) ++ tr) pl fl
              (requestBlocks .track ++ ([.entries, .stall] ++ bs)) s t := by
  have hdrop := State.SameGate.dropFrame s .track
  obtain ⟨u, hdiverts, hu, hentries, hnodup, hbins, hsame, hcensus, heff⟩ :=
    State.handOn_behind_stalled (s := s.dropFrame .track) hn hsplit hr hrepeats hfaulty hrun
  refine ⟨u, hentries, hnodup, by rw [hbins], hdrop.trans hsame, hcensus, fun {z tr pl fl bs} hz hzeff hfreed hbs => ?_⟩
  have hbody := atGateBody_decided (s := s.dropFrame .track) htag hsplit hn (pre := pre) (.inr hrepeats) hdiverts
  rw [hu, hz] at hbody
  have hall := ((heff.mono (cs := [.entries, .stall] ++ bs) (by simp +contextual)).trans hzeff).congr rfl rfl
    (BitVec.zero_or (x := fl))
  obtain ⟨t, hexec, hans, hhap, htrack, htbins, htcensus⟩ := exec_atGate hdue hbody hall hfreed (by simpa using hbs)
  exact ⟨t, hexec, hans, htrack, htbins, htcensus, hhap⟩

end Sys2Proof.Machine

open Sys2Proof Sys2Proof.Machine

/-- Settles O41: each answer of AT_GATE is the effect of the decision reached (`exec_atGate_gates`), or of the hand-on
behind a stalled entry that is gated (`exec_atGate_handsOn`). -/
theorem atGateDecidesTheOldestEntry : Obligations.AtGateDecidesTheOldestEntry := by
  intro pre post e r s htag hdue hbounded hsplit hr arrives repeats decides faulty gated stall
  obtain ⟨-, hn, -⟩ := hbounded
  have hdecides (h : decides) : s.Decides pre e := by
    rcases h with ⟨h, hpre⟩ | h
    · exact .inl ⟨h, hpre⟩
    · exact .inr h
  refine ⟨fun ha => exec_atGate_waits htag hdue hn hsplit ha, exec_atGate_still htag hdue hn hsplit,
    fun h hpost hfaulty => exec_atGate_diverts htag hdue hn hsplit hr (hdecides h) hpost hfaulty, ?_, ?_, ?_⟩
  · intro g b y h hpost hsound hg hb hy hyg ho honly hcount hmass
    exact exec_atGate_fits htag hdue hn hsplit hr (hdecides h) hpost hsound hg hb hy hyg ho honly hcount hmass
      decide_eq_true_iff rfl
  · intro g h hsound hg hunfit hnone
    exact exec_atGate_stallsAgain htag hdue hn hsplit hr h hsound hg hunfit
      fun j hj hfree hd => hnone j hj hfree (hd.trans (by cases g <;> rfl))
  · intro run rest h hfaulty hpost hrun gos results
    subst hpost
    obtain ⟨u, hentries, hnodup, hstall, hsame, hcensus, hexec⟩ :=
      exec_atGate_handsOn htag hdue hn hsplit hr h hfaulty hrun
    refine ⟨fun hrest => ?_, fun x tail y g hrest hstage hstalled hy hsound hg => ?_⟩
    · obtain ⟨t, hnext, hans, htrack, hbins, -, hhap⟩ := hexec (bs := []) (State.handOn_stops hentries hnodup hrest)
        (.refl _ _) (fun j _ => by rw [hsame.bin]; exact id) (by decide)
      exact ⟨t, ⟨hnext, hans, by rw [htrack]; exact hentries, hhap⟩, by rw [hbins, hstall]⟩
    · subst hrest
      refine ⟨fun hnone hbusy => ?_, fun b z htail hb hz hzg ho honly hcount hmass => ?_⟩
      · intro dedicated wait
        have hwait : wait = .binWait x.tag g (s.profile.dedicatedBin s.bin g) :=
          congrArg (Notice.binWait x.tag g) (by cases g <;> rfl)
        obtain ⟨z, fl, hz, hzentries, hzstall, hzbin, hzcensus, hflags, heff⟩ :=
          hsame.handOn_stalls hcensus hentries hnodup hstage hstalled hy hsound hg hnone
            (fun j hj hd hfree => hbusy j hj hfree (hd.trans (by cases g <;> rfl))) hwait
        obtain ⟨t, hnext, hans, htrack, hbins, htcensus, hhap⟩ := hexec hz heff
          (fun j hj => by rw [hzbin j hj]; exact id) (by decide)
        refine ⟨t, ⟨hnext, hans, by rw [htrack]; exact hzentries, ?_⟩, by rw [hbins, hzstall],
          hhap.hold_of_stall (by rw [hbins, hzstall]), htcensus.trans hzcensus⟩
        rw [hflags]
        exact hhap.absorb.mono (by simp)
      · obtain ⟨v, fl, hv, hventries, hvstall, hvbin, hvother, hvreservations, hvcensus, hflags, heff⟩ :=
          hsame.handOn_fits hcensus hentries hnodup hstage hstalled hy hsound hg hb htail hz hzg ho honly hcount hmass
        have hfreed : ∀ j ∈ binNumbers, (v.bin j).state = .free → (s.bin j).state = .free := by
          intro j hj
          by_cases hjb : j = b
          · rw [hjb, hvbin]
            exact id
          · rw [hvother j hj hjb]
            exact id
        obtain ⟨t, hnext, hans, htrack, hbins, htcensus, hhap⟩ := hexec hv heff hfreed (by decide)
        refine ⟨t, ⟨hnext, hans, by rw [htrack]; exact hventries, ?_⟩, by rw [hbins, hvstall, hstall],
          htcensus.trans hvcensus, (State.bin_congr _ hbins).trans hvbin,
          fun j hj hne => (State.bin_congr _ hbins).trans (hvother j hj hne), by rw [hbins, hvreservations]⟩
        rw [hflags]
        exact hhap.absorb.mono (by simp)
end

section
/-! AT_GATE opens a tray for the oldest entry, or has it stall (R108, R145, R148 to R151, R155). -/

namespace Sys2Proof.Machine

/-! ### The continuation number (R145) -/

theorem foldl_max_le_iff (l : List Nat) (a n : Nat) : l.foldl max a ≤ n ↔ a ≤ n ∧ ∀ x ∈ l, x ≤ n := by
  induction l generalizing a with
  | nil => simp
  | cons x l ih => simp [ih, and_assoc]

theorem State.mem_heldTrays {s : State} {z : Tray} :
    z ∈ s.heldTrays ↔ (∃ b ∈ binNumbers, (s.bin b).tray = some z) ∨ z ∈ s.bins.closedTrays := by
  simp [State.heldTrays]

/-- The continuation number is one above the highest of the trays of the same run and group still held (R145). -/
theorem State.nextContinuation_above {s : State} {g : TrayGroup} {n : Nat} (hn : n < 65535)
    (hle : ∀ z ∈ s.heldTrays, z.run = s.run.runNumber → z.group = g → z.continuation ≤ n)
    (hmax : n = 0 ∨ ∃ z ∈ s.heldTrays, z.run = s.run.runNumber ∧ z.group = g ∧ z.continuation = n) :
    s.nextContinuation g = n + 1 := by
  have hhighest : ((s.heldTrays.filter fun t => t.run == s.run.runNumber && t.group == g).map
      Tray.continuation).foldl max 0 = n := by
    refine le_antisymm ((foldl_max_le_iff _ _ _).2 ⟨Nat.zero_le n, fun k hk => ?_⟩) ?_
    · obtain ⟨z, hz, rfl⟩ := List.mem_map.1 hk
      obtain ⟨hheld, hrun, hgroup⟩ := by simpa using hz
      exact hle z hheld hrun hgroup
    · rcases hmax with rfl | ⟨z, hheld, hrun, hgroup, rfl⟩
      · exact Nat.zero_le _
      · exact ((foldl_max_le_iff _ _ _).1 le_rfl).2 _ (List.mem_map_of_mem (by simp [hheld, hrun, hgroup]))
  simp only [State.nextContinuation, hhighest, Nat.add_comm 1 n]
  exact if_pos (by omega)

/-! ### AT_GATE executed, with a bin sought for the piece -/

section
variable {s x : State} {pre post : List TrackEntry} {e : TrackEntry} {g : TrayGroup} {r : Piece}
  {closing ns : List Notice} {others : Nat → Bin} (htag : e.tag ≤ 63)
  (hdue : Due .atGate .track (toBytes 1 e.tag) s) (hn : (s.track.entries.map TrackEntry.tag).Nodup)
  (hsplit : s.track.entries = pre ++ e :: post)
  (hx : ((s.dropFrame .track).toGate e).decideEntry e = x.openOrStall g e.tag r.finalMass)
  (hseeks : s.Seeks r closing others ((s.dropFrame .track).toGate e) x)
  (hothers : ∀ j ∈ binNumbers, (others j).state = .free → (s.bin j).state = .free)
include htag hdue hn hsplit hx hseeks hothers

/-- A tray opens for the piece in the lowest FREE bin that takes its group, and the entry is gated (R145, R149). -/
theorem exec_atGate_opens {b id : Nat} {fresh : Tray} (hdecides : s.Decides pre e)
    (hpost : ∀ y ∈ post, y.stage ≠ .atGate) (hb : b ∈ binNumbers) (hd : s.profile.dedicatedSlot b = g.slot)
    (hfree : (others b).state = .free)
    (hfirst : ∀ j ∈ binNumbers, j < b → s.profile.dedicatedSlot j = g.slot → (others j).state ≠ .free)
    (hid : id = s.bins.trayCounter) (hfresh : fresh = (s.newTray b g).reserve r.finalMass)
    (hns : ns = closing ++ [.binState b .opened (some id)]
      ++ if s.profile.sort.trayPieceLimit = 1 then [.binState b .fullWait (some id)] else []) :
    ∃ t, exec (.atGate .track) s = .next t ∧ Answered .track .atGate .done [byteV b] s t
      ∧ t.track.entries = pre ++ e.gate (.bin b) :: post
      ∧ t.bin b = (if s.profile.sort.trayPieceLimit = 1 then (⟨.opened, none⟩ : Bin).closing .fullCount fresh
          else ⟨.opened, some fresh⟩)
      ∧ (∀ j ∈ binNumbers, j ≠ b → t.bin j = others j)
      ∧ t.bins.trayCounter = (if id = 65535 then 1 else id + 1)
      ∧ t.bins.reservations = s.bins.reservations ++ [⟨e.tag, id, r.finalMass⟩]
      ∧ t.bins.stall = (if e.stalled then none else s.bins.stall) ∧ t.census = (s.levelAnswer r).1.census
      ∧ Happened ns ns (s.levelAnswer r).1.flags
          (requestBlocks .track ++ [.entries, .bins, .trayCounter, .reservations, .stall, .census]) s t := by
  obtain ⟨v, fl, hv, hbin, hother, hcounter, hreservations, hcensus, hflags, heff⟩ :=
    hseeks.opens hb hd hfree hfirst hid hfresh hns
  have hfreed : ∀ j ∈ binNumbers, (v.bin j).state = .free → (s.bin j).state = .free := by
    intro j hj hfree
    by_cases hjb : j = b
    · rw [hjb, hbin] at hfree
      split at hfree
      · exact absurd hfree (Bin.closing_state_ne_free _ _ _)
      · cases hfree
    · rw [hother j hj hjb] at hfree
      exact hothers j hj hfree
  obtain ⟨t, hexec, hans, hentries, hbins, htcensus, hhap⟩ :=
    exec_atGate_gates htag hdue hn hsplit hdecides hpost (hx.trans hv) heff hfreed (by decide)
  have htable (j : Nat) : t.bin j = v.bin j := State.bin_eq_of_table (by rw [hbins])
  refine ⟨t, hexec, hans, hentries, (htable b).trans hbin, fun j hj hne => (htable j).trans (hother j hj hne),
    by rw [hbins, hcounter], by rw [hbins, hreservations], by rw [hbins], htcensus.trans hcensus, ?_⟩
  rw [hflags]
  exact hhap.absorb.mono (by decide)

/-- With no FREE bin that takes its group, a piece that arrives stalls (R151). -/
theorem exec_atGate_stalls (ha : s.Arrives pre e) (hpre : ∀ y ∈ pre, y.stage = .gated)
    (hbusy : ∀ j ∈ binNumbers, s.profile.dedicatedSlot j = g.slot → (others j).state ≠ .free) {wait : Notice}
    (hw : wait = .binWait e.tag g (s.profile.dedicatedBin others g)) :
    ∃ t, exec (.atGate .track) s = .next t ∧ Answered .track .atGate .done [.code .gateVerdict 0] s t
      ∧ t.track.entries = pre ++ { e with stage := .atGate, stalled := true } :: post
      ∧ t.bins.stall = some ⟨e.tag, g⟩ ∧ t.pins.hold = true ∧ (∀ j ∈ binNumbers, t.bin j = others j)
      ∧ Happened (closing ++ [wait]) (closing ++ [wait]) (s.levelAnswer r).1.flags
          (requestBlocks .track ++ [.entries, .bins, .stall, .census]) s t
      ∧ t.census = (s.levelAnswer r).1.census := by
  have hgate : (s.dropFrame .track).toGate e = (s.dropFrame .track).setStage e.tag .atGate := by
    simp [State.toGate, ha.2.1]
  have hv := hx.trans (hseeks.stalls hbusy)
  have htrack : x.track = ((s.dropFrame .track).setStage e.tag .atGate).track := by
    rw [← show (((s.dropFrame .track).toGate e).decideEntry e).1 = x from congrArg Prod.fst hv, ← hgate]
    simp
  have hentries := State.setStage_of_split (s := s.dropFrame .track) .atGate hsplit hn
  have hnodup : (((s.dropFrame .track).setStage e.tag .atGate).track.entries.map TrackEntry.tag).Nodup := by
    rw [State.setStage_tags]
    exact hn
  rw [← htrack] at hentries hnodup
  obtain ⟨hstalled, hbins, hrecord⟩ := State.recordStall_spec (e := { e with stage := .atGate }) (wait := wait) g
    hentries hnodup (by rw [hw, hseeks.profile, Profile.dedicatedBin_congr hseeks.bin])
  have hbody := atGateBody_arrives (s := s.dropFrame .track) htag hsplit hn ha
  rw [State.reachGate_decides (s := s.dropFrame .track) hsplit hn hpre, ← hgate, hv] at hbody
  obtain ⟨fl, hflags, heff⟩ := hseeks.effects
  have hall : Effects (closing ++ [wait]) (closing ++ [wait]) fl [.entries, .bins, .stall, .census] (s.dropFrame .track)
      (x.recordStall e.tag g) :=
    ((((s.dropFrame .track).toGate_effects e).mono (by decide)).after
      ((heff.mono (by decide)).trans (hrecord.mono (by decide)))).congr rfl rfl (by simp)
  have htable : ∀ j ∈ binNumbers, (x.recordStall e.tag g).bin j = others j := fun j hj =>
    (State.bin_eq_of_table (by rw [hbins])).trans (hseeks.bin j hj)
  obtain ⟨t, hexec, hans, hhap, httrack, htbins, htcensus⟩ := exec_atGate hdue hbody hall
    (fun j hj => by rw [htable j hj]; exact hothers j hj) (by decide)
  have hstall : t.bins.stall = some ⟨e.tag, g⟩ := by rw [htbins, hbins]
  refine ⟨t, hexec, hans, by rw [httrack]; exact hstalled, hstall, hhap.hold_of_stall hstall,
    fun j hj => (State.bin_congr _ htbins).trans (htable j hj), ?_,
    htcensus.trans ((hrecord.frame .census (by simp)).trans hseeks.census)⟩
  rw [hflags]
  exact hhap.absorb

end

end Sys2Proof.Machine

open Sys2Proof Sys2Proof.Machine

/-- Settles O42: the piece seeks a bin in the state its level answer leaves, or once the OPEN tray of its group has
begun closing (`State.Seeks`); there a tray opens for it, or it stalls. -/
theorem atGateOpensATrayOrStalls : Obligations.AtGateOpensATrayOrStalls := by
  intro pre post e r g s htag hdue hbounded hsplit hpre hgate hpost hr hfaults hcancel hg kind asked l id fresh opens
    stalls
  obtain ⟨-, hn, -⟩ := hbounded
  have hsound : ¬ r.Faulty := not_or.2 ⟨by simp [hfaults], by simp [hcancel]⟩
  have hslot (j : Nat) : kind j ↔ s.profile.dedicatedSlot j = g.slot := by cases g <;> exact Iff.rfl
  have harrives (h : e.stage = s.precedingStage .atGate ∧ e.stalled = false) : s.Arrives pre e :=
    ⟨h.1, h.2, fun x hx => by rw [hpre x hx]; decide⟩
  have hdecides : s.Decides pre e := hgate.imp (fun h => ⟨harrives h, hpre⟩) fun h => h
  have hopens {closing others x}
      (hx : ((s.dropFrame .track).toGate e).decideEntry e = x.openOrStall g e.tag r.finalMass)
      (hseeks : s.Seeks r closing others ((s.dropFrame .track).toGate e) x)
      (hothers : ∀ j ∈ binNumbers, (others j).state = .free → (s.bin j).state = .free) (b : Nat) (hb : b ∈ binNumbers)
      (hkind : kind b) (hfree : (others b).state = .free)
      (hfirst : ∀ j ∈ binNumbers, j < b → kind j → (others j).state ≠ .free) : opens b closing others :=
    exec_atGate_opens htag hdue hn hsplit hx hseeks hothers hdecides hpost hb ((hslot b).1 hkind) hfree
      (fun j hj hlt hd => hfirst j hj hlt ((hslot j).2 hd)) rfl (by simp [fresh, id, State.newTray, Tray.reserve]) rfl
  have hstalls {closing others x}
      (hx : ((s.dropFrame .track).toGate e).decideEntry e = x.openOrStall g e.tag r.finalMass)
      (hseeks : s.Seeks r closing others ((s.dropFrame .track).toGate e) x)
      (hothers : ∀ j ∈ binNumbers, (others j).state = .free → (s.bin j).state = .free) (hstalled : e.stalled = false)
      (hbusy : ∀ j ∈ binNumbers, kind j → (others j).state ≠ .free) : stalls closing others := by
    have ha : s.Arrives pre e := by
      rcases hgate with h | h
      · exact harrives h
      · rw [hstalled] at h
        cases h.2.1
    exact exec_atGate_stalls htag hdue hn hsplit hx hseeks hothers ha hpre
      (fun j hj hd => hbusy j hj ((hslot j).2 hd)) (congrArg (Notice.binWait e.tag g) (by cases g <;> rfl))
  obtain ⟨hsame, hc⟩ := s.atGate_sameGate e
  refine ⟨fun hnone => ?_, fun c y hc' hy hyg ho honly hreserved hunfit => ?_, ?_⟩
  · obtain ⟨x, hx, hseeks⟩ := hsame.seeks hc hr hsound hg hnone
    exact ⟨hopens hx hseeks fun _ _ h => h, hstalls hx hseeks fun _ _ h => h⟩
  · intro reason others
    obtain ⟨x, hx, hseeks⟩ := hsame.seeks_unfit (reason := reason) hc hr hsound hg
      (State.openTrayBin_some hc' hy hyg ho honly) hy hreserved hunfit rfl
    have hothers (j : Nat) (_ : j ∈ binNumbers) (hfree : (s.closingBins c reason y j).state = .free) :
        (s.bin j).state = .free := (State.closingBins_free.1 hfree).2
    refine ⟨fun b hb hne hkind hfree hfirst => hopens hx hseeks hothers b hb hkind
      (State.closingBins_free.2 ⟨hne, hfree⟩)
      fun j hj hlt hd hjfree => ?_, fun hstalled hbusy => hstalls hx hseeks hothers hstalled fun j hj hd hjfree => ?_⟩
    · obtain ⟨hjc, hjfree⟩ := State.closingBins_free.1 hjfree
      exact hfirst j hj hlt hjc hd hjfree
    · obtain ⟨hjc, hjfree⟩ := State.closingBins_free.1 hjfree
      exact hbusy j hj hjc hd hjfree
  · intro n same hlt hle hmax
    refine State.nextContinuation_above hlt (fun z hz hrun hgroup => hle z ⟨State.mem_heldTrays.1 hz, hrun, hgroup⟩)
      (hmax.imp_right ?_)
    rintro ⟨z, ⟨hz, hrun, hgroup⟩, hz'⟩
    exact ⟨z, State.mem_heldTrays.2 hz, hrun, hgroup, hz'⟩
end

section
/-! READ_CENSUS (R135, R207): the key order of prefixes, the starting point in its payload, and the entries that
follow it. -/

namespace Sys2Proof.Machine

/-! ### Key order (R135) -/

/-- Of two prefixes at most one stands before the other. -/
theorem digitsBefore_asymm {as bs : List Nat} (h : digitsBefore as bs = true) : digitsBefore bs as = false := by
  induction as generalizing bs with
  | nil =>
    cases bs with
    | nil => rfl
    | cons b bs => rfl
  | cons a as ih =>
    cases bs with
    | nil => cases h
    | cons b bs =>
      simp only [digitsBefore, Bool.or_eq_true, Bool.and_eq_true, decide_eq_true_eq, beq_iff_eq] at h
      rcases h with hlt | ⟨rfl, hrest⟩
      · have hne : b ≠ a := by omega
        simp [digitsBefore, hne]
        omega
      · simp [digitsBefore, ih hrest]

theorem digitsBefore_self (ds : List Nat) : digitsBefore ds ds = false := by
  cases h : digitsBefore ds ds with
  | false => rfl
  | true => exact h.symm.trans (digitsBefore_asymm h)

/-! ### Leading digits in four bytes (R204) -/

/-- Fewer than eight digits are laid out as the key that F hex fills up to eight positions. -/
theorem digitBytes_fill (ds : List Nat) (n : Nat) : digitBytes (ds ++ List.replicate n 15) = digitBytes ds := by
  have hget (i : Nat) : (ds ++ List.replicate n 15).getD i 15 = ds.getD i 15 := by
    simp only [List.getD_eq_getElem?_getD]
    by_cases hi : i < ds.length
    · rw [List.getElem?_append_left hi]
    · rw [List.getElem?_append_right (by omega), List.getElem?_eq_none (l := ds) (by omega), List.getElem?_replicate]
      split <;> rfl
  simp only [digitBytes, hget]

/-- The leading digits of a key are read back from their four bytes. -/
theorem take_halves_digitBytes {ds : List Nat} (hl : ds.length ≤ 8) (hd : ∀ d ∈ ds, d ≤ 9) :
    (halves (digitBytes ds)).take ds.length = ds := by
  have hfill : halves (digitBytes (ds ++ List.replicate (8 - ds.length) 15))
      = ds ++ List.replicate (8 - ds.length) 15 := by
    refine halves_digitBytes (by simp; omega) fun d hmem => ?_
    rcases List.mem_append.1 hmem with hmem | hmem
    · exact (hd d hmem).trans (by decide)
    · exact (List.eq_of_mem_replicate hmem).le
  rw [← digitBytes_fill ds (8 - ds.length), hfill, List.take_left]

/-- Half-byte `i` of a list of bytes, high half first. -/
theorem getElem?_halves (bs : List Byte) {i : Nat} (hi : i < 2 * bs.length) :
    (halves bs)[i]? = some (if i % 2 = 0 then byteAt bs (i / 2) / 16 else byteAt bs (i / 2) % 16) := by
  induction bs generalizing i with
  | nil => simp at hi
  | cons b bs ih =>
    match i, hi with
    | 0, _ => rfl
    | 1, _ => rfl
    | i + 2, hi =>
      have hdiv : (i + 2) / 2 = i / 2 + 1 := by omega
      simp only [halves, List.getElem?_cons_succ, Nat.add_mod_right, hdiv]
      exact ih (by simp at hi; omega)

/-- The bytes of the leading digits of a key, each two half-bytes (R204). -/
theorem digitsV_eq {ds : List Nat} (hd : ∀ d ∈ ds, d ≤ 9) :
    digitsV ds = [0, 2, 4, 6].map fun i => byteV (ds.getD i 15 * 16 + ds.getD (i + 1) 15) := by
  have hle (i : Nat) : ds.getD i 15 ≤ 15 := by
    rw [List.getD_eq_getElem?_getD]
    cases hi : ds[i]? with
    | none => rfl
    | some d => exact (hd d (List.mem_of_getElem? hi)).trans (by decide)
  rw [digitsV, digitBytes, List.map_map]
  refine List.map_congr_left fun i _ => congrArg byteV ?_
  have hhigh := hle i
  have hlow := hle (i + 1)
  rw [BitVec.toNat_ofNat]
  omega

/-! ### The starting point (R135, R207) -/

section
variable {t : SortSettings} {pl : List Byte}

/-- The length of the prefixes of a kind: 0 for fine entries, 1 for area entries (R120, R207). -/
def SortSettings.prefixLength (t : SortSettings) (kind : Nat) : Nat := if kind = 0 then t.fineLength else t.areaLength

theorem SortSettings.prefixLength_le (ht : t.inRange = true) (kind : Nat) : t.prefixLength kind ≤ 8 := by
  have hrange := (SortSettings.inRange_iff t).1 ht
  unfold SortSettings.prefixLength
  split <;> omega

/-- The starting point of a payload of six bytes: the digits of its kind's length, when the kind and each digit is in
range. -/
theorem censusStartOf_six (hl : pl.length ≠ 1) : censusStartOf t pl =
    if byteAt pl 0 ≤ 1 ∧ ∀ d ∈ (halves ((pl.drop 2).take 4)).take (t.prefixLength (byteAt pl 0)), d ≤ 9 then
      some (some ((halves ((pl.drop 2).take 4)).take (t.prefixLength (byteAt pl 0))))
    else none := by
  unfold censusStartOf SortSettings.prefixLength
  rw [if_neg hl]
  match byteAt pl 0 with
  | 0 => simp
  | 1 => simp
  | n + 2 => simp

/-- The digits of an entry name the place where the entry stands, whatever the level byte. -/
theorem censusStartOf_named {kind : Nat} {level : Byte} {ds : List Nat} (hk : kind ≤ 1)
    (hds : ds.length = t.prefixLength kind) (ht : t.inRange = true) (hd : ∀ d ∈ ds, d ≤ 9) :
    censusStartOf t (toBytes 1 kind ++ [level] ++ digitBytes ds) = some (some ds) := by
  have hkind : byteAt (toBytes 1 kind ++ [level] ++ digitBytes ds) 0 = kind :=
    (byteAt_toBytes_one kind).trans (Nat.mod_eq_of_lt (by omega))
  have hbytes : ((toBytes 1 kind ++ [level] ++ digitBytes ds).drop 2).take 4 = digitBytes ds := rfl
  have hdigits : (halves (digitBytes ds)).take (t.prefixLength kind) = ds := by
    rw [← hds]
    exact take_halves_digitBytes (hds ▸ SortSettings.prefixLength_le ht kind) hd
  rw [censusStartOf_six (by simp), hkind, hbytes, hdigits, if_pos ⟨hk, hd⟩]

/-- A starting point of one byte other than FF hex names none. -/
theorem censusStartOf_one (hl : pl.length = 1) (h : byteAt pl 0 ≠ 255) : censusStartOf t pl = none := by
  rw [censusStartOf, if_pos hl, if_neg h]

/-- A kind other than 0 and 1, and a digit above 9, name no starting point. -/
theorem censusStartOf_outOfRange (hl : pl.length = 6) (ht : t.inRange = true)
    (h : 1 < byteAt pl 0 ∨ ∃ i < t.prefixLength (byteAt pl 0),
      9 < (if i % 2 = 0 then byteAt pl (2 + i / 2) / 16 else byteAt pl (2 + i / 2) % 16)) :
    censusStartOf t pl = none := by
  rw [censusStartOf_six (by omega)]
  refine if_neg fun ⟨hkind, hdigits⟩ => ?_
  obtain ⟨i, hi, hbig⟩ := h.resolve_left (by omega)
  have hi8 : i < 8 := hi.trans_le (SortSettings.prefixLength_le ht _)
  have hbyte : byteAt ((pl.drop 2).take 4) (i / 2) = byteAt pl (2 + i / 2) := by
    simp only [byteAt, List.getD_eq_getElem?_getD, List.getElem?_take, List.getElem?_drop]
    rw [if_pos (by omega)]
  have hget := getElem?_halves ((pl.drop 2).take 4) (i := i) (by simp; omega)
  rw [hbyte] at hget
  have hmem := List.mem_of_getElem? ((List.getElem?_take_of_lt hi).trans hget)
  exact absurd (hdigits _ hmem) (by omega)

end

/-! ### The entries that follow -/

section
variable {s : State} {xs ys : List CensusEntry} {ds : List Nat}

/-- Where the census is split by a starting point, the entries behind it follow. -/
theorem State.censusAfter_split (h : s.census = xs ++ ys) (hxs : ∀ x ∈ xs, digitsBefore ds x.digits = false)
    (hys : ∀ y ∈ ys, digitsBefore ds y.digits = true) : s.censusAfter (some ds) = ys := by
  have hnone : xs.filter (fun e => digitsBefore ds e.digits) = [] :=
    List.filter_eq_nil_iff.2 fun x hx => by simp [hxs x hx]
  have hall : ys.filter (fun e => digitsBefore ds e.digits) = ys := List.filter_eq_self.2 hys
  simp only [State.censusAfter, h, List.filter_append, hnone, hall, List.nil_append]

/-- A census in key order is split by each of its entries: those before it do not follow it, those after it do. -/
theorem census_split_of_sorted {e : CensusEntry} (h : s.census = xs ++ e :: ys)
    (hsorted : s.census.Pairwise fun x y => digitsBefore x.digits y.digits = true) :
    (∀ x ∈ xs ++ [e], digitsBefore e.digits x.digits = false) ∧ ∀ y ∈ ys, digitsBefore e.digits y.digits = true := by
  rw [h, List.pairwise_append, List.pairwise_cons] at hsorted
  obtain ⟨-, ⟨hafter, -⟩, hbefore⟩ := hsorted
  refine ⟨fun x hx => ?_, hafter⟩
  rcases List.mem_append.1 hx with hx | hx
  · exact digitsBefore_asymm (hbefore x hx e List.mem_cons_self)
  · rw [List.mem_singleton.1 hx]
    exact digitsBefore_self _

/-- The answer of READ_CENSUS when `es` follow the starting point (R135). -/
def State.censusAnswer (s : State) (es : List CensusEntry) : List Value :=
  (es.take 16).flatMap s.censusEntryV ++ [.code .count s.census.length, byteV s.profile.sort.fineLength,
    byteV s.profile.sort.areaLength, flagV (decide (16 < es.length))]

theorem readCensus_answered {p : Port} {pl : List Byte} {start : Option (List Nat)} {es : List CensusEntry}
    (hdue : Due .readCensus p pl s) (hl : pl.length = 1 ∨ pl.length = 6)
    (hstart : censusStartOf s.profile.sort pl = some start) (hes : s.censusAfter start = es) :
    ∃ t, exec (.readCensus p) s = .next t ∧ Happened [] [] 0 (requestBlocks p) s t
      ∧ Answered p .readCensus .done (s.censusAnswer es) s t := by
  have hbody : RequestKind.readCensus.body p pl (s.dropFrame p) = (s.dropFrame p, done (s.censusAnswer es)) := by
    have hes' : (s.dropFrame p).censusAfter start = es := hes
    simp only [RequestKind.body, readCensusBody, State.dropFrame_fields, hstart, hes']
    rfl
  obtain ⟨t, hexec, hans, hhap⟩ := exec_due_unchanged (k := .readCensus) hdue (by cases p <;> rfl)
    (by simpa [RequestKind.lengthAllowed] using hl) hbody
  exact ⟨t, hexec, hhap, hans⟩

theorem readCensus_badArg {p : Port} {pl : List Byte} (hdue : Due .readCensus p pl s)
    (hl : pl.length = 1 ∨ pl.length = 6) (hstart : censusStartOf s.profile.sort pl = none) :
    ∃ t, exec (.readCensus p) s = .next t ∧ Answered p .readCensus .badArg [] s t
      ∧ Happened [] [] 0 (requestBlocks p) s t :=
  exec_due_unchanged (k := .readCensus) (r := refuse .badArg) hdue (by cases p <;> rfl)
    (by simpa [RequestKind.lengthAllowed] using hl) (by simp [RequestKind.body, readCensusBody, hstart])

end

end Sys2Proof.Machine

open Sys2Proof Sys2Proof.Machine

/-- Settles O23: the payload names the place a starting point has in key order, and the entries behind it follow. -/
theorem readCensusReturnsEntriesInKeyOrder : Obligations.ReadCensusReturnsEntriesInKeyOrder := by
  intro p s
  refine ⟨fun hdue => ?_, fun xs ys e hsplit hsorted hlen hrange hd hdue => ?_,
    fun xs ys kind level ds hsplit hk hlen hrange hd hxs hys hdue => ?_, fun pl hrange hdue hbad => ?_, fun e => ?_⟩
  · exact readCensus_answered hdue (.inl rfl) rfl rfl
  · obtain ⟨hxs, hys⟩ := census_split_of_sorted hsplit hsorted
    refine readCensus_answered hdue (.inr (by simp)) (censusStartOf_named (by split <;> decide) ?_ hrange hd)
      (State.censusAfter_split (xs := xs ++ [e]) (by simpa using hsplit) hxs hys)
    rw [hlen]
    cases e.kind.isFine <;> rfl
  · exact readCensus_answered hdue (.inr (by simp)) (censusStartOf_named hk hlen hrange hd)
      (State.censusAfter_split hsplit hxs hys)
  · rcases hbad with ⟨hl, hbad⟩ | ⟨hl, hbad⟩
    · exact readCensus_badArg hdue (.inl hl) (censusStartOf_one hl hbad)
    · exact readCensus_badArg hdue (.inr hl) (censusStartOf_outOfRange hl hrange hbad)
  · intro prefixV hd
    have hprefix : digitsV e.digits = prefixV := digitsV_eq hd
    unfold State.censusEntryV
    rw [hprefix]
    cases e.kind with
    | fine n l => cases l <;> rfl
    | area l => cases l <;> rfl
end

section
/-! SET_HEAD_MAP (R164, R168) in a part that holds an identity read due for no head address: the drop of the read
clears the pending status of address 15, the last entry of the head table. -/

namespace Sys2Proof.Machine

/-- The part after reset, with an identity read due for address 16, a pending status held for address 15, and a
SET_HEAD_MAP that keeps every kind and disables polling. No run reaches it: a due identity read names one of the 16
addresses there. -/
def State.strayDue : State :=
  (State.reset.onHeads fun h => { h with
      identityDue := some 16
      table := setNth h.table 15 { HeadEntry.powerOn with pendingStatus := some 0 } }).onPort .plan fun q =>
    { q with intake := [requestFrame .setHeadMap (headMapBytes factoryHeadMap false)] }

theorem State.strayDue_due : Due .setHeadMap .plan (headMapBytes factoryHeadMap false) State.strayDue :=
  ⟨by decide, by decide, rfl⟩

/-- The read that is dropped names no entry of the head table, and the entry of address 15 loses its pending status. -/
theorem exec_setHeadMap_strayDue :
    ∃ t, exec (.setHeadMap .plan) State.strayDue = .next t ∧ (t.head 15).pendingStatus = none :=
  ⟨_, exec_due State.strayDue_due rfl rfl rfl, by decide⟩

end Sys2Proof.Machine

open Sys2Proof Sys2Proof.Machine

/-- Refutes O57: the statement does not say that a due identity read names a head address. With polling disabled and
the read due for address 16, no kind is changed and address 15 is not the one due, yet its entry does not stay: the
head table reads an address past its end as its last entry. -/
theorem not_keyRulesAndHeadMapAreReplaced : ¬ Obligations.KeyRulesAndHeadMapAreReplaced := by
  intro h
  obtain ⟨-, hmap, -⟩ := h State.strayDue
  obtain ⟨-, htaken⟩ := hmap factoryHeadMap false (by decide) State.strayDue_due
  obtain ⟨t, hexec, -, -, -, hkeeps, -⟩ := htaken (.inl rfl)
  have hstays : t.head 15 = State.strayDue.head 15 := hkeeps 15 (by decide) (by decide) (.inr (by decide))
  obtain ⟨u, hu, hcleared⟩ := exec_setHeadMap_strayDue
  obtain rfl : t = u := by simpa using hexec.symm.trans hu
  rw [hstays] at hcleared
  exact absurd hcleared (by decide)
end

section
/-! The key rules (R121, R123): when a pattern, or one of its parts, matches a key, and which slot rules it. -/

namespace Sys2Proof.Machine

/-- Position `i` of a pattern is ANY, or equals digit `j` of the key (R123). -/
def PositionAgrees (pattern : List (Option Nat)) (key : List Nat) (i j : Nat) : Prop :=
  pattern[i]? = some none ∨ ∃ d, pattern[i]? = some (some d) ∧ key[j]? = some d

section
variable {pattern : List (Option Nat)} {key : List Nat}

/-- The first position of a pattern against the first digit of a key. -/
theorem positionAgrees_zero {p : Option Nat} {ps : List (Option Nat)} :
    PositionAgrees (p :: ps) key 0 0 ↔ (p == none || p == key.head?) = true := by
  cases p with
  | none => simp [PositionAgrees]
  | some d =>
    cases key with
    | nil => simp [PositionAgrees]
    | cons x key => simpa [PositionAgrees] using eq_comm

/-- A pattern matches when each of its positions agrees with its digit. -/
theorem patternMatches_iff :
    patternMatches pattern key = true ↔ ∀ i < pattern.length, PositionAgrees pattern key i i := by
  induction pattern generalizing key with
  | nil => simp [patternMatches]
  | cons p ps ih =>
    have hrest (i : Nat) : PositionAgrees ps key.tail i i ↔ PositionAgrees (p :: ps) key (i + 1) (i + 1) := by
      simp [PositionAgrees]
    rw [patternMatches, Bool.and_eq_true, ih, ← positionAgrees_zero (ps := ps)]
    simp only [hrest, List.length_cons]
    exact (Nat.forall_lt_succ_left (p := fun i => PositionAgrees (p :: ps) key i i)).symm

/-- A part of a pattern is compared with the first digits of a key. -/
theorem patternMatches_part {m n : Nat} (h : m + n ≤ pattern.length) :
    patternMatches ((pattern.drop m).take n) key = true ↔ ∀ i < n, PositionAgrees pattern key (m + i) i := by
  have hlen : ((pattern.drop m).take n).length = n := by
    rw [List.length_take, List.length_drop]
    omega
  rw [patternMatches_iff, hlen]
  refine forall₂_congr fun i hi => ?_
  simp [PositionAgrees, hi]

end

/-- The parts of a pattern of eight positions that a key is compared with: the whole, two of four, or four of two. -/
def KeyRule.Matches (k : KeyRule) (key : List Nat) : Prop :=
  match k.mode with
  | .wide => ∀ i < 8, PositionAgrees k.pattern key i i
  | .half => (∀ i < 4, PositionAgrees k.pattern key i i) ∨ ∀ i < 4, PositionAgrees k.pattern key (4 + i) i
  | .quarter => ∃ q < 4, PositionAgrees k.pattern key (2 * q) 0 ∧ PositionAgrees k.pattern key (2 * q + 1) 1

theorem KeyRule.matchesKey_iff {k : KeyRule} {key : List Nat} (h : k.pattern.length = 8) :
    k.matchesKey key = true ↔ k.Matches key := by
  unfold KeyRule.matchesKey KeyRule.Matches
  cases k.mode with
  | wide => simp only [patternMatches_iff, h]
  | half =>
    have hfirst := patternMatches_part (pattern := k.pattern) (key := key) (m := 0) (n := 4) (by omega)
    have hsecond := patternMatches_part (pattern := k.pattern) (key := key) (m := 4) (n := 4) (by omega)
    rw [List.take_of_length_le (by simp [h])] at hsecond
    simpa [Bool.or_eq_true] using or_congr (by simpa using hfirst) hsecond
  | quarter =>
    have hpart (q : Nat) (hq : q < 4) : patternMatches ((k.pattern.drop (2 * q)).take 2) key = true
        ↔ PositionAgrees k.pattern key (2 * q) 0 ∧ PositionAgrees k.pattern key (2 * q + 1) 1 := by
      rw [patternMatches_part (by omega), Nat.forall_lt_succ_left, Nat.forall_lt_succ_left]
      simp
    have hsteps : ([0, 2, 4, 6] : List Nat) = (List.range 4).map (2 * ·) := rfl
    rw [hsteps, List.any_map, List.any_eq_true]
    simp only [List.mem_range, Function.comp_apply]
    exact exists_congr fun q => and_congr_right fun hq => hpart q hq

/-- Slot `k` is enabled and matches the key (R123). -/
def Profile.RuleMatches (f : Profile) (key : List Nat) (k : Nat) : Prop :=
  k ∈ slotNumbers ∧ (f.keyRule k).enabled = true ∧ (f.keyRule k).Matches key

/-- A key is ruled by the first slot that is enabled and matches it. -/
theorem Profile.ruledBy_iff {f : Profile} {key : List Nat} (h : ∀ k ∈ slotNumbers, (f.keyRule k).pattern.length = 8) :
    (∀ k, f.ruledBy key = some k ↔ f.RuleMatches key k ∧ ∀ j < k, ¬ f.RuleMatches key j)
      ∧ (f.ruledBy key = none ↔ ∀ k, ¬ f.RuleMatches key k) := by
  have hmatches (k : Nat) : (k ∈ slotNumbers ∧ ((f.keyRule k).enabled && (f.keyRule k).matchesKey key) = true)
      ↔ f.RuleMatches key k :=
    and_congr_right fun hk => by rw [Bool.and_eq_true, KeyRule.matchesKey_iff (h k hk)]
  refine ⟨fun k => ?_, ?_⟩
  · simp only [← hmatches]
    exact find_feederNumbers_iff
  · simp only [← hmatches, not_and]
    exact List.find?_eq_none

end Sys2Proof.Machine
end

section
/-! The census (R124 to R130): its lists after a change, which tests a rise or a fall has to make, and the fine entry
that keeps an area entry from removal. -/

namespace Sys2Proof.Machine

/-! ### Entries (R127) -/

section
variable {c : List CensusEntry} {d a : List Nat}

/-- The fine entries of some digits changed, in the words of the statements. -/
theorem onFine_eq (f : CensusEntry → CensusEntry) : onFine d f c
    = c.map fun e => if e.kind.isFine = true ∧ e.digits = d then f e else e := by
  simp [onFine]

theorem not_mem_of_findFine_none (h : findFine c d = none) : ∀ e ∈ c, e.kind.isFine = true → e.digits ≠ d := by
  intro e he hf hd
  cases hfind : c.find? fun e => e.kind.isFine && e.digits == d with
  | none => exact absurd (List.find?_eq_none.1 hfind e he) (by simp [hf, hd])
  | some x =>
    obtain ⟨digits, kind⟩ := x
    have hx := List.find?_some hfind
    cases kind with
    | area l => simp [EntryKind.isFine] at hx
    | fine n l => simp [findFine, hfind] at h

theorem mem_of_findFine {n : Nat} {l : FineLevel} (h : findFine c d = some (n, l)) : ⟨d, .fine n l⟩ ∈ c :=
  List.mem_of_find?_eq_some (findFine_eq_some.1 h)

/-- Of a census and a new fine entry, a change of the count of its digits acts on that entry alone. -/
theorem onFine_insertEntry (h : findFine c d = none) (n : Nat) (l : FineLevel) (f : Nat → Nat) :
    onFine d (CensusEntry.onCount f) (insertEntry ⟨d, .fine n l⟩ c) = insertEntry ⟨d, .fine (f n) l⟩ c := by
  have hnot := not_mem_of_findFine_none h
  have hself : ∀ x ∈ c, (if (x.kind.isFine && x.digits == d) = true then x.onCount f else x) = x := fun x hx =>
    if_neg (by simpa using hnot x hx)
  have hnew : (if (EntryKind.isFine (.fine n l) && d == d) = true then CensusEntry.onCount f ⟨d, .fine n l⟩
      else ⟨d, .fine n l⟩) = ⟨d, .fine (f n) l⟩ := if_pos (by simp [EntryKind.isFine])
  clear h hnot
  unfold onFine
  induction c with
  | nil => exact congrArg (· :: []) hnew
  | cons x c ih =>
    have hx := hself x List.mem_cons_self
    have hc : ∀ z ∈ c, (if (z.kind.isFine && z.digits == d) = true then z.onCount f else z) = z :=
      fun z hz => hself z (List.mem_cons_of_mem _ hz)
    unfold insertEntry
    by_cases hbefore : digitsBefore d x.digits = true
    · rw [if_pos hbefore, if_pos hbefore, List.map_cons, List.map_cons, hnew, hx, List.map_congr_left hc, List.map_id']
    · rw [if_neg hbefore, if_neg hbefore, List.map_cons, hx, ih hc]

theorem mem_insertEntry {e x : CensusEntry} : x ∈ insertEntry e c ↔ x = e ∨ x ∈ c := by
  induction c with
  | nil => simp [insertEntry]
  | cons z c ih =>
    unfold insertEntry
    split
    · simp
    · simp only [List.mem_cons, ih]
      tauto

/-- A change of level of fine entries leaves the area entries as they are. -/
theorem findArea_setLevel (l : FineLevel) : findArea (onFine d (CensusEntry.setLevel l) c) a = findArea c a := by
  have hfix (e : CensusEntry) : (e.setLevel l).digits = e.digits ∧ (e.setLevel l).kind.isFine = e.kind.isFine := by
    obtain ⟨digits, kind⟩ := e
    cases kind <;> exact ⟨rfl, rfl⟩
  unfold findArea onFine
  rw [List.find?_map]
  have hp : ((fun e : CensusEntry => !e.kind.isFine && e.digits == a) ∘ fun e =>
      if (e.kind.isFine && e.digits == d) = true then e.setLevel l else e)
        = fun e => !e.kind.isFine && e.digits == a := by
    funext e
    rw [Function.comp_apply]
    split
    · rw [(hfix e).1, (hfix e).2]
    · rfl
  rw [hp]
  cases h : c.find? fun e => !e.kind.isFine && e.digits == a with
  | none => rfl
  | some e =>
    have he := List.find?_some h
    have hfine : e.kind.isFine = false := by simpa using (Bool.and_eq_true_iff.1 he).1
    simp [hfine]

end

/-! ### The group end (R130) -/

section
variable {s : State} {g : TrayGroup} {a d : List Nat}

/-- What a group end leaves of the census: all of it, or what the report of the group's closed tray leaves. -/
theorem State.groupEnd_census (s : State) (g : TrayGroup) : (s.groupEnd g).census = s.census
    ∨ ∃ b, (s.groupEnd g).census = ((s.markClosed b).trayClosedReport g).census := by
  cases hfind : s.openTrayBin g with
  | none => exact .inl (by simp only [State.groupEnd, hfind])
  | some b =>
    obtain ⟨hb, y, hy, hg, ho⟩ := State.openTrayBin_spec hfind
    have hend : s.groupEnd g = s.beginClosing b .groupEnd := by simp only [State.groupEnd, hfind]
    rw [hend]
    rcases Nat.eq_zero_or_pos y.reserved with hr | hr
    · exact .inr ⟨b, hg ▸ State.beginClosing_census hb hy ho hr⟩
    · obtain ⟨-, -, heff⟩ := State.startClosing_values (reason := .groupEnd) hb hy
      rw [State.beginClosing_reserved hb hy ho hr]
      exact .inl (heff.frame .census (by simp))

/-- A group end of an area removes no entry while a fine entry stands beneath it (R128). -/
theorem State.groupEnd_area_census (h : ∃ e ∈ s.census, e.kind.isFine = true ∧ a <+: e.digits) :
    (s.groupEnd (.area a)).census = s.census := by
  rcases s.groupEnd_census (.area a) with hsame | ⟨b, hclosed⟩
  · exact hsame
  · exact hclosed.trans ((State.removeAreaIfDone_census (u := s.markClosed b)).1 (.inl h))

/-- A group end of a FINE group changes no eligible count (R129). -/
theorem State.groupEnd_fine_eligible
    (h : ∀ e ∈ s.census, e.kind.isFine = true → e.digits = d → ∃ n, e.kind = .fine n .fine) :
    (s.groupEnd (.fine d)).eligible a = s.eligible a := by
  have hof {c : List CensusEntry} (hc : (s.groupEnd (.fine d)).census = c) :
      (s.groupEnd (.fine d)).eligible a = eligibleCount s.profile.sort.fineMinimum a c := by
    simp [State.eligible, hc]
  rcases s.groupEnd_census (.fine d) with hsame | ⟨b, hclosed⟩
  · exact hof hsame
  · have hreport := State.removeFineIfDone_eligible (u := s.markClosed b) (a := a) h
    rw [hof hclosed]
    simpa [State.eligible, State.trayClosedReport, State.markClosed] using hreport

/-! ### The area test (R129) -/

/-- The eligible count has passed from `before`, above 0, to 0 under an AREA entry. -/
def State.AreaEnds (a : List Nat) (before : Nat) (s : State) : Prop :=
  findArea s.census a = some .area ∧ 0 < before ∧ s.eligible a = 0

theorem State.areaTest_ends {before : Nat} (h : s.AreaEnds a before) : s.areaTest a before = s.groupEnd (.area a) := by
  obtain ⟨harea, hbefore, hafter⟩ := h
  exact if_pos (by simp [harea, hbefore, hafter])

theorem State.areaTest_stays {before : Nat} (h : ¬ s.AreaEnds a before) : s.areaTest a before = s := by
  refine if_neg fun hcond => h ?_
  simp only [Bool.and_eq_true, beq_iff_eq, decide_eq_true_eq] at hcond
  obtain ⟨⟨harea, hbefore⟩, hafter⟩ := hcond
  exact ⟨harea, hbefore, hafter⟩

/-- The area test removes no entry while a fine entry stands beneath the area. -/
theorem State.areaTest_census {before : Nat} (h : ∃ e ∈ s.census, e.kind.isFine = true ∧ a <+: e.digits) :
    (s.areaTest a before).census = s.census := by
  by_cases hends : s.AreaEnds a before
  · rw [State.areaTest_ends hends, State.groupEnd_area_census h]
  · rw [State.areaTest_stays hends]

end

/-! ### Rises and falls (R124, R127) -/

section
variable {s : State} {d : List Nat}

/-- The count of the fine entry of some digits changed. -/
def State.recount (d : List Nat) (f : Nat → Nat) (s : State) : State := s.onCensus (onFine d (CensusEntry.onCount f))

theorem State.recount_eq (d : List Nat) (f : Nat → Nat) (s : State) : s.recount d f = { s with
    census := s.census.map fun e => if e.kind.isFine = true ∧ e.digits = d then e.onCount f else e } := by
  rw [← onFine_eq]
  rfl

theorem State.recount_findFine {n : Nat} {l : FineLevel} {f : Nat → Nat} (h : findFine s.census d = some (n, l)) :
    findFine (s.recount d f).census d = some (f n, l) := findFine_onFine h

theorem State.recount_areaEnds {f : Nat → Nat} {a : List Nat} {before : Nat} :
    (s.recount d f).AreaEnds a before ↔ findArea s.census a = some .area ∧ 0 < before
      ∧ eligibleCount s.profile.sort.fineMinimum a (s.recount d f).census = 0 := by
  have harea : findArea (s.recount d f).census a = findArea s.census a := findArea_onFine
  rw [State.AreaEnds, harea]
  rfl

/-- A rise of a fine entry that the census holds. -/
theorem State.countRises_held {n : Nat} {l : FineLevel} (h : findFine s.census d = some (n, l)) :
    s.countRises d = (s.recount d (· + 1)).areaTest (s.profile.sort.areaPrefix d)
      (s.eligible (s.profile.sort.areaPrefix d)) := by
  simp only [State.countRises, h, Option.isSome_some, if_true]
  rfl

/-- A fine entry stands beneath its own area. -/
theorem beneath_area {c : List CensusEntry} {n : Nat} {l : FineLevel} (t : SortSettings) (h : ⟨d, .fine n l⟩ ∈ c) :
    ∃ e ∈ c, e.kind.isFine = true ∧ t.areaPrefix d <+: e.digits := ⟨_, h, rfl, List.take_prefix _ _⟩

theorem State.countRises_held_census {n : Nat} {l : FineLevel} (h : findFine s.census d = some (n, l)) :
    (s.countRises d).census = (s.recount d (· + 1)).census := by
  rw [State.countRises_held h]
  exact State.areaTest_census (beneath_area _ (mem_of_findFine (State.recount_findFine h)))

/-- A rise of a fine entry that the census does not hold creates it (R124, case 3). -/
theorem State.countRises_new_census (h : findFine s.census d = none) :
    (s.countRises d).census = insertEntry ⟨d, .fine 1 .undecided⟩ s.census := by
  have hnew : onFine d (CensusEntry.onCount (· + 1)) (insertEntry ⟨d, .fine 0 .undecided⟩ s.census)
      = insertEntry ⟨d, .fine 1 .undecided⟩ s.census := onFine_insertEntry h 0 .undecided _
  have hmem : (⟨d, .fine 1 .undecided⟩ : CensusEntry) ∈ insertEntry ⟨d, .fine 1 .undecided⟩ s.census :=
    mem_insertEntry.2 (.inl rfl)
  simp only [State.countRises, h, Option.isSome_none, Bool.false_eq_true, if_false]
  rw [← hnew] at hmem
  exact (State.areaTest_census (beneath_area _ hmem)).trans hnew

/-- A fall of a fine entry, by the three tests it makes (R127). -/
theorem State.countFalls_eq (d : List Nat) (s : State) : s.countFalls d =
    ((if findFine (s.recount d (· - 1)).census d = some (0, .fine) then (s.recount d (· - 1)).groupEnd (.fine d)
      else s.recount d (· - 1)).areaTest (s.profile.sort.areaPrefix d)
        (s.eligible (s.profile.sort.areaPrefix d))).removeFineIfDone d := by
  simp only [State.countFalls, beq_iff_eq]
  rfl

/-- The fall to 0 of a FINE entry ends the fine group; the area test after it finds nothing, since entries of level FINE
are not eligible. -/
theorem State.countFalls_endsFine (h : findFine s.census d = some (1, .fine))
    (hall : ∀ e ∈ s.census, e.kind.isFine = true → e.digits = d → e.kind = .fine 1 .fine) :
    s.countFalls d = ((s.recount d (· - 1)).groupEnd (.fine d)).removeFineIfDone d := by
  have hlevels : ∀ e ∈ s.census, e.kind.isFine = true → e.digits = d → ∃ n, e.kind = .fine n .fine :=
    fun e he hf hd => ⟨1, hall e he hf hd⟩
  have hfallen : ∀ e ∈ (s.recount d (· - 1)).census, e.kind.isFine = true → e.digits = d →
      ∃ n, e.kind = .fine n .fine := by
    intro e he hf hd
    rw [State.recount_eq] at he
    obtain ⟨x, hx, rfl⟩ := List.mem_map.1 he
    by_cases hp : x.kind.isFine = true ∧ x.digits = d
    · exact ⟨0, by rw [if_pos hp, CensusEntry.onCount, hall x hx hp.1 hp.2]⟩
    · rw [if_neg hp] at hf hd
      exact absurd ⟨hf, hd⟩ hp
  have heligible (a : List Nat) : ((s.recount d (· - 1)).groupEnd (.fine d)).eligible a = s.eligible a :=
    (State.groupEnd_fine_eligible hfallen).trans (eligibleCount_onFine hlevels)
  have harea : ¬ ((s.recount d (· - 1)).groupEnd (.fine d)).AreaEnds (s.profile.sort.areaPrefix d)
      (s.eligible (s.profile.sort.areaPrefix d)) := by
    rintro ⟨-, hbefore, hafter⟩
    rw [heligible] at hafter
    omega
  rw [State.countFalls_eq, if_pos (State.recount_findFine h), State.areaTest_stays harea]

/-- A fall that ends no fine group makes the area test on the lower count. -/
theorem State.countFalls_notFine {n : Nat} {l : FineLevel} (h : findFine s.census d = some (n, l))
    (hl : l ≠ .fine ∨ 2 ≤ n) : s.countFalls d = ((s.recount d (· - 1)).areaTest (s.profile.sort.areaPrefix d)
      (s.eligible (s.profile.sort.areaPrefix d))).removeFineIfDone d := by
  have hnot : ¬ findFine (s.recount d (· - 1)).census d = some (0, .fine) := by
    rw [State.recount_findFine h]
    intro hzero
    simp only [Option.some.injEq, Prod.mk.injEq] at hzero
    obtain ⟨hn, hfine⟩ := hzero
    rcases hl with hl | hl
    · exact hl hfine
    · omega
  rw [State.countFalls_eq, if_neg hnot]

end

/-! ### The removal tests (R128) -/

section
variable {s : State} {d a : List Nat}

/-- An area entry is removed when it is there, with no fine entry beneath it and no tray of its group that is not yet
CLOSED. -/
theorem State.removeAreaIfDone_spec :
    (((∃ e ∈ s.census, e.kind.isFine = true ∧ a <+: e.digits) ∨ s.holdsUnclosed (.area a) = true
        ∨ findArea s.census a = none) → s.removeAreaIfDone a = s)
      ∧ (¬ (∃ e ∈ s.census, e.kind.isFine = true ∧ a <+: e.digits) → ¬ s.holdsUnclosed (.area a) = true →
        findArea s.census a ≠ none → s.removeAreaIfDone a =
          { s with census := s.census.filter fun e => e.kind.isFine || e.digits != a }) := by
  have hunder : (s.census.any fun e => e.kind.isFine && a.isPrefixOf e.digits) = true
      ↔ ∃ e ∈ s.census, e.kind.isFine = true ∧ a <+: e.digits := by simp [List.any_eq_true]
  rw [← hunder, ← Option.isSome_iff_ne_none, ← Option.isNone_iff_eq_none]
  unfold State.removeAreaIfDone
  refine ⟨fun h => if_neg ?_, fun hu hh hf => if_pos ?_⟩
  · rcases h with h | h | h <;> simp [h]
  · simp [hu, hh, hf]

/-- A fine entry is removed when its count is 0 and no tray of its group is held that is not yet CLOSED; then its area
entry is tested. -/
theorem State.removeFineIfDone_spec :
    (¬ ((∃ l, findFine s.census d = some (0, l)) ∧ ¬ s.holdsUnclosed (.fine d) = true) → s.removeFineIfDone d = s)
      ∧ ((∃ l, findFine s.census d = some (0, l)) ∧ ¬ s.holdsUnclosed (.fine d) = true →
        s.removeFineIfDone d = (s.onCensus fun c => c.filter fun e => !e.kind.isFine || e.digits != d).removeAreaIfDone
          (s.profile.sort.areaPrefix d)) := by
  have hzero : (findFine s.census d).elim false (fun x => x.1 == 0) = true
      ↔ ∃ l, findFine s.census d = some (0, l) := by
    cases findFine s.census d with
    | none => simp
    | some x =>
      obtain ⟨n, l⟩ := x
      simp
  have hcond : ((findFine s.census d).elim false (fun x => x.1 == 0) && !s.holdsUnclosed (.fine d)) = true
      ↔ (∃ l, findFine s.census d = some (0, l)) ∧ ¬ s.holdsUnclosed (.fine d) = true := by
    rw [Bool.and_eq_true, hzero, Bool.not_eq_true', Bool.not_eq_true]
  exact ⟨fun h => if_neg (mt hcond.1 h), fun h => if_pos (hcond.2 h)⟩

end

end Sys2Proof.Machine
end

section
/-! Classification and the level decision (R124 to R126, R132, R133), case by case. -/

namespace Sys2Proof.Machine

/-! ### Classification (R124) -/

section
variable {s : State} {key : List Nat} {n : Nat}

theorem State.classification_ruled {k : Nat} (h : s.profile.ruledBy key = some k) :
    s.classification key n = .ruled k := by
  simp only [State.classification, h]

theorem State.classification_reprint (h : s.profile.ruledBy key = none) (hn : 0 < n) :
    s.classification key n = .reprint := by
  simp only [State.classification, h, if_pos hn]

/-- A first printing that no slot rules is counted when its fine entry is there, or has room in the census. -/
theorem State.classification_counted (h : s.profile.ruledBy key = none)
    (hroom : (findFine s.census (s.profile.sort.finePrefix key)).isSome = true ∨ s.census.length < 512) :
    s.classification key 0 = .counted := by
  simp only [State.classification, h, Nat.lt_irrefl, if_false]
  exact if_pos (by rw [Bool.or_eq_true, decide_eq_true_iff]; exact hroom)

theorem State.classification_uncounted (h : s.profile.ruledBy key = none)
    (hnew : findFine s.census (s.profile.sort.finePrefix key) = none) (hfull : 512 ≤ s.census.length) :
    s.classification key 0 = .uncounted := by
  simp only [State.classification, h, Nat.lt_irrefl, if_false]
  exact if_neg (by rw [hnew, Option.isSome_none, Bool.false_or, decide_eq_true_iff]; exact Nat.not_lt.2 hfull)

end

section
variable {s : State} {r : Piece} {n : Nat} {l : FineLevel}

/-- The record with its census reference set to the case reached. -/
def State.refer (r : Piece) (c : CensusRef) (s : State) : State := s.onPiece r.id fun x => { x with census := c }

/-- Of the run table, `t` differs from `s` in the census reference of the record alone. -/
def State.Refers (s : State) (r : Piece) (c : CensusRef) (t : State) : Prop :=
  t.run = { s.run with pieces := s.run.pieces.map fun x => if x.id = r.id then { x with census := c } else x }

theorem State.classify_refers {c : CensusRef} (h : s.classification r.key r.id.reprint = c) :
    s.Refers r c (s.classify r) := by
  rw [← h]
  exact State.classify_run r s

theorem State.classify_ruled {k : Nat} (h : s.profile.ruledBy r.key = some k) :
    s.Refers r (.ruled k) (s.classify r) ∧ (s.classify r).census = s.census := by
  have hc := State.classification_ruled (n := r.id.reprint) h
  refine ⟨State.classify_refers hc, ?_⟩
  simp only [State.classify, hc]
  rfl

theorem State.classify_reprint (h : s.profile.ruledBy r.key = none) (hn : 0 < r.id.reprint) :
    s.Refers r .reprint (s.classify r) ∧ (s.classify r).census = s.census := by
  have hc := State.classification_reprint h hn
  refine ⟨State.classify_refers hc, ?_⟩
  simp only [State.classify, hc]
  rfl

/-- A counted record raises its fine entry in the census it finds. -/
theorem State.classify_counted (h : s.profile.ruledBy r.key = none) (hn : r.id.reprint = 0)
    (hroom : (findFine s.census (s.profile.sort.finePrefix r.key)).isSome = true ∨ s.census.length < 512) :
    s.Refers r .counted (s.classify r)
      ∧ s.classify r = (s.refer r .counted).countRises (s.profile.sort.finePrefix r.key) := by
  have hc : s.classification r.key r.id.reprint = .counted := by
    rw [hn]
    exact State.classification_counted h hroom
  refine ⟨State.classify_refers hc, ?_⟩
  simp only [State.classify, hc]
  rfl

theorem State.classify_counted_held (h : s.profile.ruledBy r.key = none) (hn : r.id.reprint = 0)
    (hfine : findFine s.census (s.profile.sort.finePrefix r.key) = some (n, l)) :
    s.Refers r .counted (s.classify r)
      ∧ (s.classify r).census = (s.recount (s.profile.sort.finePrefix r.key) (· + 1)).census := by
  obtain ⟨hrefers, hclassify⟩ := State.classify_counted h hn (.inl (by rw [hfine]; rfl))
  refine ⟨hrefers, ?_⟩
  rw [hclassify]
  exact State.countRises_held_census (s := s.refer r .counted) hfine

theorem State.classify_counted_new (h : s.profile.ruledBy r.key = none) (hn : r.id.reprint = 0)
    (hnew : findFine s.census (s.profile.sort.finePrefix r.key) = none) (hroom : s.census.length < 512) :
    s.Refers r .counted (s.classify r)
      ∧ (s.classify r).census = insertEntry ⟨s.profile.sort.finePrefix r.key, .fine 1 .undecided⟩ s.census := by
  obtain ⟨hrefers, hclassify⟩ := State.classify_counted h hn (.inr hroom)
  refine ⟨hrefers, ?_⟩
  rw [hclassify]
  exact State.countRises_new_census (s := s.refer r .counted) hnew

theorem State.classify_uncounted (h : s.profile.ruledBy r.key = none) (hn : r.id.reprint = 0)
    (hnew : findFine s.census (s.profile.sort.finePrefix r.key) = none) (hfull : 512 ≤ s.census.length) :
    s.Refers r .uncounted (s.classify r) ∧ (s.classify r).census = s.census
      ∧ (s.classify r).flags = s.flags ||| StickyFlag.censusFull.bit := by
  have hc : s.classification r.key r.id.reprint = .uncounted := by
    rw [hn]
    exact State.classification_uncounted h hnew hfull
  have hraise : s.classify r = (s.refer r .uncounted).raise .censusFull := by
    simp only [State.classify, hc]
    rfl
  refine ⟨State.classify_refers hc, ?_⟩
  rw [hraise]
  exact ⟨rfl, rfl⟩

end

/-! ### The level decision (R133) -/

/-- The level decided: FINE stays, and an UNDECIDED entry is FINE at or above the fine minimum. -/
theorem decidedLevel_eq (m n : Nat) (l : FineLevel) : decidedLevel m n l
    = if l = .fine ∨ l = .undecided ∧ m ≤ n then .fine else .coarse := by
  cases l <;> simp [decidedLevel]

section
variable {s : State} {a : List Nat}

theorem State.areaAnswer_area (h : findArea s.census a = some .area) : s.areaAnswer a = (s, .area a) := by
  simp only [State.areaAnswer, h]

theorem State.areaAnswer_mixed (h : findArea s.census a = some .mixed) : s.areaAnswer a = (s, .mixed) := by
  simp only [State.areaAnswer, h]

/-- The area entry that a COARSE entry finds missing is created AREA at or above the area minimum of eligible pieces. -/
theorem State.areaAnswer_createsArea (h : findArea s.census a = none) (hroom : s.census.length < 512)
    (hmin : s.profile.sort.areaMinimum ≤ s.eligible a) :
    s.areaAnswer a = (s.onCensus (insertEntry ⟨a, .area .area⟩), .area a) := by
  simp only [State.areaAnswer, h, if_pos hmin]
  exact if_pos hroom

/-- Below the area minimum it is created MIXED. -/
theorem State.areaAnswer_createsMixed (h : findArea s.census a = none) (hroom : s.census.length < 512)
    (hmin : s.eligible a < s.profile.sort.areaMinimum) :
    s.areaAnswer a = (s.onCensus (insertEntry ⟨a, .area .mixed⟩), .mixed) := by
  simp only [State.areaAnswer, h, if_neg (Nat.not_le.2 hmin)]
  exact if_pos hroom

theorem State.areaAnswer_full (h : findArea s.census a = none) (hfull : 512 ≤ s.census.length) :
    s.areaAnswer a = (s.raise .censusFull, .mixed) := by
  simp only [State.areaAnswer, h]
  exact if_neg (Nat.not_lt.2 hfull)

end

/-- The record that finishes, before the census is told of it (R19). -/
theorem State.finishRecord_run (id : PieceId) (d : Disposition) (s : State) : (s.finishRecord id d).run = { s.run with
    pieces := s.run.pieces.map fun x => if x.id = id then x.finish d else x
    outcomes := s.run.outcomes ++ [id] } := by
  have hrun : ((s.onPiece id (Piece.finish d)).onRun fun t => { t with outcomes := t.outcomes ++ [id] }).run
      = { s.run with
          pieces := s.run.pieces.map fun x => if x.id = id then x.finish d else x
          outcomes := s.run.outcomes ++ [id] } := by
    rw [State.onRun_run, State.onPiece_pieces]
  unfold State.finishRecord
  dsimp only
  split
  · exact (State.notify_fields _ _ _).1.trans hrun
  · exact hrun

/-- A group end closes the one OPEN tray of its group (R130, R155). -/
theorem State.groupEnd_opened {s : State} {g : TrayGroup} {b : Nat} {y : Tray} (hb : b ∈ binNumbers)
    (hy : (s.bin b).tray = some y) (hg : y.group = g) (ho : y.state = .opened)
    (hone : ∀ j ∈ binNumbers, ∀ z, (s.bin j).tray = some z → z.group = g → z.state = .opened → j = b) :
    s.groupEnd g = s.beginClosing b .groupEnd := by
  simp only [State.groupEnd, State.openTrayBin_some hb hy hg ho hone]

end Sys2Proof.Machine

open Sys2Proof Sys2Proof.Machine

/-- Settles O51: each operation of the census by its cases; a change of a fine count keeps the fine entry, so that a
group end it causes removes no entry beneath which it stands. -/
theorem censusClassifiesAndDecides : Obligations.CensusClassifiesAndDecides := by
  refine ⟨fun f key _ hpatterns => Profile.ruledBy_iff hpatterns, ?classified, ?level, ?counted, ?finishes, ?counts,
    ?ends, ?fineRemoved, ?areaRemoved⟩
  case classified =>
    intro r s d given
    refine ⟨fun k => State.classify_ruled, State.classify_reprint, fun n l hk hr hfine => ?_,
      State.classify_counted_new, State.classify_uncounted⟩
    obtain ⟨hgiven, hcensus⟩ := State.classify_counted_held hk hr hfine
    exact ⟨hgiven, hcensus.trans (onFine_eq _)⟩
  case level =>
    refine fun r s => ⟨fun k hr => by simp only [State.levelAnswer, hr], fun hr => ?_⟩
    rcases hr with hr | hr <;> simp only [State.levelAnswer, hr]
  case counted =>
    intro r n l s hr d a hfine fine decided eligible
    have hlevel := s.levelAnswer_counted hr hfine
    have hset : s.setFineLevel d (decidedLevel s.profile.sort.fineMinimum n l) = { s with census := decided } := by
      rw [State.setFineLevel, decidedLevel_eq]
      exact congrArg (fun c => { s with census := c }) (onFine_eq _)
    have harea : findArea decided a = findArea s.census a := by
      rw [show decided = (s.setFineLevel d (decidedLevel s.profile.sort.fineMinimum n l)).census by rw [hset]]
      exact findArea_setLevel _
    have hlength : decided.length = s.census.length := List.length_map _
    have hcoarse (h : ¬ fine) : s.levelAnswer r = State.areaAnswer a { s with census := decided } := by
      rw [hlevel, if_pos (by rw [decidedLevel_eq]; exact if_neg h), ← hset]
      rfl
    refine ⟨fun h => ?_, fun h ha => ?_, fun h ha => ?_, fun h ha hroom hmin => ?_, fun h ha hroom hmin => ?_,
      fun h ha hfull => ?_⟩
    · have hdecided : decidedLevel s.profile.sort.fineMinimum n l ≠ .coarse := by
        rw [decidedLevel_eq, if_pos h]
        decide
      rw [hlevel, if_neg hdecided, ← hset]
      rfl
    · rw [hcoarse h, State.areaAnswer_area (harea.trans ha)]
    · rw [hcoarse h, State.areaAnswer_mixed (harea.trans ha)]
    · exact (hcoarse h).trans (State.areaAnswer_createsArea (harea.trans ha) (hlength.trans_lt hroom) hmin)
    · exact (hcoarse h).trans (State.areaAnswer_createsMixed (harea.trans ha) (hlength.trans_lt hroom) hmin)
    · exact (hcoarse h).trans (State.areaAnswer_full (harea.trans ha) (hfull.trans_eq hlength.symm))
  case finishes =>
    refine fun r s => ⟨fun hr => by simp only [State.withdraw, hr]; rfl, State.withdraw_uncounted,
      fun d hpiece hstate =>
        ⟨s.finishRecord r.id d, State.finish_eq hpiece hstate, ?_, ?_, State.finishRecord_effects⟩⟩
    · rw [State.finishRecord_run]
      rfl
    · rw [State.finishRecord_run]
  case counts =>
    intro d n l s hfine a counted ends lower raise
    have hcounted (f : Nat → Nat) : counted f = s.recount d f := (State.recount_eq d f s).symm
    have hends (f : Nat → Nat) : ends (counted f) ↔ (s.recount d f).AreaEnds (s.profile.sort.areaPrefix d)
        (s.eligible (s.profile.sort.areaPrefix d)) := by
      rw [State.recount_areaEnds, ← hcounted f]
      rfl
    rw [show lower = s.recount d (· - 1) from hcounted _, show raise = s.recount d (· + 1) from hcounted _]
    have hlower := hends (· - 1)
    have hraise := hends (· + 1)
    rw [hcounted] at hlower hraise
    refine ⟨fun hl hn hall => ?_, fun hl h => ?_, fun hl h => ?_, fun hn h => ?_, fun h => ?_, fun h => ?_⟩
    · subst hl hn
      exact State.countFalls_endsFine hfine hall
    · rw [State.countFalls_notFine hfine (.inl hl), State.areaTest_ends (hlower.1 h)]
      rfl
    · rw [State.countFalls_notFine hfine (.inl hl), State.areaTest_stays (mt hlower.2 h)]
    · rw [State.countFalls_notFine hfine (.inr hn), State.areaTest_stays (mt hlower.2 h)]
      exact State.removeFineIfDone_stays (State.recount_findFine hfine) (by omega)
    · rw [State.countRises_held hfine, State.areaTest_ends (hraise.1 h)]
      rfl
    · rw [State.countRises_held hfine, State.areaTest_stays (mt hraise.2 h)]
  case ends =>
    refine fun g s => ⟨fun hnone => ?_, fun b y hb hy hg ho hone => ?_⟩
    · simp only [State.groupEnd, State.openTrayBin_none hnone]
    · have hend := State.groupEnd_opened hb hy hg ho hone
      refine ⟨hend, fun hr => ?_⟩
      rw [hend, State.beginClosing_reserved hb hy ho hr]
      exact State.startClosing_values hb hy
  case fineRemoved =>
    intro d s a held done rest under
    have hdone : done ↔ (∃ l, findFine s.census d = some (0, l)) ∧ ¬ s.holdsUnclosed (.fine d) = true :=
      and_congr_right fun _ => not_congr State.holdsUnclosed_iff.symm
    have hheld : held (.area a) ↔ ({ s with census := rest } : State).holdsUnclosed (.area a) = true :=
      State.holdsUnclosed_iff.symm
    obtain ⟨hstays, hremoved⟩ := State.removeFineIfDone_spec (s := s) (d := d)
    obtain ⟨hareaStays, hareaRemoved⟩ := State.removeAreaIfDone_spec (s := { s with census := rest }) (a := a)
    refine ⟨fun h => hstays (mt hdone.2 h), fun h harea => ?_, fun h hu hh hf => ?_⟩
    · rw [hheld] at harea
      exact (hremoved (hdone.1 h)).trans (hareaStays harea)
    · rw [hheld] at hh
      exact (hremoved (hdone.1 h)).trans (hareaRemoved hu hh hf)
  case areaRemoved =>
    intro a s held under
    have hheld : held ↔ s.holdsUnclosed (.area a) = true := State.holdsUnclosed_iff.symm
    rw [hheld]
    exact State.removeAreaIfDone_spec
end
